-- ==== Sys2Proof/Word.lean ====
section
/-! DEFINITION. The words of the Lufrane 3720 (spec/00_scope.md, section 0.6). -/

namespace Sys2Proof

/-- A word of the indication memory, of a configuration section or of a window: 16 bits. -/
abbrev Word := BitVec 16

/-- A byte of the maintenance link or half of a word. -/
abbrev Byte := BitVec 8

/-- A word address of the indication memory, 0 to 131071: 17 bits. -/
abbrev Addr := BitVec 17

/-- A reading of the millisecond counter: 32 bits, differences are taken modulo 2^32 (R164). -/
abbrev Time := BitVec 32

end Sys2Proof
end

