-- ==== Sys2Proof/Syntax.lean ====
section
/-! DEFINITION. The commands of the part: one constructor for each row of spec/opcode_table.json. The table
gives the rows no operands; the operands here are what each event carries from outside (log 4, 14, 15, 16). -/

namespace Sys2Proof

/-- A request on the upstream port: READ with an address, or WRITE with an address and a data word (R2). -/
inductive UpstreamRequest where
  | read  (addr : Addr)
  | write (addr : Addr) (data : Word)
deriving DecidableEq, Repr

/-- A transfer of the maintenance link: the 7-bit target address and the bytes that follow the address
byte (R154). -/
structure LinkTransfer where
  target : BitVec 7
  bytes  : List Byte
deriving DecidableEq, Repr

/-- How a command (a write of one word to section 14 at offset 0, R161) is framed on the link: the target
address, the check flag and the ignored bits 5 to 3 of control byte 0, the argument (low byte of the
command word) and the bytes sent after the command word (the check byte where the flag is set; anything
else makes the request a discarded one, R155). -/
structure CommandFrame where
  target    : BitVec 7
  checkFlag : Bool
  ignored   : BitVec 3
  arg       : Byte
  tail      : List Byte
deriving DecidableEq, Repr

/-- The commands, in the table's order. -/
inductive Instr where
  /-- POWER_ON (R162). -/
  | powerOn
  /-- SUPPLY_DIP (R162). -/
  | supplyDip
  /-- RESET_LINE (R162). -/
  | resetLine
  /-- POWER_UP_END (R163), with the levels of the two strap inputs at that moment. -/
  | powerUpEnd (straps : BitVec 2)
  /-- MEMORY_INIT_PAUSE_END (R14). -/
  | memoryInitPauseEnd
  /-- INITIAL_REFRESH_DONE (R14). -/
  | initialRefreshDone
  /-- STARTUP_LOAD_DONE (R165). -/
  | startupLoadDone
  /-- DESK_ON_INPUT_CHANGE (R166), with the level the input changes to. -/
  | deskOnInputChange (high : Bool)
  /-- DESK_ON_FILTER_CHANGE (R166). -/
  | deskOnFilterChange
  /-- MILLISECOND_TICK (R164). -/
  | millisecondTick
  /-- REFRESH_TICK (R11). -/
  | refreshTick
  /-- ARBITER_GRANT (R9). -/
  | arbiterGrant
  /-- REFRESH_DONE (R12). -/
  | refreshDone
  /-- UPSTREAM_COLUMN_DONE (R4). -/
  | upstreamColumnDone
  /-- UPSTREAM_ARRIVAL (R3), with the request presented. -/
  | upstreamArrival (request : UpstreamRequest)
  /-- SCAN_BURST_ARRIVAL (R6), with the start address and the count presented (0 stands for 128). -/
  | scanBurstArrival (start : Addr) (count : BitVec 8)
  /-- SCAN_WORD (R7). -/
  | scanWord
  /-- FRESHNESS_EXPIRY (R61) of the record with this index. -/
  | freshnessExpiry (n : Nat)
  /-- CHANGEOVER_TIMER_EXPIRY (R121). -/
  | changeoverTimerExpiry
  /-- AXLE_PULSE (R94). -/
  | axlePulse
  /-- AXLE_WINDOW_END (R95). -/
  | axleWindowEnd
  /-- ACK_LINE_ASSERTED (R139). -/
  | ackLineAsserted
  /-- ACK_LINE_RELEASED (R139). -/
  | ackLineReleased
  /-- ACK_PRESS (R140). -/
  | ackPress
  /-- ACK_RELEASE_SETTLED (R139). -/
  | ackReleaseSettled
  /-- POST_MESSAGE_WORD (R126): the desk computer's write of a message word, at an address of the POST window. -/
  | postMessageWord (addr : Addr) (data : Word)
  /-- POST_RAISE (R134): the write of an action word RAISE: its address, marker and ignored bits 7 to 4. -/
  | postRaise (addr : Addr) (marker : Byte) (ignored : BitVec 4)
  /-- POST_CLEAR (R135): the write of an action word CLEAR. -/
  | postClear (addr : Addr) (marker : Byte) (ignored : BitVec 4)
  /-- POST_ACK (R136): the write of an action word ACK. -/
  | postAck (addr : Addr) (marker : Byte) (ignored : BitVec 4)
  /-- BAD_POST (R127): the write of an action word whose action field is not valid. -/
  | badPost (addr : Addr) (marker : Byte) (ignored : BitVec 4) (action : BitVec 4)
  /-- STATUS_WORD_0_READ (R149): the desk computer's read at the address of STATUS word 0. -/
  | statusWord0Read (addr : Addr)
  /-- LINK_ADDRESS_PROBE (R154): a write transfer with no bytes after the address. -/
  | linkAddressProbe (target : BitVec 7)
  /-- READ_REQUEST (R159): a write transfer that carries a read request, as sent. -/
  | readRequest (transfer : LinkTransfer)
  /-- READ_TRANSFER (R159): a read transfer in which the tool reads this many bytes. -/
  | readTransfer (target : BitVec 7) (count : Nat)
  /-- SECTION_WRITE (R158): a write transfer that carries a write request, as sent. -/
  | sectionWrite (transfer : LinkTransfer)
  /-- ENTER_CONFIG (R161), command code 1. -/
  | enterConfig (frame : CommandFrame)
  /-- RESUME (R161), command code 2. -/
  | resume (frame : CommandFrame)
  /-- STORE (R170), command code 3. -/
  | store (frame : CommandFrame)
  /-- STORE_DONE (R170), with the image words the store failed to take and what it holds there instead. -/
  | storeDone (faults : List (Nat × Word))
  /-- LOAD (R171), command code 4. -/
  | load (frame : CommandFrame)
  /-- LOAD_DONE (R171). -/
  | loadDone
  /-- RELEASE (R67), command code 5; the argument is the record. -/
  | release (frame : CommandFrame)
  /-- CLEAR_RECALL (R144), command code 6. -/
  | clearRecall (frame : CommandFrame)
  /-- RESTART (R161), command code 7. -/
  | restart (frame : CommandFrame)
  /-- BAD_COMMAND (R161), with its command code. -/
  | badCommand (code : Byte) (frame : CommandFrame)
  /-- RESET_LINE_RELEASED (R163). -/
  | resetLineReleased
  /-- SUPPLY_GOOD_AFTER_DIP (R163). -/
  | supplyGoodAfterDip
deriving DecidableEq, Repr

end Sys2Proof
end

