-- ==== Sys2Proof/Config.lean ====
section
/-! DEFINITION. What is fixed for the part, and the FREE VALUES: constants with no body, for the
values and the orders the spec leaves open. A statement holds whatever they are. -/

namespace Sys2Proof.Config

/-- Number of region table elements (R19). -/
abbrev regionCount : Nat := 40
/-- Number of record table entries (R35). -/
abbrev recordCount : Nat := 24
/-- Largest word address of the indication memory (R1). -/
abbrev lastAddress : Nat := 131071
/-- Largest number of entries of the message list (R131). -/
abbrev listCapacity : Nat := 32
/-- Largest number of recall entries (R142). -/
abbrev recallCapacity : Nat := 10
/-- The format word of a valid configuration image (R165, R169). -/
abbrev imageFormat : Word := 0x3720#16

/-- FREE VALUE (log 6, 7): the word found at an address of the indication memory that has not been written
since the last full reset or refresh overrun. The first argument counts these, so that the contents after each of
them are unrelated (R18: the contents after any full reset are not guaranteed). -/
opaque unknownWord : Nat → Nat → BitVec 16

/-- FREE VALUE (log 8, 9, 10): the choice the part makes where the spec leaves an order open. Applied to
the counter `freeCount` of the state, which advances at each choice. -/
opaque freeChoice : Nat → Nat

/-- FREE VALUE (log 19): a word supplied by the part where the spec gives no word (a SLOT line that is not
configured, a RECALL offset above 39), which only a burst that outlasts a change of tables can meet. -/
opaque freeWord : Nat → BitVec 16

/-- FREE VALUE (log 10): whether the store took word `i` of a STORE that a full reset cut short after its step 3 (R170).
The first argument is the counter `freeCount` of the state. -/
opaque storeTook : Nat → Nat → Bool

/-- FREE VALUE (log 10): what the store holds in place of a word `i` that it failed to take in such a STORE (R170). -/
opaque abandonedStoreWord : Nat → Nat → BitVec 16

end Sys2Proof.Config
end

