-- ==== Sys2Proof/Machine/State.lean ====
section
/-! DEFINITION. The state of the part: every piece of state spec/ names, as plain data, and its value after
a full reset. INVENTORY.md lists each field with the rule that names it. -/

namespace Sys2Proof.Machine

/-- The part state (10, Table 10.1). -/
inductive PartState where
  | powerUp | memoryInit | load | run | config | safe | retain
deriving DecidableEq, Repr

/-- The reset cause record (R162). -/
inductive ResetCause where
  | powerOn | supplyDip | resetLine | linkRestart
deriving DecidableEq, Repr

/-- Progress of memory initialization (R14): the pause, or the number of initial refreshes done. -/
inductive InitPhase where
  | pausing
  | refreshing (done : Nat)
deriving DecidableEq, Repr

/-- State control (Section 10), with the levels of the input lines it watches. -/
structure Control where
  part             : PartState
  supplyGood       : Bool
  resetAsserted    : Bool
  deskOnInput      : Bool
  straps           : BitVec 2
  /-- the filtered level of DESK_ON, high or low (R166) -/
  deskLevel        : Bool
  /-- the moment from which the input has differed from the filtered level (R166) -/
  deskDiffersSince : Option Time
  cause            : ResetCause
  loadFailure      : Byte
  /-- the millisecond counter (R164) -/
  ms               : Time
  init             : InitPhase
deriving DecidableEq, Repr

/-- The working configuration: sections 0 to 6 as words (R158 Table 9.3). -/
structure Sections where
  part        : List Word
  regions     : List Word
  records     : List Word
  speeds      : List Word
  aspects     : List Word
  substitutes : List Word
  messages    : List Word
deriving DecidableEq, Repr

/-- The indication memory: the words written since its contents were last lost (a full reset, an overrun), addresses
strictly rising. An
address that is not listed reads as the free value `Config.unknownWord epoch` (log 6). -/
structure Memory where
  epoch : Nat
  cells : List (Nat × Word)
deriving DecidableEq, Repr

/-- Who holds the memory port (R1). -/
inductive PortHolder where
  | free | refresh | upstream | scan
deriving DecidableEq, Repr

/-- The operations of the memory port (R1). -/
inductive MemOp where
  | rowActivate (row : Nat)
  | columnRead (addr : Addr)
  | columnWrite (addr : Addr) (data : Word)
  | rowRefresh (row : Nat)
deriving DecidableEq, Repr

/-- The memory port: its holder, the row it holds open, and the operations of the grant in progress or of
the last one, oldest first (log 17). -/
structure Port where
  holder  : PortHolder
  openRow : Option Nat
  ops     : List MemOp
deriving DecidableEq, Repr

/-- The refresh unit (section 1.5). -/
structure RefreshUnit where
  row     : BitVec 10
  debt    : Nat
  armed   : Bool
  ticking : Bool
deriving DecidableEq, Repr

/-- The upstream port (R2 to R5, R16): the transaction it holds, if any. -/
inductive Upstream where
  | idle
  /-- held in POWER_UP, MEMORY_INIT or LOAD (R16) -/
  | heldAtStart (request : UpstreamRequest)
  /-- waiting as a claimant at the arbiter (R4) -/
  | claiming (request : UpstreamRequest)
  /-- a write held for a scan pin (R5) -/
  | heldForPin (request : UpstreamRequest)
  /-- granted, its column read or write being performed; for a read, the word read -/
  | serving (request : UpstreamRequest) (word : Option Word)
deriving DecidableEq, Repr

/-- Copy A or copy B of a record (R38). -/
inductive Copy where
  | a | b
deriving DecidableEq, Repr

/-- The display status of a record (R59). -/
inductive Status where
  | empty | valid | stale | recovering | barred
deriving DecidableEq, Repr

/-- A pin with its snapshot (R53): the record, its front selector, its status and the presented values of
its kind at the moment of the pin. -/
structure Snapshot where
  index     : Nat
  front     : Copy
  status    : Status
  presented : Option (List Word)
deriving DecidableEq, Repr

/-- Whether a burst waits for a grant, runs without the port, or runs holding it (R8). -/
inductive BurstPhase where
  | claiming | runningFree | holdingPort
deriving DecidableEq, Repr

/-- A burst under RUN treatment (R7): the address of its next word, the number of words left, its phase
and the pins it holds. -/
structure Burst where
  next  : Addr
  left  : Nat
  phase : BurstPhase
  pins  : List Snapshot
deriving DecidableEq, Repr

/-- The scan port: no burst, a burst held at start-up as presented (R16), or a burst in service. -/
inductive Scan where
  | idle
  | heldAtStart (start : Addr) (count : BitVec 8)
  | active (burst : Burst)
deriving DecidableEq, Repr

/-- The memory path (Section 1). -/
structure Path where
  port      : Port
  refresh   : RefreshUnit
  /-- the alternation flag (R10) -/
  alternate : Bool
  up        : Upstream
  /-- the upstream data lines: the word the last completed READ was given (R2) -/
  upData    : Word
  scan      : Scan
  /-- the words the latest burst has been given with data-valid, in column order (R7) -/
  scanOut   : List Word
  /-- the last full reset found the wait line asserted toward a request, which it cut off: the line stays asserted
  toward that request until the held state of R16 ends (R18, log 32) -/
  cutOff    : Bool
deriving DecidableEq, Repr

/-- The write state of a record (Table 3.3). -/
inductive WriteState where
  | closed
  | opened (next : Nat) (crc : Byte) (words : List Word)
deriving DecidableEq, Repr

/-- The last refusal reason of a record (Table 3.3). -/
inductive Reason where
  | none | order | check | repeated | jump | content
deriving DecidableEq, Repr

/-- The running state of one record (Table 3.3). -/
structure RecordState where
  front    : Copy
  write    : WriteState
  lastSeq  : Option Byte
  status   : Status
  refusals : Nat
  reason   : Reason
  progress : Nat
  /-- the moment of expiry of a running freshness timer (R60) -/
  timer    : Option Time
deriving DecidableEq, Repr

/-- The plausibility state of a SPEED record (R82). -/
inductive Plausibility where
  | noReference | agree | disagree
deriving DecidableEq, Repr

/-- The previous values of a SPEED record (R82). -/
structure Previous where
  slewed    : Nat
  displayed : Nat
  time      : Time
deriving DecidableEq, Repr

/-- The presented values of a SPEED record (R90): three words and the supervision class. -/
structure SpeedPresented where
  p0    : Word
  p1    : Word
  p2    : Word
  cls   : Nat
deriving DecidableEq, Repr

/-- The kind state of a SPEED record (Table 5.2). -/
structure SpeedKind where
  previous    : Option Previous
  plausible   : Plausibility
  disagreeRun : Nat
  agreeRun    : Nat
  presented   : Option SpeedPresented
deriving DecidableEq, Repr

/-- The axle window in progress (R93). -/
structure AxleWindow where
  start : Time
  count : Nat
deriving DecidableEq, Repr

/-- The axle measurement with its settings in effect (R93). -/
structure Axle where
  pulses        : Nat
  circumference : Nat
  window        : Nat
  running       : Option AxleWindow
  history       : List Nat
  vx            : Option Nat
deriving DecidableEq, Repr

/-- The speed unit (Section 5). -/
structure SpeedUnit where
  kinds : List SpeedKind
  axle  : Axle
deriving DecidableEq, Repr

/-- A shown aspect (R109). -/
structure Shown where
  code   : Nat
  rank   : Nat
  symbol : Nat
  flash  : Bool
deriving DecidableEq, Repr

/-- A pending upgrade (R111). -/
structure PendingUpgrade where
  code  : Nat
  count : Nat
deriving DecidableEq, Repr

/-- The kind state of an ASPECT record (Table 6.2). -/
structure AspectKind where
  shown    : Option Shown
  upgrade  : Option PendingUpgrade
  awaiting : Bool
deriving DecidableEq, Repr

/-- The changeover timer (R117). -/
inductive ChangeoverTimer where
  | stopped
  | running (expires : Time)
  | expired
deriving DecidableEq, Repr

/-- The selection state (R117): system in force F, requested system Q, changeover and its timer. -/
structure Selection where
  inForce    : Option Nat
  requested  : Option Nat
  changeover : Bool
  timer      : ChangeoverTimer
deriving DecidableEq, Repr

/-- The aspect unit (Section 6). -/
structure AspectUnit where
  kinds  : List AspectKind
  select : Selection
deriving DecidableEq, Repr

/-- The staged message word of a post cell (R126). -/
structure Stage where
  code     : Nat
  cls      : Nat
  needsAck : Bool
deriving DecidableEq, Repr

/-- The source of a message (R130). -/
inductive Source where
  | postCell (cell : Nat)
  | interposer
deriving DecidableEq, Repr

/-- The state of a message list entry (R130). -/
inductive EntryState where
  | unacked | acked | clearedUnacked
deriving DecidableEq, Repr

/-- An entry of the message list (R130). -/
structure Entry where
  code      : Nat
  cls       : Nat
  source    : Source
  needsAck  : Bool
  state     : EntryState
  marker    : Byte
  raiseTime : Time
  ordinal   : Nat
  count     : Nat
  headSince : Time
deriving DecidableEq, Repr

/-- A recall entry (R142). -/
structure RecallEntry where
  code       : Nat
  cls        : Nat
  marker     : Byte
  raiseTime  : Time
  removeTime : Time
deriving DecidableEq, Repr

/-- The ACK debouncer (R139). -/
inductive Debouncer where
  | released
  | pressing (since : Time)
  | pressed
  | releasing (since : Time)
deriving DecidableEq, Repr

/-- The message unit (Section 7), with the level of the ACK input. -/
structure MessageUnit where
  stages      : List (Option Stage)
  entries     : List Entry
  nextOrdinal : Nat
  recalls     : List RecallEntry
  ackLine     : Bool
  debouncer   : Debouncer
deriving DecidableEq, Repr

/-- The notice set (R148). -/
structure Notices where
  leftValid    : Bool
  refusal      : Bool
  barred       : Bool
  listOverflow : Bool
  overrun      : Bool
  copyWrite    : Bool
deriving DecidableEq, Repr

/-- The five status counts (R151). -/
structure Counts where
  overflow  : Nat
  lateAck   : Nat
  badPost   : Nat
  strayClear : Nat
  copyWrite : Nat
deriving DecidableEq, Repr

/-- The status unit (Section 8). -/
structure StatusUnit where
  notices : Notices
  counts  : Counts
deriving DecidableEq, Repr

/-- A request whose execution takes time (R157): a STORE, with the command's argument-free data and the
section words it writes, or a LOAD. -/
inductive LinkJob where
  | store (sections : Sections)
  | load
deriving DecidableEq, Repr

/-- The maintenance link (Section 9). `request` is the request buffer while a request executes; `acked` and
`out` are outputs: whether the last address byte was acknowledged, and the bytes sent in the last read
transfer. -/
structure Link where
  job        : Option LinkJob
  request    : List Byte
  reply      : List Word
  replyCheck : Bool
  result     : Word
  acked      : Bool
  out        : List Byte
deriving DecidableEq, Repr

/-- The output lines that follow the state: ALERT (R145), ATTN (R150) and the upstream wait line (R2). -/
structure Lines where
  alert : Bool
  attn  : Bool
  wait  : Bool
deriving DecidableEq, Repr

/-- The state of the part, and the queue of the commands that are waiting. -/
structure State where
  pending   : List Instr
  ctl       : Control
  cfg       : Sections
  /-- the configuration image in the non-volatile store, 816 words (R169) -/
  image     : List Word
  mem       : Memory
  path      : Path
  recs      : List RecordState
  speed     : SpeedUnit
  aspect    : AspectUnit
  msg       : MessageUnit
  status    : StatusUnit
  link      : Link
  lines     : Lines
  /-- the model's counter of free choices made (log 8) -/
  freeCount : Nat
deriving DecidableEq, Repr

/-- The reasons a step could stop the machine with a fault. There is none: nothing the spec describes stops
the part, so the type has no constructor. -/
inductive Fault where
deriving DecidableEq, Repr

/-- The reasons a step could be refused. -/
inductive Refusal where
  /-- Raised by an arm of `exec` whose command has no meaning yet; no arm raises it. Safe. -/
  | notModelled (mnemonic : String)
deriving DecidableEq, Repr

/-- Full reset values of the sections (R20, R36, R76, R80, R92, R107, R120, R128, R129). -/
def Sections.reset : Sections :=
  { part := [0#16, 1500#16, 100#16, 10#16, 1#16, 500#16]
    regions := List.replicate 120 0#16
    records := List.replicate 96 0#16
    speeds := (List.replicate 24 [0x0428#16, 0x0001#16, 0#16, 0#16]).flatten
    aspects := (List.replicate 4 (0x2000#16 :: List.replicate 32 0#16)).flatten
    substitutes := List.replicate 360 0#16
    messages := List.replicate 4 0#16 }

/-- Table 1.6. -/
def Path.reset : Path :=
  { port := { holder := .free, openRow := none, ops := [] }
    refresh := { row := 0#10, debt := 0, armed := true, ticking := false }
    alternate := false
    up := .idle
    upData := 0#16
    scan := .idle
    scanOut := []
    cutOff := false }

/-- Table 3.3, after a full reset. -/
def RecordState.reset : RecordState :=
  { front := .a, write := .closed, lastSeq := none, status := .empty, refusals := 0, reason := .none,
    progress := 0, timer := none }

/-- Table 5.2, after a full reset. -/
def SpeedKind.reset : SpeedKind :=
  { previous := none, plausible := .noReference, disagreeRun := 0, agreeRun := 0, presented := none }

/-- R93: no window runs, the history is empty and Vx is absent. -/
def Axle.reset : Axle :=
  { pulses := 0, circumference := 1500, window := 100, running := none, history := [], vx := none }

/-- Table 6.2, after a full reset. -/
def AspectKind.reset : AspectKind := { shown := none, upgrade := none, awaiting := false }

/-- R117, after a full reset. -/
def Selection.reset : Selection :=
  { inForce := none, requested := none, changeover := false, timer := .stopped }

/-- R146. The level of the ACK input is the model's choice (log 3). -/
def MessageUnit.reset : MessageUnit :=
  { stages := List.replicate 4 none, entries := [], nextOrdinal := 0, recalls := [], ackLine := false,
    debouncer := .pressed }

/-- R148: the notice set is empty. -/
def Notices.reset : Notices :=
  { leftValid := false, refusal := false, barred := false, listOverflow := false, overrun := false,
    copyWrite := false }

/-- R151: the counts are 0. -/
def Counts.reset : Counts :=
  { overflow := 0, lateAck := 0, badPost := 0, strayClear := 0, copyWrite := 0 }

/-- R157, after a full reset. -/
def Link.reset : Link :=
  { job := none, request := [], reply := [], replyCheck := false, result := 0#16, acked := false, out := [] }

/-- R18, R162 to R166. The levels of the input lines are the model's choice (log 3). -/
def Control.reset : Control :=
  { part := .powerUp, supplyGood := true, resetAsserted := false, deskOnInput := false, straps := 0#2,
    deskLevel := false, deskDiffersSince := none, cause := .powerOn, loadFailure := 0#8, ms := 0#32,
    init := .pausing }

/-- The part right after the full reset of its first POWER_ON: every block at its full reset values, an image
that no STORE has written (R169), memory with nothing listed and no command waiting. -/
def State.reset : State :=
  { pending := []
    ctl := Control.reset
    cfg := Sections.reset
    image := List.replicate 816 0#16
    mem := { epoch := 0, cells := [] }
    path := Path.reset
    recs := List.replicate Config.recordCount RecordState.reset
    speed := { kinds := List.replicate Config.recordCount SpeedKind.reset, axle := Axle.reset }
    aspect := { kinds := List.replicate Config.recordCount AspectKind.reset, select := Selection.reset }
    msg := MessageUnit.reset
    status := { notices := Notices.reset, counts := Counts.reset }
    link := Link.reset
    lines := { alert := false, attn := false, wait := false }
    freeCount := 0 }

end Sys2Proof.Machine
end

