-- ==== Sys2Proof/Machine/Ops.lean ====
section
/-! DEFINITION. The shared operations: bits and bytes, times, CRCs, the indication memory, and the named
updates of the state. -/

namespace Sys2Proof.Machine

/-! ### Bits and bytes (00, section 0.6) -/

/-- Bits `hi` to `lo` of a word, as a number. -/
def bits (w : Word) (hi lo : Nat) : Nat := w.toNat / 2 ^ lo % 2 ^ (hi - lo + 1)

/-- Bit `i` of a word. -/
def bit (w : Word) (i : Nat) : Bool := bits w i i == 1

/-- The high byte of a word comes first. -/
def highByte (w : Word) : Byte := w.extractLsb' 8 8

/-- The low byte of a word. -/
def lowByte (w : Word) : Byte := w.extractLsb' 0 8

/-- The word of two bytes, high byte first. -/
def wordOf (hi lo : Byte) : Word := hi ++ lo

/-- A number as a word. -/
def word (n : Nat) : Word := BitVec.ofNat 16 n

/-- A flag as bit `i` of a word. -/
def flagBit (b : Bool) (i : Nat) : Nat := if b then 2 ^ i else 0

/-- The bytes of words, each high byte first. -/
def bytesOf (ws : List Word) : List Byte := ws.flatMap fun w => [highByte w, lowByte w]

/-- The words of bytes, each high byte first; a last odd byte is left out. -/
def wordsOf : List Byte → List Word
  | hi :: lo :: rest => wordOf hi lo :: wordsOf rest
  | _ => []

/-! ### CRCs -/

/-- One shift of an 8-bit CRC register with polynomial 0x1D (R44, R156). -/
def crc8Shift (r : Byte) : Byte := if r.msb then (r <<< 1) ^^^ 0x1D#8 else r <<< 1

/-- One byte taken into an 8-bit CRC register: exclusive-OR, then eight shifts (R44, R156). -/
def crc8Byte (r b : Byte) : Byte := Nat.iterate crc8Shift 8 (r ^^^ b)

/-- Bytes taken into an 8-bit CRC register in order. -/
def crc8 (start : Byte) (bs : List Byte) : Byte := bs.foldl crc8Byte start

/-- The link CRC-8 (R156). -/
def linkCrc (bs : List Byte) : Byte := crc8 0xC3#8 bs

/-- The starting value of the record CRC of record `n` (R44). -/
def recordCrcStart (n : Nat) : Byte := 0xFF#8 ^^^ BitVec.ofNat 8 n

/-- A word taken into the running record CRC, high byte first (R44). -/
def recordCrcWord (r : Byte) (w : Word) : Byte := crc8 r [highByte w, lowByte w]

/-- One shift of the image CRC-16 register (R169). -/
def crc16Shift (r : Word) : Word := if r.msb then (r <<< 1) ^^^ 0x1021#16 else r <<< 1

/-- One byte taken into the high byte of the image CRC-16 register (R169). -/
def crc16Byte (r : Word) (b : Byte) : Word := Nat.iterate crc16Shift 8 (r ^^^ wordOf b 0#8)

/-- The image CRC-16 over words, high byte first (R169). -/
def imageCrc (ws : List Word) : Word := (bytesOf ws).foldl crc16Byte 0xFFFF#16

/-! ### Times (R164) -/

/-- The time from one reading to another, modulo 2^32. -/
def elapsed (since now : Time) : Nat := (now - since).toNat

/-- The counter has reached the moment of expiry of a timer. The moment lies at most 60 s ahead when the
timer is started, so a moment still ahead gives a difference in the upper half (log 5). -/
def reached (moment now : Time) : Bool := decide (elapsed moment now < 2 ^ 31)

/-- The moment `d` milliseconds after `now`. -/
def later (now : Time) (d : Nat) : Time := now + BitVec.ofNat 32 d

/-- Whole seconds since a reading, at most 65535 (R141, R143). -/
def secondsSince (since now : Time) : Nat := min (elapsed since now / 1000) 65535

/-! ### Addresses (00, section 0.6) -/

/-- The row of an address. -/
def rowOf (a : Addr) : Nat := a.toNat / 128

/-- The column of an address. -/
def columnOf (a : Addr) : Nat := a.toNat % 128

/-- The address `k` words past a base, modulo 2^17. DESIGN CHOICE (log 19): the consistency check keeps copy areas below
address 131072, so a sum past it is met only by a burst that outlasts RUN after a base was written in CONFIG (R27, R58),
for which the spec gives no address. -/
def offsetAddr (base : Addr) (k : Nat) : Addr := base + BitVec.ofNat 17 k

/-! ### The indication memory -/

/-- The word listed at an address. -/
def lookupCell (a : Nat) : List (Nat × Word) → Option Word
  | [] => none
  | (b, w) :: rest => if a = b then some w else lookupCell a rest

/-- The list with the word at an address, addresses kept rising. -/
def insertCell (a : Nat) (w : Word) : List (Nat × Word) → List (Nat × Word)
  | [] => [(a, w)]
  | (b, v) :: rest =>
    if a < b then (a, w) :: (b, v) :: rest
    else if a = b then (a, w) :: rest
    else (b, v) :: insertCell a w rest

/-- The word at an address: the word last written there, or else a free value (log 6). -/
def Memory.read (m : Memory) (a : Addr) : Word :=
  (lookupCell a.toNat m.cells).getD (Config.unknownWord m.epoch a.toNat)

/-- The memory after a column write. -/
def Memory.write (m : Memory) (a : Addr) (w : Word) : Memory :=
  { m with cells := insertCell a.toNat w m.cells }

/-- The addresses of the cells rise strictly, and none passes the last address. -/
def risingFrom : Option Nat → List (Nat × Word) → Bool
  | _, [] => true
  | none, (a, _) :: rest => decide (a ≤ Config.lastAddress) && risingFrom (some a) rest
  | some b, (a, _) :: rest => decide (b < a) && decide (a ≤ Config.lastAddress) && risingFrom (some a) rest

/-- The canonical form of the memory. -/
def Memory.wf (m : Memory) : Bool := risingFrom none m.cells

/-- The memory after a full reset or a refresh overrun: nothing is known of its contents (R18, log 6, log 7). -/
def Memory.forget (m : Memory) : Memory := { epoch := m.epoch + 1, cells := [] }

/-! ### Named updates of the state -/

def State.withCtl (s : State) (x : Control) : State := { s with ctl := x }
def State.withCfg (s : State) (x : Sections) : State := { s with cfg := x }
def State.withImage (s : State) (x : List Word) : State := { s with image := x }
def State.withMem (s : State) (x : Memory) : State := { s with mem := x }
def State.withPath (s : State) (x : Path) : State := { s with path := x }
def State.withRecs (s : State) (x : List RecordState) : State := { s with recs := x }
def State.withSpeed (s : State) (x : SpeedUnit) : State := { s with speed := x }
def State.withAspect (s : State) (x : AspectUnit) : State := { s with aspect := x }
def State.withMsg (s : State) (x : MessageUnit) : State := { s with msg := x }
def State.withStatus (s : State) (x : StatusUnit) : State := { s with status := x }
def State.withLink (s : State) (x : Link) : State := { s with link := x }
def State.withLines (s : State) (x : Lines) : State := { s with lines := x }
def State.withFreeCount (s : State) (x : Nat) : State := { s with freeCount := x }

/-- The running state of record `n`. -/
def State.record (s : State) (n : Nat) : RecordState := s.recs.getD n RecordState.reset

/-- The state with record `n` replaced. -/
def State.setRecord (s : State) (n : Nat) (r : RecordState) : State := s.withRecs (s.recs.set n r)

/-- The kind state of SPEED record `n`. -/
def State.speedKind (s : State) (n : Nat) : SpeedKind := s.speed.kinds.getD n SpeedKind.reset

/-- The state with the kind state of SPEED record `n` replaced. -/
def State.setSpeedKind (s : State) (n : Nat) (k : SpeedKind) : State :=
  s.withSpeed { s.speed with kinds := s.speed.kinds.set n k }

/-- The kind state of ASPECT record `n`. -/
def State.aspectKind (s : State) (n : Nat) : AspectKind := s.aspect.kinds.getD n AspectKind.reset

/-- The state with the kind state of ASPECT record `n` replaced. -/
def State.setAspectKind (s : State) (n : Nat) (k : AspectKind) : State :=
  s.withAspect { s.aspect with kinds := s.aspect.kinds.set n k }

/-- The state with the selection state replaced. -/
def State.setSelection (s : State) (x : Selection) : State := s.withAspect { s.aspect with select := x }

/-- The millisecond counter. -/
def State.now (s : State) : Time := s.ctl.ms

/-- The part state. -/
def State.part (s : State) : PartState := s.ctl.part

/-- The state with the part state replaced. -/
def State.setPart (s : State) (p : PartState) : State := s.withCtl { s.ctl with part := p }

/-- RUN or RETAIN: traffic is classified (R15). -/
def State.inService (s : State) : Bool := s.part == .run || s.part == .retain

/-- POWER_UP, MEMORY_INIT or LOAD: traffic is held (R16). -/
def State.startingUp (s : State) : Bool := s.part == .powerUp || s.part == .memoryInit || s.part == .load

/-- One free choice among `k` cases, and the state with the counter advanced (log 8). -/
def State.choose (s : State) (k : Nat) : Nat × State :=
  (Config.freeChoice s.freeCount % k, s.withFreeCount (s.freeCount + 1))

/-- The indices of the records. -/
def recordIndices : List Nat := List.range Config.recordCount

end Sys2Proof.Machine
end

