-- ==== Sys2Proof/Machine/Tables.lean ====
section
/-! DEFINITION. The working configuration read as the tables of the spec: region table (R19), record table
(R35, R37), speed settings (R79), aspect tables (R106), part settings (R92, R120, R129), class limits (R128). -/

namespace Sys2Proof.Machine

/-- Word `i` of a section. -/
def at0 (ws : List Word) (i : Nat) : Word := ws.getD i 0#16

/-! ### Region table (Table 2.1) -/

inductive MatchType where
  | off | range | pair | masked
deriving DecidableEq, Repr

inductive PortSet where
  | both | upstream | scan
deriving DecidableEq, Repr

inductive Action where
  | pass | protect | record | post | slot | recalled | status
deriving DecidableEq, Repr

structure Region where
  matchType : MatchType
  ports     : PortSet
  action    : Action
  opA       : Addr
  opB       : Addr
  record    : Nat
deriving DecidableEq, Repr

def matchTypeOf (c : Nat) : MatchType :=
  if c = 1 then .range else if c = 2 then .pair else if c = 3 then .masked else .off

/-- Code 3 is refused by the link (R19); a table that held it is read as BOTH (log 19). -/
def portSetOf (c : Nat) : PortSet := if c = 1 then .upstream else if c = 2 then .scan else .both

/-- Codes 7 to 15 are refused by the link (R19); a table that held one is read as PASS (log 19). -/
def actionOf (c : Nat) : Action :=
  if c = 1 then .protect else if c = 2 then .record else if c = 3 then .post
  else if c = 4 then .slot else if c = 5 then .recalled else if c = 6 then .status else .pass

/-- A 17-bit address from its bit 16 and its low word. -/
def addrOf (top : Bool) (low : Word) : Addr := BitVec.ofNat 17 (flagBit top 16 + low.toNat)

/-- Element `i` of the region table (Table 2.1). A record number of 24 to 31, which the link refuses (R19), is kept as it
is: `Sections.entry` has an entry of kind NONE for it (DESIGN CHOICE, log 19). -/
def Sections.region (c : Sections) (i : Nat) : Region :=
  let w0 := at0 c.regions (3 * i)
  { matchType := matchTypeOf (bits w0 15 14)
    ports := portSetOf (bits w0 13 12)
    action := actionOf (bits w0 11 8)
    opA := addrOf (bit w0 7) (at0 c.regions (3 * i + 1))
    opB := addrOf (bit w0 6) (at0 c.regions (3 * i + 2))
    record := bits w0 4 0 }

/-- The region table in index order. -/
def Sections.regionTable (c : Sections) : List Region := (List.range Config.regionCount).map c.region

/-! ### Record table (Table 3.1, Table 3.2) -/

inductive Kind where
  | none | speed | aspect | select | plain
deriving DecidableEq, Repr

/-- Codes 5 to 7 are refused by the link (R35); a table that held one is read as NONE (log 19). -/
def kindOf (c : Nat) : Kind :=
  if c = 1 then .speed else if c = 2 then .aspect else if c = 3 then .select else if c = 4 then .plain
  else .none

structure RecordEntry where
  kind          : Kind
  inputField    : Nat
  system        : Nat
  copyA         : Addr
  copyB         : Addr
  staleClass    : Nat
  staleNeedsAck : Bool
  freshness     : Nat
  recovery      : Nat
  refusalLimit  : Nat
deriving DecidableEq, Repr

/-- Entry `n` of the record table (Table 3.1). DESIGN CHOICE (log 19): the table has 24 entries (R35), and an entry of
kind NONE stands for the record numbers 24 to 31 that an element in a foreign image can name (R19); and a field with a
value that the link refuses and only a foreign image can hold (an input count of 0 or 15 for PLAIN, a recovery count of 0
or 5 to 7, a freshness period of 0) is used as it reads. -/
def Sections.entry (c : Sections) (n : Nat) : RecordEntry :=
  let w0 := at0 c.records (4 * n)
  let w3 := at0 c.records (4 * n + 3)
  { kind := kindOf (bits w0 15 13)
    inputField := bits w0 12 9
    system := bits w0 8 7
    copyA := addrOf (bit w0 6) (at0 c.records (4 * n + 1))
    copyB := addrOf (bit w0 5) (at0 c.records (4 * n + 2))
    staleClass := bits w0 4 3
    staleNeedsAck := bit w0 2
    freshness := bits w3 15 8
    recovery := bits w3 7 5
    refusalLimit := bits w3 4 1 }

/-- The entry is in use (R35). -/
def RecordEntry.held (e : RecordEntry) : Bool := e.kind != .none

/-- The number of input words I (Table 3.2). A PLAIN input count of 0 or 15, which only a foreign image can hold, is used as
it reads: with 0 every word written at offset 0 opens a version that nothing closes, and with 15 the window has 16 words
(DESIGN CHOICE, log 19). -/
def RecordEntry.inputs (e : RecordEntry) : Nat :=
  match e.kind with
  | .none => 0
  | .speed => 3
  | .aspect => 2
  | .select => 1
  | .plain => e.inputField

/-- The window length L (Table 3.2). An entry that is not in use has no window. -/
def RecordEntry.length (e : RecordEntry) : Nat :=
  match e.kind with
  | .none => 0
  | .speed => 7
  | .aspect => 5
  | .select => 5
  | .plain => e.inputField + 1

/-- The base of a copy (R38). -/
def RecordEntry.base (e : RecordEntry) (c : Copy) : Addr :=
  match c with
  | .a => e.copyA
  | .b => e.copyB

/-- The other copy (R38). -/
def Copy.other : Copy → Copy
  | .a => .b
  | .b => .a

/-- The kind of record `n`. -/
def State.kind (s : State) (n : Nat) : Kind := (s.cfg.entry n).kind

/-! ### Speed settings (Table 5.1) -/

structure SpeedSettings where
  scaleEnd   : Nat
  slewLimit  : Nat
  hysteresis : Nat
  warnAbs    : Nat
  warnProp   : Nat
  intAbs     : Nat
  intProp    : Nat
  tolAbs     : Nat
  tolProp    : Nat
  runLength  : Nat
deriving DecidableEq, Repr

/-- The speed settings area of entry `n` (Table 5.1). Values outside their ranges, which the link refuses (R79) and only a
foreign image can hold, are used as they read (DESIGN CHOICE, log 19). -/
def Sections.speedSettings (c : Sections) (n : Nat) : SpeedSettings :=
  let w0 := at0 c.speeds (4 * n)
  let w1 := at0 c.speeds (4 * n + 1)
  let w2 := at0 c.speeds (4 * n + 2)
  let w3 := at0 c.speeds (4 * n + 3)
  { scaleEnd := bits w0 9 0
    slewLimit := bits w0 15 10
    hysteresis := bits w1 15 13
    warnAbs := bits w1 7 4
    warnProp := bits w2 7 1
    intAbs := bits w1 12 8
    intProp := bits w2 15 8
    tolAbs := bits w3 7 3
    tolProp := bits w3 15 8
    runLength := bits w1 3 0 }

/-! ### Aspect tables (Table 6.1) -/

structure AspectEntry where
  code   : Nat
  symbol : Nat
  onEntry : Bool
  rank   : Nat
deriving DecidableEq, Repr

/-- The header word of the table of system `s`. -/
def Sections.aspectHeader (c : Sections) (sys : Nat) : Word := at0 c.aspects (33 * sys)

def Sections.systemEnabled (c : Sections) (sys : Nat) : Bool := bit (c.aspectHeader sys) 15
def Sections.confirmCount (c : Sections) (sys : Nat) : Nat := bits (c.aspectHeader sys) 14 13
def Sections.aspectCount (c : Sections) (sys : Nat) : Nat := bits (c.aspectHeader sys) 12 8
def Sections.staleSymbol (c : Sections) (sys : Nat) : Nat := bits (c.aspectHeader sys) 7 0

/-- Entry `j` of the table of system `sys` (Table 6.1). -/
def Sections.aspectEntry (c : Sections) (sys j : Nat) : AspectEntry :=
  let w1 := at0 c.aspects (33 * sys + 1 + 2 * j)
  let w2 := at0 c.aspects (33 * sys + 2 + 2 * j)
  { code := bits w1 15 8, symbol := bits w1 7 0, onEntry := bit w2 15, rank := bits w2 3 0 }

/-- The entries in use: entries 0 to entry count − 1 (R106). A count of 17 to 31, which the link refuses and only a foreign
image can hold, is read on into the words after the table (DESIGN CHOICE, log 19). -/
def Sections.aspectsInUse (c : Sections) (sys : Nat) : List AspectEntry :=
  (List.range (c.aspectCount sys)).map (c.aspectEntry sys)

/-- The entry in use with an aspect code (R108). -/
def Sections.findAspect (c : Sections) (sys code : Nat) : Option AspectEntry :=
  (c.aspectsInUse sys).find? fun e => e.code == code

/-! ### Part settings and class limits

Values outside their ranges (R92, R120, R129), which only a foreign image can hold, are used as they read (DESIGN CHOICE,
log 19). -/

def Sections.axlePulses (c : Sections) : Nat := (at0 c.part 0).toNat
def Sections.axleCircumference (c : Sections) : Nat := (at0 c.part 1).toNat
def Sections.axleWindow (c : Sections) : Nat := (at0 c.part 2).toNat
/-- The changeover timeout in seconds (R120). -/
def Sections.changeoverTimeout (c : Sections) : Nat := (at0 c.part 3).toNat
/-- The number of slot lines (R129). -/
def Sections.slotLines (c : Sections) : Nat := (at0 c.part 4).toNat
/-- The acknowledgement settle time in milliseconds (R129). -/
def Sections.settleTime (c : Sections) : Nat := (at0 c.part 5).toNat
/-- The class limit of a post cell (R128). -/
def Sections.classLimit (c : Sections) (cell : Nat) : Nat := bits (at0 c.messages cell) 1 0

/-- Word `k` of the substitute list of record `n` (R76). A list has 15 words; word 15, which only the 16-word window of a
PLAIN input count of 15 has, is read on from the next record's list, or as 0 past the section (DESIGN CHOICE, log 19). -/
def Sections.substitute (c : Sections) (n k : Nat) : Word := at0 c.substitutes (15 * n + k)

/-- A section by its number (Table 9.3). -/
def Sections.get (c : Sections) (i : Nat) : List Word :=
  match i with
  | 0 => c.part
  | 1 => c.regions
  | 2 => c.records
  | 3 => c.speeds
  | 4 => c.aspects
  | 5 => c.substitutes
  | 6 => c.messages
  | _ => []

/-- The configuration with a section replaced. -/
def Sections.put (c : Sections) (i : Nat) (ws : List Word) : Sections :=
  match i with
  | 0 => { c with part := ws }
  | 1 => { c with regions := ws }
  | 2 => { c with records := ws }
  | 3 => { c with speeds := ws }
  | 4 => { c with aspects := ws }
  | 5 => { c with substitutes := ws }
  | 6 => { c with messages := ws }
  | _ => c

/-- The 814 words of sections 0 to 6, section by section and offset by offset (R169). -/
def Sections.toWords (c : Sections) : List Word :=
  c.part ++ c.regions ++ c.records ++ c.speeds ++ c.aspects ++ c.substitutes ++ c.messages

/-- The sections held in 814 words in image order (R169). -/
def sectionsOfWords (ws : List Word) : Sections :=
  { part := ws.take 6
    regions := (ws.drop 6).take 120
    records := (ws.drop 126).take 96
    speeds := (ws.drop 222).take 96
    aspects := (ws.drop 318).take 132
    substitutes := (ws.drop 450).take 360
    messages := (ws.drop 810).take 4 }

end Sys2Proof.Machine
end

