-- ==== Sys2Proof/Machine/Consistency.lean ====
section
/-! DEFINITION. The consistency check (R168) and the values a section write is refused for (R158 check 5, with
R19, R35, R79, R92, R106, R120, R128, R129). -/

namespace Sys2Proof.Machine

/-! ### Matching (R21, R22) -/

/-- The element matches an address, whatever its port set (R21). -/
def Region.hits (e : Region) (a : Addr) : Bool :=
  match e.matchType with
  | .off => false
  | .range => decide (e.opA.toNat ≤ a.toNat) && decide (a.toNat ≤ e.opB.toNat)
  | .pair => a == e.opA || a == e.opB
  | .masked => (a &&& e.opB) == (e.opA &&& e.opB)

/-- The length of a RANGE element (R168). -/
def Region.length (e : Region) : Nat :=
  if e.opA.toNat ≤ e.opB.toNat then e.opB.toNat - e.opA.toNat + 1 else 0

/-- The element is a RECORD element in use. -/
def Region.isRecord (e : Region) : Bool := e.matchType != .off && e.action == .record

/-- The element is one of POST, SLOT, RECALL or STATUS in use. -/
def Region.isService (e : Region) : Bool :=
  e.matchType != .off &&
    (e.action == .post || e.action == .slot || e.action == .recalled || e.action == .status)

/-! ### The tests of Table 10.2, each true where the check fails -/

/-- The held records, by index. -/
def Sections.heldRecords (c : Sections) : List Nat := recordIndices.filter fun n => (c.entry n).held

/-- The RECORD elements in use. -/
def Sections.recordElements (c : Sections) : List Region := c.regionTable.filter Region.isRecord

def Sections.fails1 (c : Sections) : Bool :=
  c.recordElements.any fun e =>
    e.matchType != .range || !(c.entry e.record).held || e.length != (c.entry e.record).length

def Sections.fails2 (c : Sections) : Bool :=
  c.heldRecords.any fun n => c.recordElements.countP (fun e => e.record == n) != 1

/-- The copy areas of the held records: base and length. -/
def Sections.copyAreas (c : Sections) : List (Nat × Nat) :=
  c.heldRecords.flatMap fun n =>
    [((c.entry n).copyA.toNat, (c.entry n).length), ((c.entry n).copyB.toNat, (c.entry n).length)]

/-- Two areas share an address. -/
def areasMeet (x y : Nat × Nat) : Bool := decide (x.1 < y.1 + y.2) && decide (y.1 < x.1 + x.2)

/-- Some two areas of a list overlap. -/
def someOverlap : List (Nat × Nat) → Bool
  | [] => false
  | x :: rest => rest.any (areasMeet x) || someOverlap rest

/-- An area holds an address the element matches. -/
def Region.hitsArea (e : Region) (x : Nat × Nat) : Bool :=
  (List.range x.2).any fun i => e.hits (BitVec.ofNat 17 (x.1 + i))

def Sections.fails3 (c : Sections) : Bool :=
  c.copyAreas.any (fun x => decide (Config.lastAddress < x.1 + x.2 - 1)) || someOverlap c.copyAreas ||
    c.copyAreas.any fun x => c.regionTable.any fun e => (e.isRecord || e.isService) && e.hitsArea x

/-- The systems of the ASPECT records, in record order. -/
def Sections.aspectSystems (c : Sections) : List Nat :=
  (recordIndices.filter fun n => (c.entry n).kind == .aspect).map fun n => (c.entry n).system

/-- The number of SELECT records. -/
def Sections.selectCount (c : Sections) : Nat := recordIndices.countP fun n => (c.entry n).kind == .select

/-- The numbers of the systems. -/
def systems : List Nat := List.range 4

def Sections.fails4 (c : Sections) : Bool :=
  c.aspectSystems.any (fun y => !c.systemEnabled y) || !decide c.aspectSystems.Nodup ||
    systems.any fun y => c.systemEnabled y && !c.aspectSystems.contains y

def Sections.fails5 (c : Sections) : Bool :=
  if c.aspectSystems.isEmpty then c.selectCount != 0 else c.selectCount != 1

def Sections.fails6 (c : Sections) : Bool :=
  systems.any fun y =>
    !decide ((c.aspectsInUse y).map AspectEntry.code).Nodup || (c.systemEnabled y && c.aspectCount y == 0)

def Sections.fails7 (c : Sections) : Bool :=
  recordIndices.any fun n =>
    (c.entry n).kind == .speed &&
      (decide ((c.speedSettings n).intAbs < (c.speedSettings n).warnAbs) ||
        decide ((c.speedSettings n).intProp < (c.speedSettings n).warnProp))

/-- The length a POST, SLOT, RECALL or STATUS element must have. -/
def Sections.serviceLength (c : Sections) : Action → Nat
  | .post => 8
  | .slot => 4 * c.slotLines
  | .recalled => 40
  | .status => 32
  | .pass => 0
  | .protect => 0
  | .record => 0

def Sections.fails8 (c : Sections) : Bool :=
  let es := c.regionTable.filter Region.isService
  es.any (fun e => e.matchType != .range || e.length != c.serviceLength e.action ||
      (e.action == .status && e.ports == .scan)) ||
    !decide (es.map Region.action).Nodup

/-- The consistency check (R168): the code of the first test that fails, or none where it passes. -/
def Sections.check (c : Sections) : Option Nat :=
  if c.fails1 then some 1
  else if c.fails2 then some 2
  else if c.fails3 then some 3
  else if c.fails4 then some 4
  else if c.fails5 then some 5
  else if c.fails6 then some 6
  else if c.fails7 then some 7
  else if c.fails8 then some 8
  else none

/-! ### Values a section write is refused for -/

/-- The size of an element, entry, area or table of a section (R158 check 5). -/
def unitSize (section_ : Nat) : Nat :=
  if section_ = 1 then 3 else if section_ = 2 then 4 else if section_ = 3 then 4
  else if section_ = 4 then 33 else 1

/-- Section 0, word `u`: R92, R120, R129. -/
def partWordOk (u : Nat) (w : Word) : Bool :=
  let v := w.toNat
  match u with
  | 0 => decide (v ≤ 200)
  | 1 => decide (1500 ≤ v) && decide (v ≤ 4000)
  | 2 => decide (100 ≤ v) && decide (v ≤ 1000) && v % 50 == 0
  | 3 => decide (1 ≤ v) && decide (v ≤ 60)
  | 4 => decide (1 ≤ v) && decide (v ≤ 4)
  | _ => decide (200 ≤ v) && decide (v ≤ 2000)

/-- Section 1, element `u`: R19. -/
def regionOk (ws : List Word) (u : Nat) : Bool :=
  let w := at0 ws (3 * u)
  bits w 13 12 != 3 && decide (bits w 11 8 ≤ 6) && decide (bits w 4 0 ≤ 23) &&
    (bits w 4 0 == 0 || bits w 11 8 == 2) && !bit w 5

/-- Section 2, entry `u`: R35. -/
def recordOk (ws : List Word) (u : Nat) : Bool :=
  let w0 := at0 ws (4 * u)
  let w1 := at0 ws (4 * u + 1)
  let w2 := at0 ws (4 * u + 2)
  let w3 := at0 ws (4 * u + 3)
  decide (bits w0 15 13 ≤ 4) &&
    (if bits w0 15 13 = 4 then decide (1 ≤ bits w0 12 9) && decide (bits w0 12 9 ≤ 14) else bits w0 12 9 == 0) &&
    (bits w0 15 13 == 2 || bits w0 8 7 == 0) &&
    (if bits w0 15 13 = 0 then w0 == 0#16 && w1 == 0#16 && w2 == 0#16 && w3 == 0#16
     else decide (1 ≤ bits w3 15 8) && decide (1 ≤ bits w3 7 5) && decide (bits w3 7 5 ≤ 4)) &&
    bits w0 1 0 == 0 && !bit w3 0

/-- Section 3, area `u`: R79. -/
def speedOk (ws : List Word) (u : Nat) : Bool :=
  let w0 := at0 ws (4 * u)
  let w1 := at0 ws (4 * u + 1)
  let w2 := at0 ws (4 * u + 2)
  let w3 := at0 ws (4 * u + 3)
  decide (40 ≤ bits w0 9 0) && decide (bits w0 9 0 ≤ 600) &&
    decide (1 ≤ bits w0 15 10) && decide (bits w0 15 10 ≤ 50) &&
    decide (1 ≤ bits w1 3 0) && decide (bits w1 3 0 ≤ 8) &&
    decide (bits w2 7 1 ≤ 100) && decide (bits w2 15 8 ≤ 200) &&
    decide (bits w3 15 8 ≤ 200) && decide (bits w3 7 3 ≤ 20) &&
    !bit w2 0 && bits w3 2 0 == 0

/-- Section 4, table `u`: R106. -/
def aspectOk (ws : List Word) (u : Nat) : Bool :=
  let h := at0 ws (33 * u)
  bits h 14 13 != 0 && decide (bits h 12 8 ≤ 16) &&
    (List.range 16).all fun j => bits (at0 ws (33 * u + 2 + 2 * j)) 14 4 == 0

/-- Unit `u` of a section, as it stands in `ws`, holds no value its section refuses. -/
def unitOk (section_ : Nat) (ws : List Word) (u : Nat) : Bool :=
  match section_ with
  | 0 => partWordOk u (at0 ws u)
  | 1 => regionOk ws u
  | 2 => recordOk ws u
  | 3 => speedOk ws u
  | 4 => aspectOk ws u
  | 5 => true
  | _ => bits (at0 ws u) 15 2 == 0

/-- The section after `data` is written from `offset` on. -/
def overwrite (ws : List Word) (offset : Nat) : List Word → List Word
  | [] => ws
  | w :: rest => overwrite (ws.set offset w) (offset + 1) rest

/-- The units a write of `count` words from `offset` on covers, in whole or in part. -/
def unitsCovered (section_ offset count : Nat) : List Nat :=
  let first := offset / unitSize section_
  (List.range ((offset + count - 1) / unitSize section_ + 1 - first)).map (first + ·)

/-- The write places no refused value: each unit it covers is tested as it would stand after it (R158). -/
def writeOk (section_ offset count : Nat) (after : List Word) : Bool :=
  (unitsCovered section_ offset count).all (unitOk section_ after)

end Sys2Proof.Machine
end

