-- ==== Sys2Proof/Machine/Classifier.lean ====
section
/-! DEFINITION. The address classifier (Section 2). -/

namespace Sys2Proof.Machine

/-- The port a request came in on (R22). -/
inductive ReqPort where
  | upstream | scan
deriving DecidableEq, Repr

/-- The class of a request, with the window offset and the record number (R23). -/
inductive AddrClass where
  | copy
  | pass
  | protect
  | record (n k : Nat)
  | post (k : Nat)
  | slot (k : Nat)
  | recalled (k : Nat)
  | status (k : Nat)
  | unmatched
deriving DecidableEq, Repr

/-- The port set includes the request's port (R22). -/
def PortSet.includes : PortSet → ReqPort → Bool
  | .both, _ => true
  | .upstream, .upstream => true
  | .upstream, .scan => false
  | .scan, .scan => true
  | .scan, .upstream => false

/-- The window offset: the address minus operand A (R23), modulo 2^17 (log 19). -/
def Region.offset (e : Region) (a : Addr) : Nat := (a - e.opA).toNat

/-- The class an element gives an address it decides (R23). -/
def Region.classOf (e : Region) (a : Addr) : AddrClass :=
  match e.action with
  | .pass => .pass
  | .protect => .protect
  | .record => .record e.record (e.offset a)
  | .post => .post (e.offset a)
  | .slot => .slot (e.offset a)
  | .recalled => .recalled (e.offset a)
  | .status => .status (e.offset a)

/-- The element that decides a request: the lowest index that matches and applies (R23). -/
def Sections.decide (c : Sections) (p : ReqPort) (a : Addr) : Option Region :=
  c.regionTable.find? fun e => e.hits a && e.ports.includes p

/-- The address lies in a copy area of entry `e` (R24). -/
def RecordEntry.inCopy (e : RecordEntry) (a : Addr) : Bool :=
  (Decidable.decide (e.copyA.toNat ≤ a.toNat) && Decidable.decide (a.toNat < e.copyA.toNat + e.length)) ||
    (Decidable.decide (e.copyB.toNat ≤ a.toNat) && Decidable.decide (a.toNat < e.copyB.toNat + e.length))

/-- The implicit copy-area check (R24). An entry that is not held has length 0 and no copy area. -/
def Sections.inCopyArea (c : Sections) (a : Addr) : Bool := recordIndices.any fun n => (c.entry n).inCopy a

/-- The class of a request (R23, R24). -/
def Sections.classify (c : Sections) (p : ReqPort) (a : Addr) : AddrClass :=
  if c.inCopyArea a then .copy
  else
    match c.decide p a with
    | some e => e.classOf a
    | none => .unmatched

end Sys2Proof.Machine
end

