-- ==== Sys2Proof/Machine/Flags.lean ====
section
/-! DEFINITION. The status unit's notices and counts (Section 8) and the output lines that follow the state:
ALERT (R145), ATTN (R150) and the upstream wait line (R2). -/

namespace Sys2Proof.Machine

/-- The six notices (R148). -/
inductive Notice where
  | leftValid | refusal | barred | listOverflow | overrun | copyWrite
deriving DecidableEq, Repr

/-- The notice set with a notice set; one already set stays set (R148). -/
def Notices.add (x : Notices) : Notice → Notices
  | .leftValid => { x with leftValid := true }
  | .refusal => { x with refusal := true }
  | .barred => { x with barred := true }
  | .listOverflow => { x with listOverflow := true }
  | .overrun => { x with overrun := true }
  | .copyWrite => { x with copyWrite := true }

/-- The notice set holds at least one notice. -/
def Notices.any (x : Notices) : Bool :=
  x.leftValid || x.refusal || x.barred || x.listOverflow || x.overrun || x.copyWrite

/-- Bits 5 to 0 of STATUS word 0 (Table 8.2). -/
def Notices.toNat (x : Notices) : Nat :=
  flagBit x.leftValid 0 + flagBit x.refusal 1 + flagBit x.barred 2 + flagBit x.listOverflow 3 +
    flagBit x.overrun 4 + flagBit x.copyWrite 5

/-- A count rises by one and stays at 255 (R151). -/
def countUp (n : Nat) : Nat := if n < 255 then n + 1 else 255

/-- The state with a notice set. -/
def State.notify (s : State) (x : Notice) : State :=
  s.withStatus { s.status with notices := s.status.notices.add x }

/-- The state with a notice set where a condition holds. -/
def State.notifyIf (s : State) (b : Bool) (x : Notice) : State := if b then s.notify x else s

def State.countOverflow (s : State) : State :=
  s.withStatus { s.status with counts := { s.status.counts with overflow := countUp s.status.counts.overflow } }
def State.countLateAck (s : State) : State :=
  s.withStatus { s.status with counts := { s.status.counts with lateAck := countUp s.status.counts.lateAck } }
def State.countBadPost (s : State) : State :=
  s.withStatus { s.status with counts := { s.status.counts with badPost := countUp s.status.counts.badPost } }
def State.countStrayClear (s : State) : State :=
  s.withStatus { s.status with counts := { s.status.counts with strayClear := countUp s.status.counts.strayClear } }
def State.countCopyWrite (s : State) : State :=
  s.withStatus { s.status with counts := { s.status.counts with copyWrite := countUp s.status.counts.copyWrite } }

/-! ### Output lines -/

/-- An entry that holds ALERT: class 0 and waiting for acknowledgement (R145). -/
def Entry.alerting (e : Entry) : Bool := e.cls == 0 && e.state != .acked

/-- A VALID SPEED record that shows class WARNING (4) or INTERVENTION (5) (R145, R91). -/
def State.speedAlerting (s : State) (n : Nat) : Bool :=
  s.kind n == .speed && (s.record n).status == .valid &&
    (match (s.speedKind n).presented with
     | some p => p.cls == 4 || p.cls == 5
     | none => false)

/-- ALERT is asserted in RUN exactly under the conditions of R145. -/
def State.alertCondition (s : State) : Bool :=
  s.part == .run && (s.msg.entries.any Entry.alerting || recordIndices.any s.speedAlerting)

/-- The wait line is asserted while the upstream port holds a transaction (R2), and from a full reset that cut a
request off until the held state of R16 ends (R18). -/
def State.waitCondition (s : State) : Bool := s.path.up != .idle || (s.path.cutOff && s.startingUp)

/-- The lines the state calls for. -/
def State.linesFor (s : State) : Lines :=
  { alert := s.alertCondition, attn := s.status.notices.any, wait := s.waitCondition }

/-- The lines follow their conditions within the event that changes them (R145, R150): every command ends
with this. -/
def State.driveLines (s : State) : State := s.withLines s.linesFor

/-- The outcome of a command that took place: the next state, its lines driven. -/
def complete (s : State) : Host.Outcome State Fault Refusal := .next s.driveLines

end Sys2Proof.Machine
end

