-- ==== Sys2Proof/Machine/Messages.lean ====
section
/-! DEFINITION. The message unit (Section 7): the list and its order, RAISE, CLEAR and ACK, the recall stack,
the requests of the part and the order they are taken in, the post cells, the slot and recall words. -/

namespace Sys2Proof.Machine

/-! ### The list (R130 to R132) -/

/-- Unacknowledged and cleared-unacknowledged entries stand before acknowledged ones (R131). -/
def Entry.group (e : Entry) : Nat := if e.state = .acked then 1 else 0

/-- Presentation order: class, then group, then raise ordinal (R131). -/
def Entry.before (x y : Entry) : Bool :=
  decide (x.cls < y.cls) ||
    (x.cls == y.cls && (decide (x.group < y.group) || (x.group == y.group && decide (x.ordinal < y.ordinal))))

/-- An entry placed in a list in presentation order. -/
def placeEntry (e : Entry) : List Entry → List Entry
  | [] => [e]
  | y :: ys => if e.before y then e :: y :: ys else y :: placeEntry e ys

/-- The entry with a code. -/
def findEntry (code : Nat) (es : List Entry) : Option Entry := es.find? fun e => e.code == code

/-- The list without the entry with a code. -/
def dropEntry (code : Nat) (es : List Entry) : List Entry := es.filter fun e => e.code != code

/-- The code of the head, if the list has a head. -/
def headCode (es : List Entry) : Option Nat := es.head?.map Entry.code

/-- An entry that stands at position 0 and did not before takes the reading of the event (R132). -/
def markHead (now : Time) (before after : List Entry) : List Entry :=
  match after with
  | [] => []
  | h :: t => if headCode before = some h.code then h :: t else { h with headSince := now } :: t

/-- The unit with a new list, its head marked (R132). -/
def MessageUnit.withList (m : MessageUnit) (now : Time) (es : List Entry) : MessageUnit :=
  { m with entries := markHead now m.entries es }

/-- The list with the entry of a code replaced and placed again (R133, R136). -/
def replaceEntry (e : Entry) (es : List Entry) : List Entry := placeEntry e (dropEntry e.code es)

/-! ### RAISE (R133, R134) -/

structure RaiseRequest where
  code     : Nat
  cls      : Nat
  source   : Source
  needsAck : Bool
  marker   : Byte
deriving DecidableEq, Repr

inductive RaiseOutcome where
  | raisedAgain | created | evicted | dropped
deriving DecidableEq, Repr

/-- The raise was taken into the list (R112, R133, R134). -/
def RaiseOutcome.taken : RaiseOutcome → Bool
  | .dropped => false
  | .raisedAgain => true
  | .created => true
  | .evicted => true

/-- The state a raise gives an entry (R133, R134). -/
def raisedState (needsAck : Bool) : EntryState := if needsAck then .unacked else .acked

/-- The entry a RAISE leaves where its code is present (R133). -/
def raiseAgain (r : RaiseRequest) (e : Entry) : Entry :=
  { e with count := countUp e.count, marker := r.marker, state := raisedState e.needsAck }

/-- The entry a RAISE creates (R134). -/
def newEntry (r : RaiseRequest) (now : Time) (ordinal : Nat) : Entry :=
  { code := r.code, cls := r.cls, source := r.source, needsAck := r.needsAck,
    state := raisedState r.needsAck, marker := r.marker, raiseTime := now, ordinal := ordinal, count := 1,
    headSince := now }

/-- The largest value of the 32-bit raise ordinal count (R131). -/
def lastOrdinal : Nat := 4294967295

/-- The ordinals 0 upward in the present order of ordinals (R131). -/
def renumbered (es : List Entry) : List Entry :=
  es.map fun e => { e with ordinal := es.countP fun x => decide (x.ordinal < e.ordinal) }

/-- Before a creation: renumber where the count is at its largest value (R131). -/
def MessageUnit.roomForOrdinal (m : MessageUnit) : MessageUnit :=
  if lastOrdinal ≤ m.nextOrdinal then
    { m with entries := renumbered m.entries, nextOrdinal := m.entries.length }
  else m

/-- The creation of an entry in a list `base` of the unit's entries that it joins (R134). -/
def MessageUnit.createIn (m : MessageUnit) (now : Time) (r : RaiseRequest) (base : List Entry) : MessageUnit :=
  { m.withList now (placeEntry (newEntry r now m.nextOrdinal) base) with nextOrdinal := m.nextOrdinal + 1 }

/-- The new entry would sort before the last entry of a full list (R134). -/
def MessageUnit.sortsBeforeLast (m : MessageUnit) (now : Time) (r : RaiseRequest) : Bool :=
  match m.entries.getLast? with
  | some last => (newEntry r now m.nextOrdinal).before last
  | none => false

/-- RAISE (R133, R134). -/
def MessageUnit.raise (m : MessageUnit) (now : Time) (r : RaiseRequest) : MessageUnit × RaiseOutcome :=
  match findEntry r.code m.entries with
  | some e => (m.withList now (replaceEntry (raiseAgain r e) m.entries), .raisedAgain)
  | none =>
    if m.entries.length < Config.listCapacity then
      (m.roomForOrdinal.createIn now r m.roomForOrdinal.entries, .created)
    else if m.sortsBeforeLast now r then
      (m.roomForOrdinal.createIn now r m.roomForOrdinal.entries.dropLast, .evicted)
    else (m, .dropped)

/-! ### CLEAR, ACK and the recall stack (R135, R136, R142) -/

/-- A removed entry goes on top of the recall stack, which keeps ten (R142). -/
def pushRecall (now : Time) (e : Entry) (rs : List RecallEntry) : List RecallEntry :=
  ({ code := e.code, cls := e.cls, marker := e.marker, raiseTime := e.raiseTime, removeTime := now } :: rs).take
    Config.recallCapacity

/-- An entry leaves the list by the ordinary path (R142). -/
def MessageUnit.removeEntry (m : MessageUnit) (now : Time) (e : Entry) : MessageUnit :=
  { m.withList now (dropEntry e.code m.entries) with recalls := pushRecall now e m.recalls }

/-- The code was present, and so acted on, or was not. -/
inductive ClearOutcome where
  | found | absent
deriving DecidableEq, Repr

/-- CLEAR (R135). -/
def MessageUnit.clear (m : MessageUnit) (now : Time) (code : Nat) : MessageUnit × ClearOutcome :=
  match findEntry code m.entries with
  | none => (m, .absent)
  | some e =>
    match e.state with
    | .unacked => (m.withList now (replaceEntry { e with state := .clearedUnacked } m.entries), .found)
    | .acked => (m.removeEntry now e, .found)
    | .clearedUnacked => (m, .found)

/-- What an ACK did: acknowledged an entry of a system's code 1120 + s, another entry, or nothing (late). -/
inductive AckOutcome where
  | system (sys : Nat)
  | acknowledged
  | late
deriving DecidableEq, Repr

/-- The codes 1120 to 1123 are removed at acknowledgement (R136). -/
def isSystemCode (code : Nat) : Bool := decide (1120 ≤ code) && decide (code ≤ 1123)

/-- ACK (R136). For a code 1120 + s both unacknowledged states are removed (R142, log 22). -/
def MessageUnit.ack (m : MessageUnit) (now : Time) (code : Nat) : MessageUnit × AckOutcome :=
  match findEntry code m.entries with
  | none => (m, .late)
  | some e =>
    match e.state with
    | .acked => (m, .late)
    | .unacked =>
      if isSystemCode code then (m.removeEntry now e, .system (code - 1120))
      else (m.withList now (replaceEntry { e with state := .acked } m.entries), .acknowledged)
    | .clearedUnacked =>
      if isSystemCode code then (m.removeEntry now e, .system (code - 1120))
      else (m.removeEntry now e, .acknowledged)

/-! ### Requests on the state -/

/-- A RAISE with its status counts: an eviction and a drop raise the overflow count and set LIST_OVERFLOW
(R134). -/
def State.raise (s : State) (r : RaiseRequest) : State × RaiseOutcome :=
  let res := s.msg.raise s.now r
  match res.2 with
  | .raisedAgain => (s.withMsg res.1, .raisedAgain)
  | .created => (s.withMsg res.1, .created)
  | .evicted => (((s.withMsg res.1).countOverflow).notify .listOverflow, .evicted)
  | .dropped => (((s.withMsg res.1).countOverflow).notify .listOverflow, .dropped)

/-- The awaiting flag of system `sys`'s ASPECT record becomes no (R113). -/
def State.systemAcknowledged (s : State) (sys : Nat) : State :=
  s.withAspect { s.aspect with
    kinds := s.aspect.kinds.mapIdx fun n k =>
      if (s.cfg.entry n).kind == .aspect && (s.cfg.entry n).system == sys then { k with awaiting := false } else k }

/-- An ACK with its effects outside the list (R113, R136). -/
def State.acknowledge (s : State) (code : Nat) : State :=
  let res := s.msg.ack s.now code
  match res.2 with
  | .system sys => (s.withMsg res.1).systemAcknowledged sys
  | .acknowledged => s.withMsg res.1
  | .late => s.countLateAck

/-- A conditional clear: a CLEAR where the code is present, no effect where it is not (R137). -/
def State.condClear (s : State) (code : Nat) : State := s.withMsg (s.msg.clear s.now code).1

/-! ### Requests of the part (R137, R138) -/

/-- The requests a block of the part makes of the message unit within one event. -/
inductive PartRequest where
  /-- a RAISE; where it is taken, the awaiting flag of the record named becomes yes (R112) -/
  | raise (r : RaiseRequest) (awaits : Option Nat)
  | condRaise (r : RaiseRequest)
  | condClear (code : Nat)
  /-- the raise of code 1125 and, after it, its conditional clear (R137) -/
  | overrun (r : RaiseRequest)
deriving DecidableEq, Repr

/-- A request with source INTERPOSER. -/
def partRaise (code cls : Nat) (needsAck : Bool) (marker : Nat) : RaiseRequest :=
  { code := code, cls := cls, source := .interposer, needsAck := needsAck, marker := BitVec.ofNat 8 marker }

/-- The awaiting flag of ASPECT record `n` becomes yes where its raise was taken (R112). -/
def State.awaitIf (s : State) (taken : Bool) (n : Nat) : State :=
  if taken then s.setAspectKind n { s.aspectKind n with awaiting := true } else s

/-- One request taken, and the requests that may only be taken after it. -/
def State.takeOne (s : State) : PartRequest → State × List PartRequest
  | .raise r none => ((s.raise r).1, [])
  | .raise r (some n) => ((s.raise r).1.awaitIf (s.raise r).2.taken n, [])
  | .condRaise r => if (findEntry r.code s.msg.entries).isNone then ((s.raise r).1, []) else (s, [])
  | .condClear code => (s.condClear code, [])
  | .overrun r => ((s.raise r).1, [.condClear r.code])

/-- The requests of one event, taken one at a time in an order the spec leaves open: at each turn a free
choice names the request taken next (R73, R138, log 8). A single request needs no choice. -/
def takeAll : Nat → List PartRequest → State → State
  | 0, _, s => s
  | _ + 1, [], s => s
  | f + 1, [r], s => takeAll f (s.takeOne r).2 (s.takeOne r).1
  | f + 1, r :: r' :: rest, s =>
    let rs := r :: r' :: rest
    let c := s.choose rs.length
    let turn := c.2.takeOne (rs.getD c.1 r)
    takeAll f (rs.eraseIdx c.1 ++ turn.2) turn.1

/-- The requests of one event: each is taken once, and each may be followed by one more. -/
def State.takeRequests (s : State) (rs : List PartRequest) : State := takeAll (2 * rs.length) rs s

/-- Requests parted in two by free choices, each part in their order (log 8). -/
def divideRequests : List PartRequest → State → State × List PartRequest × List PartRequest
  | [], s => (s, [], [])
  | r :: rest, s =>
    let c := s.choose 2
    let d := divideRequests rest c.2
    if c.1 = 0 then (d.1, r :: d.2.1, d.2.2) else (d.1, d.2.1, r :: d.2.2)

/-- The requests of one event with another event `f` of the same instant between two of them, `first` and `last`: every
other request is taken on one side of `f` or on the other (R137, R138, log 8, log 25). -/
def State.takeAround (s : State) (rs : List PartRequest) (first : PartRequest) (f : State → State)
    (last : PartRequest) : State :=
  let d := divideRequests rs s
  (f (d.1.takeRequests (d.2.1 ++ [first]))).takeRequests (d.2.2 ++ [last])

/-! ### Post cells (R126 to R128) -/

/-- The stage of post cell `c`. -/
def State.stage (s : State) (c : Nat) : Option Stage := s.msg.stages.getD c none

/-- The state with the stage of cell `c` replaced. -/
def State.setStage (s : State) (c : Nat) (x : Option Stage) : State :=
  s.withMsg { s.msg with stages := s.msg.stages.set c x }

/-- The stage of a message word (Table 7.1): bits 14 and 11 are ignored. -/
def stageOf (w : Word) : Stage := { code := bits w 10 0, cls := bits w 13 12, needsAck := bit w 15 }

/-- The actions of an action word (Table 7.1). -/
inductive PostAction where
  | raise | clear | ack
deriving DecidableEq, Repr

def postActionOf (w : Word) : Option PostAction :=
  if bits w 3 0 = 1 then some .raise else if bits w 3 0 = 2 then some .clear
  else if bits w 3 0 = 3 then some .ack else none

/-- A valid action on the staged code is a bad post when R127 says so. -/
def badPostTest (limit : Nat) (st : Stage) : PostAction → Bool
  | .raise => st.code == 0 || decide (1023 < st.code) || decide (st.cls < limit)
  | .clear => st.code == 0 || decide (1023 < st.code)
  | .ack => st.code == 0 || decide (1125 < st.code)

/-- A CLEAR from a post cell: finding no entry raises the stray-clear count (R135). -/
def State.postClear (s : State) (code : Nat) : State :=
  match (s.msg.clear s.now code).2 with
  | .found => s.condClear code
  | .absent => s.countStrayClear

/-- The action of a captured action word that is no bad post (R127). -/
def State.postPerform (s : State) (c : Nat) (st : Stage) (marker : Byte) : PostAction → State
  | .raise =>
    (s.raise { code := st.code, cls := st.cls, source := .postCell c, needsAck := st.needsAck,
               marker := marker }).1
  | .clear => s.postClear st.code
  | .ack => s.acknowledge st.code

/-- A captured write to the action word of cell `c`: tested against the stage, performed or counted as a bad
post; in every case the stage is emptied (R127). -/
def State.captureAction (s : State) (c : Nat) (w : Word) : State :=
  match s.stage c, postActionOf w with
  | some st, some act =>
    if badPostTest (s.cfg.classLimit c) st act then (s.countBadPost).setStage c none
    else (s.postPerform c st (highByte w) act).setStage c none
  | _, _ => (s.countBadPost).setStage c none

/-- The capture of a POST write at offset `k` (R29): an even offset is the cell's message word, an odd one
its action word. The POST window has four cells. -/
def State.capture (s : State) (k : Nat) (w : Word) : State :=
  if 8 ≤ k then s
  else if k % 2 = 0 then s.setStage (k / 2) (some (stageOf w))
  else s.captureAction (k / 2) w

/-! ### ACK input (R139, R140) -/

/-- The ACK input is asserted: the debouncer's move on that level (R139). -/
def debounceAsserted (d : Debouncer) (now : Time) : Debouncer :=
  match d with
  | .released => .pressing now
  | .pressing t => .pressing t
  | .pressed => .pressed
  | .releasing _ => .pressed

/-- The ACK input is released: the debouncer's move on that level (R139). -/
def debounceReleased (d : Debouncer) (now : Time) : Debouncer :=
  match d with
  | .released => .released
  | .pressing _ => .released
  | .pressed => .releasing now
  | .releasing t => .releasing t

/-- A press recognized in RUN: it acknowledges the head that waits and has settled, or is counted late
(R140). -/
def State.judgePress (s : State) : State :=
  match s.msg.entries.head? with
  | none => s.countLateAck
  | some h =>
    if h.state ≠ .acked ∧ s.cfg.settleTime ≤ elapsed h.headSince s.now then s.acknowledge h.code
    else s.countLateAck

/-- The line has been asserted for 30 ms (R139). -/
def State.pressDue (s : State) : Bool :=
  match s.msg.debouncer with
  | .pressing t => decide (30 ≤ elapsed t s.now)
  | .released => false
  | .pressed => false
  | .releasing _ => false

/-- A press is recognized (R139, R140): the debouncer moves to PRESSED; in RUN the press is judged, in any other part
state it is discarded. -/
def State.press (s : State) : State :=
  let s1 := s.withMsg { s.msg with debouncer := .pressed }
  if s1.part = .run then s1.judgePress else s1

/-! ### Slot and recall words (R141, R143) -/

def EntryState.code : EntryState → Nat
  | .unacked => 1
  | .acked => 2
  | .clearedUnacked => 3

def Source.code : Source → Nat
  | .postCell c => c
  | .interposer => 4

/-- Word `j` of a slot line that shows an entry (Table 7.3). -/
def Entry.slotWord (e : Entry) (now : Time) (j : Nat) : Word :=
  match j with
  | 0 => word (flagBit e.needsAck 15 + e.cls * 4096 + e.code)
  | 1 => word (e.state.code * 16384 + e.source.code * 256 + e.count)
  | 2 => word e.marker.toNat
  | _ => word (secondsSince e.raiseTime now)

/-- The word a SLOT window answers at offset `k`; none past the configured slot lines (R141, log 19). -/
def State.slotWord (s : State) (k : Nat) : Option Word :=
  if s.cfg.slotLines ≤ k / 4 then none
  else
    match s.msg.entries[k / 4]? with
    | some e => some (e.slotWord s.now (k % 4))
    | none => some 0#16

/-- Word `j` of a recall entry (R143). -/
def RecallEntry.word (e : RecallEntry) (now : Time) (j : Nat) : Word :=
  match j with
  | 0 => Machine.word (e.cls * 4096 + e.code)
  | 1 => Machine.word e.marker.toNat
  | 2 => Machine.word (secondsSince e.raiseTime now)
  | _ => Machine.word (secondsSince e.removeTime now)

/-- The word a RECALL window answers at offset `k`; none above 39 (R143, log 19). -/
def State.recallWord (s : State) (k : Nat) : Option Word :=
  if 40 ≤ k then none
  else
    match s.msg.recalls[k / 4]? with
    | some e => some (e.word s.now (k % 4))
    | none => some 0#16

end Sys2Proof.Machine
end

