-- ==== Sys2Proof/Machine/Aspect.lean ====
section
/-! DEFINITION. The aspect unit (Section 6): the shown aspect, the selection state and changeover, the main
aspect and the presented words of ASPECT and SELECT records. -/

namespace Sys2Proof.Machine

/-- Record `n` is the ASPECT record of system `sys` in the record table. -/
def State.isAspectOf (s : State) (sys n : Nat) : Bool :=
  s.kind n == .aspect && (s.cfg.entry n).system == sys

/-- The ASPECT record of a system, if there is one. In RUN and RETAIN there is at most one (R168, code 4). Where two entries
name one system, which only a burst that outlasts RUN can meet after a section 2 write in CONFIG (R58), the spec does not
say which counts: the lowest record number (DESIGN CHOICE, log 33). -/
def State.aspectRecord (s : State) (sys : Nat) : Option Nat := recordIndices.find? (s.isAspectOf sys)

/-- The ASPECT record of a system is VALID. -/
def State.systemValid (s : State) (sys : Nat) : Bool :=
  match s.aspectRecord sys with
  | some n => (s.record n).status == .valid
  | none => false

/-! ### Content checks (R108, R116) -/

def State.aspectContent (s : State) (n : Nat) (words : List Word) : Bool :=
  bits (at0 words 0) 15 8 == 0 &&
    (s.cfg.findAspect (s.cfg.entry n).system (bits (at0 words 0) 7 0)).isSome &&
    ((at0 words 1).toNat == 0 || (at0 words 1).toNat == 1)

def State.selectContent (s : State) (words : List Word) : Bool :=
  decide ((at0 words 0).toNat ≤ 3) && s.cfg.systemEnabled (at0 words 0).toNat

/-! ### The shown aspect (R110 to R112) -/

/-- The acknowledgement message of system `sys` for record `n` (R112). -/
def ackRequest (sys n code : Nat) : PartRequest := .raise (partRaise (1120 + sys) 0 true code) (some n)

/-- An upgrade acceptance (R111). A confirmation count of 0, which the link refuses and only a foreign image can hold,
never confirms an upgrade (DESIGN CHOICE, log 19). -/
def upgradeAspect (confirm : Nat) (k : AspectKind) (x : Shown) : AspectKind :=
  if confirm = 1 then { k with shown := some x, upgrade := none }
  else
    match k.upgrade with
    | some p =>
      if p.code = x.code then
        if p.count + 1 = confirm then { k with shown := some x, upgrade := none }
        else { k with upgrade := some { code := x.code, count := p.count + 1 } }
      else { k with upgrade := some { code := x.code, count := 1 } }
    | none => { k with upgrade := some { code := x.code, count := 1 } }

/-- An acceptance of an ASPECT record of system `sys` that carries aspect `x`, with the acknowledgement-on-entry
flag of its table entry (R110). -/
def aspectComputation (confirm sys n : Nat) (k : AspectKind) (x : Shown) (onEntry : Bool) :
    AspectKind × List PartRequest :=
  match k.shown with
  | none => ({ k with shown := some x, upgrade := none }, [])
  | some old =>
    if x.rank < old.rank then
      ({ k with shown := some x, upgrade := none }, if onEntry then [ackRequest sys n x.code] else [])
    else if x.rank = old.rank then ({ k with shown := some x, upgrade := none }, [])
    else (upgradeAspect confirm k x, [])

/-- The aspect a version carries: the table entry its code matches and the flash of input word 1 (R110). -/
def shownOf (e : AspectEntry) (words : List Word) : Shown :=
  { code := e.code, rank := e.rank, symbol := e.symbol, flash := (at0 words 1).toNat == 1 }

/-- The kind computation of an ASPECT acceptance (R110). The content check has found the entry. -/
def State.acceptAspect (s : State) (n : Nat) (words : List Word) : State × List PartRequest :=
  let sys := (s.cfg.entry n).system
  match s.cfg.findAspect sys (bits (at0 words 0) 7 0) with
  | none => (s, [])
  | some e =>
    let res := aspectComputation (s.cfg.confirmCount sys) sys n (s.aspectKind n) (shownOf e words) e.onEntry
    (s.setAspectKind n res.1, res.2)

/-- A discard of the kind state: the awaiting flag is kept (R109). -/
def AspectKind.discard (k : AspectKind) : AspectKind := { k with shown := none, upgrade := none }

/-- A refusal empties the pending upgrade (R111). -/
def AspectKind.refused (k : AspectKind) : AspectKind := { k with upgrade := none }

/-! ### The selection state (R117 to R120) -/

/-- A changeover ends: not active, timer stopped (R118, R119). -/
def Selection.settle (x : Selection) (f : Nat) : Selection :=
  { x with inForce := some f, requested := some f, changeover := false, timer := .stopped }

/-- The conditional clear of code 1124 where a changeover was active (R118). -/
def changeoverClear (active : Bool) : List PartRequest := if active then [.condClear 1124] else []

/-- The moment at which a changeover timer started now expires (R120). -/
def State.changeoverExpiry (s : State) : Time := later s.now (1000 * s.cfg.changeoverTimeout)

/-- A SELECT acceptance with requested system `q` (R118, cases 1 to 4). -/
def State.selectSystem (s : State) (q : Nat) : State × List PartRequest :=
  let x := s.aspect.select
  match x.inForce with
  | none => (s.setSelection { x with inForce := some q, requested := some q }, [])
  | some f =>
    if q = f then (s.setSelection (x.settle f), changeoverClear x.changeover)
    else if s.systemValid q then (s.setSelection (x.settle q), changeoverClear x.changeover)
    else
      (s.setSelection { x with
          requested := some q
          changeover := true
          timer := if x.changeover ∧ x.requested = some q then x.timer else .running s.changeoverExpiry }, [])

/-- The kind computation of a SELECT acceptance (R118). -/
def State.acceptSelect (s : State) (words : List Word) : State × List PartRequest :=
  s.selectSystem (at0 words 0).toNat

/-- An entry of ASPECT record `n` to VALID: it completes a changeover that waits for its system (R119). -/
def State.completeChangeover (s : State) (n : Nat) : State × List PartRequest :=
  let x := s.aspect.select
  if x.changeover ∧ x.requested = some (s.cfg.entry n).system then
    (s.setSelection (x.settle (s.cfg.entry n).system), [.condClear 1124])
  else (s, [])

/-- Entry to CONFIG stops a running changeover timer (R117). An expired one stays expired: R117 stops a running timer, and
R125 says that the timer is stopped (DESIGN CHOICE, log 31). -/
def ChangeoverTimer.stop : ChangeoverTimer → ChangeoverTimer
  | .running _ => .stopped
  | .stopped => .stopped
  | .expired => .expired

/-! ### Effective and main aspect (R115, R123) -/

structure Effective where
  rank   : Nat
  symbol : Nat
  flash  : Bool
  source : Nat
deriving DecidableEq, Repr

/-- The contribution of a system whose record is not VALID (R115). -/
def State.staleAspect (s : State) (sys : Nat) : Effective :=
  { rank := 0, symbol := s.cfg.staleSymbol sys, flash := false, source := sys }

/-- The effective aspect of a system (R115). A VALID record that holds no shown aspect, which only a burst that outlasts RUN
can meet, where a section 2 write in CONFIG has changed the entry's kind to ASPECT (R39, R58), gives the stale aspect
(DESIGN CHOICE, log 33). -/
def State.effective (s : State) (sys : Nat) : Effective :=
  match s.aspectRecord sys with
  | none => s.staleAspect sys
  | some n =>
    if (s.record n).status = .valid then
      match (s.aspectKind n).shown with
      | some x => { rank := x.rank, symbol := x.symbol, flash := x.flash, source := sys }
      | none => s.staleAspect sys
    else s.staleAspect sys

/-- The main aspect, where a system is in force (R123): during a changeover the lower rank, and Q's where the
ranks are equal. -/
def State.mainAspect (s : State) : Option Effective :=
  match s.aspect.select.inForce, s.aspect.select.requested with
  | some f, some q =>
    if s.aspect.select.changeover then
      if (s.effective f).rank < (s.effective q).rank then some (s.effective f) else some (s.effective q)
    else some (s.effective f)
  | _, _ => none

/-! ### Presented words (R114, R124) -/

/-- P0 of an ASPECT and of the SELECT record (Table 6.3). -/
def aspectWord0 (symbol : Nat) (flash : Bool) : Word := word (flagBit flash 8 + symbol)

/-- The presented words of an ASPECT record (Table 6.3). -/
def AspectKind.presented (k : AspectKind) : Option (List Word) :=
  match k.shown with
  | none => none
  | some x =>
    some [aspectWord0 x.symbol x.flash, word (flagBit k.awaiting 5 + flagBit k.upgrade.isSome 4 + x.rank)]

/-- The awaiting flag of any ASPECT record is yes (R124). In a burst that outlasts RUN, the ASPECT records are those of the
record table as it then stands (DESIGN CHOICE, log 33). -/
def State.anyAwaiting (s : State) : Bool :=
  recordIndices.any fun n => s.kind n == .aspect && (s.aspectKind n).awaiting

/-- The presented words of the SELECT record (Table 6.4). -/
def State.selectPresented (s : State) : Option (List Word) :=
  match s.mainAspect with
  | none => none
  | some m =>
    some [aspectWord0 m.symbol m.flash,
          word (flagBit s.anyAwaiting 7 + flagBit s.aspect.select.changeover 6 + m.source * 16 + m.rank),
          word (s.aspect.select.inForce.getD 0 * 256 + s.aspect.select.requested.getD 0)]

end Sys2Proof.Machine
end

