-- ==== Sys2Proof/Machine/Speed.lean ====
section
/-! DEFINITION. The speed unit (Section 5): the speed computation, the axle measurement, standstill and the
plausibility comparison. -/

namespace Sys2Proof.Machine

/-- "none" in the permitted and target speed words (R81). -/
def speedNone : Nat := 65535

/-- The scale end in steps (R79). -/
def SpeedSettings.emax (st : SpeedSettings) : Nat := 16 * st.scaleEnd

/-- The content check of a SPEED record fails when the permitted speed is none and the target is present
(R81). -/
def speedContent (words : List Word) : Bool :=
  !((at0 words 1).toNat == speedNone && (at0 words 2).toNat != speedNone)

/-- The step limit of the slew (R85). -/
def slewStep (st : SpeedSettings) (dt : Nat) : Nat := max 1 (16 * st.slewLimit * min dt 2000 / 1000)

/-- The slewed speed (R85). -/
def slewed (st : SpeedSettings) (prev : Option Previous) (vc : Nat) (t : Time) : Nat :=
  match prev with
  | none => vc
  | some p =>
    if p.slewed ≤ vc then min vc (p.slewed + slewStep st (elapsed p.time t))
    else max vc (p.slewed - slewStep st (elapsed p.time t))

/-- The displayed speed (R86). -/
def displayedSpeed (st : SpeedSettings) (prev : Option Previous) (vs : Nat) : Nat :=
  if vs = 0 then 0
  else
    match prev with
    | none => (vs + 8) / 16
    | some p =>
      if (vs + 8) / 16 = p.displayed + 1 then
        if 16 * p.displayed + 8 + st.hysteresis ≤ vs then (vs + 8) / 16 else p.displayed
      else if (vs + 8) / 16 + 1 = p.displayed then
        if vs + 8 + st.hysteresis ≤ 16 * p.displayed then (vs + 8) / 16 else p.displayed
      else (vs + 8) / 16

/-- The needle position (R87). -/
def needle (st : SpeedSettings) (vs : Nat) : Nat := 1000 * vs / st.emax

/-- The warning margin (R88). -/
def warningMargin (st : SpeedSettings) (vp : Nat) : Nat := max (16 * st.warnAbs) (vp * st.warnProp / 1000)

/-- The intervention margin (R88). -/
def interventionMargin (st : SpeedSettings) (vp : Nat) : Nat := max (16 * st.intAbs) (vp * st.intProp / 1000)

/-- The supervision class (Table 5.3): 0 NONE, 1 NORMAL, 2 INDICATION, 3 OVERSPEED, 4 WARNING,
5 INTERVENTION. -/
def supervision (st : SpeedSettings) (vc vp vt : Nat) : Nat :=
  if vp = speedNone then 0
  else if vc ≤ vp then (if vt ≠ speedNone ∧ vt < vp then 2 else 1)
  else if vc ≤ vp + warningMargin st vp then 3
  else if vc ≤ vp + interventionMargin st vp then 4
  else 5

/-! ### Plausibility (R99 to R101) -/

/-- The distance of two speeds. -/
def distance (a b : Nat) : Nat := max a b - min a b

/-- The comparison agrees: within the tolerance (R99). -/
def agrees (st : SpeedSettings) (vc vx : Nat) : Bool :=
  decide (distance vc vx ≤ max (16 * st.tolAbs) (vx * st.tolProp / 1000))

/-- The plausibility message (R101): code 1088 + n, class 1, marker the difference in whole km/h. -/
def plausibilityRaise (n vc vx : Nat) : PartRequest :=
  .raise (partRaise (1088 + n) 1 true (min 255 (distance vc vx / 16))) none

/-- A comparison as from AGREE (R100). -/
def compareAgree (st : SpeedSettings) (n : Nat) (k : SpeedKind) (vc vx : Nat) : SpeedKind × List PartRequest :=
  if agrees st vc vx then ({ k with plausible := .agree, disagreeRun := 0 }, [])
  else if k.disagreeRun + 1 = st.runLength then
    ({ k with plausible := .disagree, disagreeRun := 0, agreeRun := 0 }, [plausibilityRaise n vc vx])
  else ({ k with plausible := .agree, disagreeRun := k.disagreeRun + 1 }, [])

/-- A comparison as from DISAGREE (R100). -/
def compareDisagree (st : SpeedSettings) (n : Nat) (k : SpeedKind) (vc vx : Nat) : SpeedKind × List PartRequest :=
  if agrees st vc vx then
    if k.agreeRun + 1 = st.runLength then
      ({ k with plausible := .agree, disagreeRun := 0, agreeRun := 0 }, [.condClear (1088 + n)])
    else ({ k with agreeRun := k.agreeRun + 1 }, [])
  else ({ k with agreeRun := 0 }, [])

/-- A comparison without a reference (R99). -/
def compareNone (n : Nat) (k : SpeedKind) : SpeedKind × List PartRequest :=
  ({ k with plausible := .noReference }, if k.plausible = .disagree then [.condClear (1088 + n)] else [])

/-- The plausibility comparison of an acceptance; `ref` is the axle speed where the measurement is configured
and Vx is present (R99, R100). -/
def comparePlausibility (st : SpeedSettings) (n : Nat) (k : SpeedKind) (vc : Nat) (ref : Option Nat) :
    SpeedKind × List PartRequest :=
  match ref with
  | none => compareNone n k
  | some vx =>
    match k.plausible with
    | .noReference => compareAgree st n k vc vx
    | .agree => compareAgree st n k vc vx
    | .disagree => compareDisagree st n k vc vx

/-- The axle speed as a reference (R99): the measurement is configured and Vx is present. -/
def Axle.reference (x : Axle) : Option Nat := if x.pulses = 0 then none else x.vx

def Plausibility.code : Plausibility → Nat
  | .noReference => 0
  | .agree => 1
  | .disagree => 2

/-! ### The computation (R83, R90) -/

/-- P1 of a SPEED record (Table 5.4). -/
def speedWord1 (cls : Nat) (pl : Plausibility) (offScale slewLimited : Bool) : Word :=
  word (flagBit slewLimited 9 + flagBit offScale 8 + pl.code * 16 + cls)

/-- The presented values of a computation (R90). -/
def speedPresented (st : SpeedSettings) (prev : Option Previous) (va vp vt : Nat) (pl : Plausibility) (t : Time) :
    SpeedPresented :=
  let vc := min va st.emax
  let vs := slewed st prev vc t
  let cls := supervision st vc vp vt
  { p0 := word (displayedSpeed st prev vs)
    p1 := speedWord1 cls pl (decide (st.emax < va)) (decide (vs ≠ vc))
    p2 := word (needle st vs)
    cls := cls }

/-- The kind state of SPEED record `n` after an acceptance of the input words at time `t`, and the requests
the comparison makes (R83). -/
def speedComputation (st : SpeedSettings) (n : Nat) (k : SpeedKind) (words : List Word) (ref : Option Nat)
    (t : Time) : SpeedKind × List PartRequest :=
  let va := (at0 words 0).toNat
  let vc := min va st.emax
  let vs := slewed st k.previous vc t
  let cmp := comparePlausibility st n k vc ref
  ({ cmp.1 with
      previous := some { slewed := vs, displayed := displayedSpeed st k.previous vs, time := t }
      presented := some (speedPresented st k.previous va (at0 words 1).toNat (at0 words 2).toNat
        cmp.1.plausible t) },
   cmp.2)

/-- The kind computation of a SPEED acceptance (R83). -/
def State.acceptSpeed (s : State) (n : Nat) (words : List Word) : State × List PartRequest :=
  let res := speedComputation (s.cfg.speedSettings n) n (s.speedKind n) words s.speed.axle.reference s.now
  (s.setSpeedKind n res.1, res.2)

/-- A discard of the kind state (R82): the plausibility state is kept. -/
def SpeedKind.discard (k : SpeedKind) : SpeedKind :=
  { k with previous := none, disagreeRun := 0, agreeRun := 0, presented := none }

/-! ### Axle measurement (R92 to R96) -/

/-- The axle speed of a window's count under the settings in effect (R95). -/
def Axle.speedOf (x : Axle) (count : Nat) : Option Nat :=
  if x.pulses = 0 then none
  else some (min 65535 (count * x.circumference * 576 / (x.pulses * x.window * 10)))

/-- A rising edge on AXLE (R94). -/
def Axle.pulse (x : Axle) : Axle :=
  match x.running with
  | none => x
  | some w => { x with running := some { w with count := if w.count < 65535 then w.count + 1 else 65535 } }

/-- The window in progress has lasted its length (R93). -/
def Axle.windowDue (x : Axle) (now : Time) : Bool :=
  match x.running with
  | none => false
  | some w => decide (x.window ≤ elapsed w.start now)

/-- The end of a window (R95). -/
def Axle.endWindow (x : Axle) (now : Time) : Axle :=
  match x.running with
  | none => x
  | some w =>
    { x with history := (w.count :: x.history).take 2, vx := x.speedOf w.count,
             running := some { start := now, count := 0 } }

/-- The settings in effect are copied and a fresh window begins; the history and Vx are kept (R93, R96). -/
def Axle.begin (x : Axle) (c : Sections) (now : Time) : Axle :=
  { x with pulses := c.axlePulses, circumference := c.axleCircumference, window := c.axleWindow,
           running := some { start := now, count := 0 } }

/-! ### Standstill (R97) -/

/-- A SPEED record is VALID with a displayed speed of 0. -/
def State.speedAtZero (s : State) (n : Nat) : Bool :=
  (s.record n).status == .valid &&
    (match (s.speedKind n).presented with
     | some p => p.p0 == 0#16
     | none => false)

/-- The standstill decision (R97). Where no entry is of kind SPEED the second case asks nothing and holds. -/
def State.standstill (s : State) : Bool :=
  if s.speed.axle.pulses = 0 then
    recordIndices.all fun n => s.kind n != .speed || s.speedAtZero n
  else s.speed.axle.history == [0, 0]

end Sys2Proof.Machine
end

