-- ==== Sys2Proof/Machine/RecordEngine.lean ====
section
/-! DEFINITION. The record engine (Sections 3 and 4): writing and closing a version, acceptance and refusal,
the display status with its timer and messages, barring, release, expiry and overrun. Every operation answers
the state and the requests it makes of the message unit within the event. -/

namespace Sys2Proof.Machine

/-- The state after part of an event, with the requests the event has made so far. -/
abbrev Event := State × List PartRequest

/-- One part of an event after another. -/
def Event.andThen (e : Event) (f : State → Event) : Event := ((f e.1).1, e.2 ++ (f e.1).2)

/-- The requests of an event are taken (R137, R138). -/
def Event.finish (e : Event) : State := e.1.takeRequests e.2

/-! ### Messages of the records (R69 to R71) -/

/-- The stale message of record `n` with a cause (R69). -/
def State.staleRequest (s : State) (n marker : Nat) : RaiseRequest :=
  partRaise (1024 + n) (s.cfg.entry n).staleClass (s.cfg.entry n).staleNeedsAck marker

def Reason.code : Reason → Nat
  | .none => 0
  | .order => 1
  | .check => 2
  | .repeated => 3
  | .jump => 4
  | .content => 5

/-- The barred message of record `n` (R71). -/
def barredRequest (n : Nat) (r : Reason) : RaiseRequest := partRaise (1056 + n) 1 true r.code

/-! ### Kind state on status changes (R74) -/

/-- The kind state of record `n` is discarded (R74). -/
def State.discardKind (s : State) (n : Nat) : State :=
  match s.kind n with
  | .speed => s.setSpeedKind n (s.speedKind n).discard
  | .aspect => s.setAspectKind n (s.aspectKind n).discard
  | .select => s
  | .plain => s
  | .none => s

/-! ### Freshness timer (R60) -/

/-- The moment a freshness timer of record `n` started now expires (R60). With a freshness period of 0, which only a
foreign image can hold, the timer is due at once (DESIGN CHOICE, log 19). -/
def State.freshnessMoment (s : State) (n : Nat) : Time := later s.now (100 * (s.cfg.entry n).freshness)

/-- The timer of record `n` starts, or starts again, for a full period (R60). -/
def State.startTimer (s : State) (n : Nat) : State :=
  s.setRecord n { s.record n with timer := some (s.freshnessMoment n) }

/-! ### Status transitions -/

/-- Record `n` becomes STALE with recovery progress 0; its kind state is discarded (R61, R65, R68, R74). -/
def State.enterStale (s : State) (n : Nat) : State :=
  (s.setRecord n { s.record n with status := .stale, progress := 0 }).discardKind n

/-- Expiry of the timer of record `n`, by its status (R61); afterwards the timer starts again. -/
def State.expire (s : State) (n : Nat) : Event :=
  match (s.record n).status with
  | .empty =>
    (((s.enterStale n).notify .leftValid).startTimer n, [.raise (s.staleRequest n 1) none])
  | .valid =>
    (((s.enterStale n).notify .leftValid).startTimer n, [.raise (s.staleRequest n 1) none])
  | .stale => (s.startTimer n, [])
  | .recovering => ((s.enterStale n).startTimer n, [.condRaise (s.staleRequest n 1)])
  | .barred => (s, [])

/-- A refresh overrun on one record (R68): the timer runs on. -/
def State.overrunRecord (s : State) (n : Nat) : Event :=
  if (s.cfg.entry n).held then
    match (s.record n).status with
    | .valid => ((s.enterStale n).notify .leftValid, [.raise (s.staleRequest n 3) none])
    | .recovering => (s.enterStale n, [.condRaise (s.staleRequest n 3)])
    | .empty => (s, [])
    | .stale => (s, [])
    | .barred => (s, [])
  else (s, [])

/-- A refresh overrun on every record, as one event (R68). -/
def State.overrunRecords (s : State) : Event :=
  recordIndices.foldl (fun e n => Event.andThen e fun s => s.overrunRecord n) (s, [])

/-- Record `n` enters VALID; where it is an ASPECT record this may complete a changeover (R75, R119). -/
def State.enterValid (s : State) (n : Nat) : Event :=
  let s1 := s.setRecord n { s.record n with status := .valid, progress := 0 }
  match s1.kind n with
  | .aspect => s1.completeChangeover n
  | .speed => (s1, [])
  | .select => (s1, [])
  | .plain => (s1, [])
  | .none => (s1, [])

/-- The conditional clear of the stale message of record `n` (R70). -/
def clearStale (n : Nat) : State → Event := fun s => (s, [.condClear (1024 + n)])

/-- The status transition of an acceptance (R63). A recovery count of 0 or 5 to 7, which only a foreign image can hold, is
used as it reads: 0 is never met, so such a record stays RECOVERING, and 5 to 7 take the progress above 3 (DESIGN CHOICE,
log 19). -/
def State.acceptStatus (s : State) (n : Nat) : Event :=
  let r := s.record n
  let need := (s.cfg.entry n).recovery
  match r.status with
  | .empty => s.enterValid n
  | .valid => (s, [])
  | .stale =>
    if need = 1 then (s.enterValid n).andThen (clearStale n)
    else (s.setRecord n { r with status := .recovering, progress := 1 }, [])
  | .recovering =>
    if r.progress + 1 = need then (s.enterValid n).andThen (clearStale n)
    else (s.setRecord n { r with progress := r.progress + 1 }, [])
  | .barred => (s, [])

/-- Barring of record `n` (R66); the refusal's own effects have been made. -/
def State.bar (s : State) (n : Nat) : Event :=
  let r := s.record n
  (((((s.setRecord n { r with status := .barred, progress := 0, timer := none }).notify .barred).notifyIf
      (r.status == .valid) .leftValid).discardKind n),
   [.condClear (1024 + n), .raise (barredRequest n r.reason) none])

/-- The status transition of a refusal, with the new count of consecutive refusals in place (R65, R66). -/
def State.refuseStatus (s : State) (n : Nat) : Event :=
  let r := s.record n
  let limit := (s.cfg.entry n).refusalLimit
  if limit ≠ 0 ∧ r.refusals = limit then s.bar n
  else
    match r.status with
    | .recovering => (s.enterStale n, [.condRaise (s.staleRequest n 2)])
    | .empty => (s, [])
    | .valid => (s, [])
    | .stale => (s, [])
    | .barred => (s, [])

/-! ### Refusal and acceptance (R45 to R49) -/

/-- What a refusal does to the record (R49): consecutive refusals stay at 15. -/
def RecordState.refuse (r : RecordState) (why : Reason) : RecordState :=
  { r with write := .closed, refusals := if r.refusals < 15 then r.refusals + 1 else 15, reason := why }

/-- A refusal of an ASPECT record empties its pending upgrade (R49, R111). -/
def State.refuseAspect (s : State) (n : Nat) : State :=
  if s.kind n = .aspect then s.setAspectKind n (s.aspectKind n).refused else s

/-- A refusal of record `n` (R49). -/
def State.refuse (s : State) (n : Nat) (why : Reason) : Event :=
  (((s.setRecord n ((s.record n).refuse why)).notify .refusal).refuseAspect n).refuseStatus n

/-- What an acceptance does to the record (R47): the copies change places. -/
def RecordState.accept (r : RecordState) (seq : Byte) : RecordState :=
  { r with write := .closed, front := r.front.other, lastSeq := some seq, refusals := 0 }

/-- The kind computation of an acceptance (R48). -/
def State.acceptKind (s : State) (n : Nat) (words : List Word) : Event :=
  match s.kind n with
  | .speed => s.acceptSpeed n words
  | .aspect => s.acceptAspect n words
  | .select => s.acceptSelect words
  | .plain => (s, [])
  | .none => (s, [])

/-- An acceptance of record `n` (R47, R48): the record, the kind computation, the status transition and the
restart of the timer, in one event. -/
def State.accept (s : State) (n : Nat) (seq : Byte) (words : List Word) : Event :=
  let e := ((s.setRecord n ((s.record n).accept seq)).acceptKind n words).andThen fun s1 => s1.acceptStatus n
  (e.1.startTimer n, e.2)

/-- The sequence check (R46): the reason of a failure. -/
def sequenceCheck (last : Option Byte) (seq : Byte) : Option Reason :=
  match last with
  | none => none
  | some l =>
    if (seq - l).toNat = 0 then some .repeated
    else if (seq - l).toNat ≤ 7 then none
    else some .jump

/-- The content check by kind (R47). -/
def State.contentCheck (s : State) (n : Nat) (words : List Word) : Bool :=
  match s.kind n with
  | .speed => speedContent words
  | .aspect => s.aspectContent n words
  | .select => s.selectContent words
  | .plain => true
  | .none => true

/-- The evaluation of a close (R45): CRC, sequence and content, the first failure names the reason. -/
def State.closeCheck (s : State) (n : Nat) (crc : Byte) (words : List Word) (checkWord : Word) : Option Reason :=
  if crc8Byte crc (highByte checkWord) ≠ lowByte checkWord then some .check
  else
    match sequenceCheck (s.record n).lastSeq (highByte checkWord) with
    | some why => some why
    | none => if s.contentCheck n words then none else some .content

/-- A close of a complete version (R43, R45). -/
def State.close (s : State) (n : Nat) (crc : Byte) (words : List Word) (checkWord : Word) : Event :=
  match s.closeCheck n crc words checkWord with
  | some why => s.refuse n why
  | none => s.accept n (highByte checkWord) words

/-- The state with the write state of record `n` replaced. -/
def State.setWrite (s : State) (n : Nat) (w : WriteState) : State :=
  s.setRecord n { s.record n with write := w }

/-- The engine's step for a served window write at offset `k` of 0 to I (R41, R42, R43). -/
def State.writeStep (s : State) (n k : Nat) (w : Word) : Event :=
  if k = 0 then (s.setWrite n (.opened 1 (recordCrcWord (recordCrcStart n) w) [w]), [])
  else
    match (s.record n).write with
    | .closed => s.refuse n .order
    | .opened next crc words =>
      if next ≠ k then s.refuse n .order
      else if k = (s.cfg.entry n).inputs then s.close n crc words w
      else (s.setWrite n (.opened (k + 1) (recordCrcWord crc w) (words ++ [w])), [])

/-! ### RELEASE (R67) -/

/-- RELEASE of the BARRED record `n` (R67). -/
def State.releaseRecord (s : State) (n : Nat) : Event :=
  ((s.setRecord n { s.record n with status := .empty, progress := 0, refusals := 0, lastSeq := none }).startTimer n,
   [.condClear (1056 + n)])

/-! ### Reading a window (R51, R53, R54) -/

/-- The presented values of record `n`'s kind, as its owner holds them (R90, R114, R124). -/
def State.presented (s : State) (n : Nat) : Option (List Word) :=
  match s.kind n with
  | .speed =>
    match (s.speedKind n).presented with
    | some p => some [p.p0, p.p1, p.p2]
    | none => none
  | .aspect => (s.aspectKind n).presented
  | .select => s.selectPresented
  | .plain => none
  | .none => none

/-- Where a word of a window comes from: a memory address, or the part. -/
inductive WordSource where
  | memory (addr : Addr)
  | supplied (w : Word)
deriving DecidableEq, Repr

/-- Word `k` of record `n`'s window under a front selector, a status and presented values (R51, R54, R58): the
word is 0 where the entry has no such word or the values are missing. -/
def State.windowWord (s : State) (n k : Nat) (front : Copy) (status : Status) (pres : Option (List Word)) :
    WordSource :=
  let e := s.cfg.entry n
  if e.length ≤ k then .supplied 0#16
  else if status = .valid then
    if k ≤ e.inputs then .memory (offsetAddr (e.base front) k)
    else .supplied (at0 (pres.getD []) (k - e.inputs - 1))
  else .supplied (s.cfg.substitute n k)

/-- Word `k` of record `n`'s window as the record stands (R51, R52). -/
def State.windowNow (s : State) (n k : Nat) : WordSource :=
  s.windowWord n k (s.record n).front (s.record n).status (s.presented n)

/-- The snapshot of a pin taken now (R53). -/
def State.snapshot (s : State) (n : Nat) : Snapshot :=
  { index := n, front := (s.record n).front, status := (s.record n).status, presented := s.presented n }

/-- Word `k` of a pinned record's window (R54). -/
def State.windowPinned (s : State) (p : Snapshot) (k : Nat) : WordSource :=
  s.windowWord p.index k p.front p.status p.presented

/-! ### Status word of a record (R153) -/

def Status.code : Status → Nat
  | .empty => 0
  | .valid => 1
  | .stale => 2
  | .recovering => 3
  | .barred => 4

def WriteState.isOpen : WriteState → Bool
  | .closed => false
  | .opened _ _ _ => true

/-- STATUS word 8 + n (Table 8.2). -/
def RecordState.statusWord (r : RecordState) : Word :=
  word (r.status.code * 8192 + flagBit r.write.isOpen 12 + r.reason.code * 512 + r.refusals * 16 + r.progress)

end Sys2Proof.Machine
end

