-- ==== Sys2Proof/Machine/Control.lean ====
section
/-! DEFINITION. State control (Section 10): the full reset, the entries to RUN, RETAIN and CONFIG, the
configuration image. -/

namespace Sys2Proof.Machine

/-! ### The configuration image (R169) -/

/-- The image of a configuration: format word, 814 section words, CRC-16 (R169). -/
def imageOf (c : Sections) : List Word :=
  (Config.imageFormat :: c.toWords) ++ [imageCrc (Config.imageFormat :: c.toWords)]

/-- The image is valid: its format word is 0x3720 and its stored CRC-16 agrees (R165). -/
def imageValid (ws : List Word) : Bool :=
  at0 ws 0 == Config.imageFormat && at0 ws 815 == imageCrc (ws.take 815)

/-- Sections 0 to 6 of an image. -/
def imageSections (ws : List Word) : Sections := sectionsOfWords (ws.drop 1)

/-- Word `i` of the store once a STORE of configuration `c` has written it: the word written, or a free word where the
store failed to take it (R170, log 10). -/
def storeHolds (n : Nat) (c : Sections) (i : Nat) : Word :=
  if Config.storeTook n i then at0 (imageOf c) i else Config.abandonedStoreWord n i

/-- What a STORE of configuration `c` cut short by a full reset leaves in the store (R170, log 10): before its step 3 the
image is invalid, as the STORE's first step left it; after it the format word reads 0x3720 and every other word is the
one written, save those the store failed to take. Which of the two, and which words failed, are free. -/
def abandonedImage (choice n : Nat) (c : Sections) (image : List Word) : List Word :=
  if choice = 0 then image
  else Config.imageFormat :: (List.range 815).map fun i => storeHolds n c (i + 1)

/-- The image a full reset finds: as it stands, or as an abandoned STORE leaves it. -/
def State.imageAfterReset (s : State) : List Word :=
  match s.link.job with
  | some (.store c) => abandonedImage (s.choose 2).1 s.freeCount c s.image
  | some .load => s.image
  | none => s.image

/-! ### Full reset (R162, R18) -/

/-- A full reset with a cause: every block takes its full reset values; the store keeps its image, the input
lines keep their levels, the outputs that carry words keep the last words, the wait line stays asserted toward a request
that is cut off, and nothing is known of the memory (R162, R18, log 3, log 6, log 17, log 32). -/
def State.fullReset (s : State) (cause : ResetCause) : State :=
  { State.reset with
    pending := s.pending
    ctl := { Control.reset with
      supplyGood := s.ctl.supplyGood
      resetAsserted := s.ctl.resetAsserted
      deskOnInput := s.ctl.deskOnInput
      straps := s.ctl.straps
      deskLevel := s.ctl.deskLevel
      cause := cause }
    image := s.imageAfterReset
    mem := s.mem.forget
    path := { Path.reset with
      port := { Path.reset.port with ops := s.path.port.ops }
      upData := s.path.upData
      scanOut := s.path.scanOut
      cutOff := s.waitCondition }
    msg := { MessageUnit.reset with ackLine := s.msg.ackLine }
    link := { Link.reset with acked := s.link.acked, out := s.link.out }
    freeCount := s.freeCount + 1 }

/-! ### Entries to RUN, RETAIN and CONFIG -/

/-- Record `n` at an entry to RUN: Table 3.3, the timer of a held record started (R167). -/
def State.recordAtRun (s : State) (n : Nat) : RecordState :=
  { RecordState.reset with timer := if (s.cfg.entry n).held then some (s.freshnessMoment n) else none }

/-- The message unit at an entry to RUN (R147): the recall stack and the debouncer are kept. -/
def MessageUnit.atRun (m : MessageUnit) : MessageUnit :=
  { m with entries := [], stages := List.replicate 4 none, nextOrdinal := 0 }

/-- An entry to RUN from LOAD or CONFIG, before the DESK_ON filter is looked at (R167). -/
def State.runEvent (s : State) : State :=
  { s with
    ctl := { s.ctl with part := .run }
    recs := recordIndices.map s.recordAtRun
    speed := { kinds := List.replicate Config.recordCount SpeedKind.reset, axle := s.speed.axle.begin s.cfg s.now }
    aspect := { kinds := List.replicate Config.recordCount AspectKind.reset, select := Selection.reset }
    msg := s.msg.atRun
    status := { notices := Notices.reset, counts := Counts.reset } }

/-- An entry to RUN that finds the filtered level of DESK_ON low passes at once to RETAIN (R166). -/
def State.enterRun (s : State) : State :=
  if s.ctl.deskLevel then s.runEvent else s.runEvent.setPart .retain

/-- Entry to CONFIG (R78, R117, R161): every freshness timer and a running changeover timer stop, all other
running state stands. -/
def State.enterConfigMode (s : State) : State :=
  { s with
    ctl := { s.ctl with part := .config }
    recs := s.recs.map fun r => { r with timer := none }
    aspect := { s.aspect with select := { s.aspect.select with timer := s.aspect.select.timer.stop } } }

/-! ### DESK_ON (R166) -/

/-- The part follows a change of the filtered level (R166). -/
def State.followDesk (s : State) (level : Bool) : State :=
  match s.part, level with
  | .run, false => s.setPart .retain
  | .retain, true => s.setPart .run
  | _, _ => s

/-- The DESK_ON filter takes a new input level (R166). In POWER_UP the filter does not run. -/
def State.deskInput (s : State) (high : Bool) : State :=
  if s.part = .powerUp then s.withCtl { s.ctl with deskOnInput := high }
  else
    s.withCtl { s.ctl with
      deskOnInput := high
      deskDiffersSince :=
        if high = s.ctl.deskLevel then none
        else some (s.ctl.deskDiffersSince.getD s.now) }

end Sys2Proof.Machine
end

