-- ==== Sys2Proof/Machine/StatusWindow.lean ====
section
/-! DEFINITION. The words of the STATUS window and of the status mirror (R149, R152, R153). -/

namespace Sys2Proof.Machine

def PartState.code : PartState → Nat
  | .powerUp => 0
  | .memoryInit => 1
  | .load => 2
  | .run => 3
  | .config => 4
  | .safe => 5
  | .retain => 6

def ResetCause.code : ResetCause → Nat
  | .powerOn => 1
  | .supplyDip => 2
  | .resetLine => 3
  | .linkRestart => 4

/-- STATUS word `k` (Table 8.2); word 7 is 0xFFFF where Vx is absent. -/
def State.statusWord (s : State) (k : Nat) : Word :=
  match k with
  | 0 => word (s.part.code * 4096 + s.status.notices.toNat)
  | 1 => word (s.part.code * 4096 + s.ctl.cause.code * 256 + s.ctl.loadFailure.toNat)
  | 2 => word s.ctl.ms.toNat
  | 3 => word (s.ctl.ms.toNat / 65536)
  | 4 => word (s.msg.entries.length * 256 + s.status.counts.overflow)
  | 5 => word (s.status.counts.lateAck * 256 + s.status.counts.badPost)
  | 6 => word (s.status.counts.strayClear * 256 + s.status.counts.copyWrite)
  | 7 => word (s.speed.axle.vx.getD 65535)
  | k + 8 => (s.record k).statusWord

/-- A read of word 0 by the desk computer clears every notice it returns (R149). -/
def State.clearNotices (s : State) : State := s.withStatus { s.status with notices := Notices.reset }

end Sys2Proof.Machine
end

