-- ==== Sys2Proof/Machine/MemoryPath.lean ====
section
/-! DEFINITION. The memory path (Section 1): dispositions of upstream transactions, scan bursts and their
words, the arbiter, the refresh unit, the release of held traffic. -/

namespace Sys2Proof.Machine

/-! ### The memory port (R1) -/

def State.withPort (s : State) (p : Port) : State := s.withPath { s.path with port := p }
def State.withUp (s : State) (u : Upstream) : State := s.withPath { s.path with up := u }
def State.withScan (s : State) (x : Scan) : State := s.withPath { s.path with scan := x }
def State.withRefresh (s : State) (r : RefreshUnit) : State := s.withPath { s.path with refresh := r }

/-- The port becomes free; the row left open is closed before (R1). -/
def Port.release (p : Port) : Port := { p with holder := .free, openRow := none }

/-- The port is granted to a claimant; the operations of the grant are counted from here (R1, log 17). -/
def Port.grant (_p : Port) (h : PortHolder) : Port := { holder := h, openRow := none, ops := [] }

/-- A column operation, after an activation where its row is not the open row of the grant (R1). -/
def Port.column (p : Port) (a : Addr) (op : MemOp) : Port :=
  if p.openRow = some (rowOf a) then { p with ops := p.ops ++ [op] }
  else { p with openRow := some (rowOf a), ops := p.ops ++ [.rowActivate (rowOf a), op] }

/-- A column read: the word at the address (R1). -/
def State.columnRead (s : State) (a : Addr) : State × Word :=
  (s.withPort (s.path.port.column a (.columnRead a)), s.mem.read a)

/-- A column write (R1). -/
def State.columnWrite (s : State) (a : Addr) (w : Word) : State :=
  (s.withPort (s.path.port.column a (.columnWrite a w))).withMem (s.mem.write a w)

/-! ### Dispositions of upstream transactions (R3) -/

/-- The disposition of an upstream transaction (R3). -/
inductive Disposition where
  /-- held as it arrived, in POWER_UP, MEMORY_INIT or LOAD (R16) -/
  | heldAtStart
  /-- a write that is dropped -/
  | dropped
  /-- a write dropped as COPY, which is counted and noticed (R24) -/
  | droppedCopy
  /-- a read answered by the part with a word -/
  | answered (w : Word)
  /-- a read of a window that gives no word at this offset (log 19) -/
  | answeredFree
  /-- a read of STATUS word 0, which clears the notices it returns (R149) -/
  | answeredStatus0
  /-- a write held for a scan pin -/
  | heldForPin
  /-- needs memory at an address -/
  | memory (a : Addr)
  /-- needs memory at its own address and is captured by the message unit (R29) -/
  | memoryPost (a : Addr) (k : Nat)
  /-- needs memory at the back copy of a record, with the engine's step (R40) -/
  | memoryRecord (a : Addr) (n k : Nat)
deriving DecidableEq, Repr

/-- The pins held by the burst in service. -/
def Scan.pins : Scan → List Snapshot
  | .idle => []
  | .heldAtStart _ _ => []
  | .active b => b.pins

/-- The snapshot of record `n` among some pins. -/
def findPin (n : Nat) (ps : List Snapshot) : Option Snapshot := ps.find? fun p => p.index == n

/-- Record `n` is pinned by the scan burst in service (R53). -/
def State.pinned (s : State) (n : Nat) : Bool := (findPin n s.path.scan.pins).isSome

/-- The address of word `k` of record `n`'s back copy (R38). -/
def State.backAddr (s : State) (n k : Nat) : Addr :=
  offsetAddr ((s.cfg.entry n).base (s.record n).front.other) k

/-- A window write (R40). An entry that is not in use takes no write (log 28). -/
def State.decideWindowWrite (s : State) (n k : Nat) : Disposition :=
  if (s.record n).status = .barred then .dropped
  else if s.pinned n then .heldForPin
  else if (s.cfg.entry n).inputs < k ∨ ¬(s.cfg.entry n).held then .dropped
  else .memoryRecord (s.backAddr n k) n k

/-- A word of a window as a disposition of a read (R52). -/
def WordSource.disposition : WordSource → Disposition
  | .memory a => .memory a
  | .supplied w => .answered w

/-- A word of a message window as a disposition of a read (R30, R31). -/
def answerWith : Option Word → Disposition
  | some w => .answered w
  | none => .answeredFree

/-- A write by its class (Table 2.2). -/
def State.decideWrite (s : State) (a : Addr) : AddrClass → Disposition
  | .copy => .droppedCopy
  | .pass => .memory a
  | .unmatched => .memory a
  | .protect => .dropped
  | .record n k => s.decideWindowWrite n k
  | .post k => .memoryPost a k
  | .slot _ => .dropped
  | .recalled _ => .dropped
  | .status _ => .dropped

/-- A read by its class (Table 2.2). -/
def State.decideRead (s : State) (a : Addr) : AddrClass → Disposition
  | .copy => .memory a
  | .pass => .memory a
  | .unmatched => .memory a
  | .protect => .memory a
  | .record n k => (s.windowNow n k).disposition
  | .post _ => .memory a
  | .slot k => answerWith (s.slotWord k)
  | .recalled k => answerWith (s.recallWord k)
  | .status k => if k = 0 then .answeredStatus0 else if k ≤ 31 then .answered (s.statusWord k) else .answeredFree

/-- The address of a request. -/
def requestAddr : UpstreamRequest → Addr
  | .read a => a
  | .write a _ => a

/-- The disposition of an upstream transaction in the state as it stands (R3, R15, R16). -/
def State.disposition (s : State) (r : UpstreamRequest) : Disposition :=
  match s.part with
  | .powerUp => .heldAtStart
  | .memoryInit => .heldAtStart
  | .load => .heldAtStart
  | .config => .memory (requestAddr r)
  | .safe => .memory (requestAddr r)
  | .run =>
    match r with
    | .read a => s.decideRead a (s.cfg.classify .upstream a)
    | .write a _ => s.decideWrite a (s.cfg.classify .upstream a)
  | .retain =>
    match r with
    | .read a => s.decideRead a (s.cfg.classify .upstream a)
    | .write a _ => s.decideWrite a (s.cfg.classify .upstream a)

/-- The transaction completes with a word on the data lines (R2). -/
def State.completeRead (s : State) (w : Word) : State :=
  s.withPath { s.path with up := .idle, upData := w }

/-- The transaction completes without a word (R2). -/
def State.completeWrite (s : State) : State := s.withUp .idle

/-- A read completes with a word the spec does not give (log 19). -/
def State.completeFree (s : State) : State :=
  (s.completeRead (Config.freeWord s.freeCount)).withFreeCount (s.freeCount + 1)

/-- A transaction that the part completes, holds or makes a claimant (R3): at arrival, and at release from a
pin (R5) or from the held state of R16. -/
def State.dispose (s : State) (r : UpstreamRequest) : State :=
  match s.disposition r with
  | .heldAtStart => s.withUp (.heldAtStart r)
  | .dropped => s.completeWrite
  | .droppedCopy => (s.completeWrite.countCopyWrite).notify .copyWrite
  | .answered w => s.completeRead w
  | .answeredFree => s.completeFree
  | .answeredStatus0 => (s.completeRead (s.statusWord 0)).clearNotices
  | .heldForPin => s.withUp (.heldForPin r)
  | .memory _ => s.withUp (.claiming r)
  | .memoryPost _ _ => s.withUp (.claiming r)
  | .memoryRecord _ _ _ => s.withUp (.claiming r)

/-- A request presented at the upstream port: taken where the port holds none (R2, R3). -/
def State.arrive (s : State) (r : UpstreamRequest) : State :=
  match s.path.up with
  | .idle => s.dispose r
  | .heldAtStart _ => s
  | .claiming _ => s
  | .heldForPin _ => s
  | .serving _ _ => s

/-! ### Service of an upstream transaction at its grant (R4) -/

/-- The memory work of a granted transaction: a column write of a WRITE, a column read of a READ. The
transaction holds the port until its column operation completes. -/
def State.serveMemory (s : State) (r : UpstreamRequest) (a : Addr) : State :=
  match r with
  | .read _ => (s.columnRead a).1.withUp (.serving r (some (s.columnRead a).2))
  | .write _ w => (s.columnWrite a w).withUp (.serving r none)

/-- The data word of a request (a READ carries none). -/
def requestData : UpstreamRequest → Word
  | .read _ => 0#16
  | .write _ w => w

/-- The port becomes free without a memory operation (R4). -/
def State.freePort (s : State) : State := s.withPort s.path.port.release

/-- A granted transaction is decided again and served by that decision (R4). -/
def State.serveGranted (s : State) (r : UpstreamRequest) : State :=
  match s.disposition r with
  | .memory a => s.serveMemory r a
  | .memoryPost a k => (s.serveMemory r a).capture k (requestData r)
  | .memoryRecord a n k => Event.finish ((s.serveMemory r a).writeStep n k (requestData r))
  | .heldAtStart => (s.dispose r).freePort
  | .dropped => (s.dispose r).freePort
  | .droppedCopy => (s.dispose r).freePort
  | .answered _ => (s.dispose r).freePort
  | .answeredFree => (s.dispose r).freePort
  | .answeredStatus0 => (s.dispose r).freePort
  | .heldForPin => (s.dispose r).freePort

/-! ### Scan bursts (R6 to R8, R33) -/

/-- The count served: clamped to the start row; a count of 0 stands for 128 (R6). -/
def countServed (start : Addr) (count : BitVec 8) : Nat :=
  min (if count = 0#8 then 128 else count.toNat) (128 - columnOf start)

/-- Where a scan word comes from, and the pin it needs: a memory address, a word, or a free word (R7, R33). -/
inductive ScanSource where
  | memory (a : Addr)
  | supplied (w : Word)
  | free
deriving DecidableEq, Repr

def WordSource.scanSource : WordSource → ScanSource
  | .memory a => .memory a
  | .supplied w => .supplied w

def scanAnswer : Option Word → ScanSource
  | some w => .supplied w
  | none => .free

/-- Word `k` of record `n`'s window for a burst with these pins: by its snapshot, or by the record as it
stands where the burst has not pinned it (R54, R58). -/
def State.scanWindow (s : State) (ps : List Snapshot) (n k : Nat) : WordSource :=
  match findPin n ps with
  | some p => s.windowPinned p k
  | none => s.windowNow n k

/-- A scan word by its class (Table 2.2). STATUS words are answered 0 (R32). -/
def State.scanByClass (s : State) (ps : List Snapshot) (a : Addr) : AddrClass → ScanSource
  | .copy => .memory a
  | .pass => .memory a
  | .unmatched => .memory a
  | .protect => .memory a
  | .record n k => (s.scanWindow ps n k).scanSource
  | .post _ => .memory a
  | .slot k => scanAnswer (s.slotWord k)
  | .recalled k => scanAnswer (s.recallWord k)
  | .status _ => .supplied 0#16

/-- The decision on a scan word (R7). -/
def State.scanSource (s : State) (ps : List Snapshot) (a : Addr) : ScanSource :=
  s.scanByClass ps a (s.cfg.classify .scan a)

/-- A scan word needs memory as the state stands (R33). -/
def State.scanNeedsMemory (s : State) (a : Addr) : Bool :=
  match s.scanSource [] a with
  | .memory _ => true
  | .supplied _ => false
  | .free => false

/-- Some word of a burst needs memory (R8, R33). -/
def State.burstNeedsMemory (s : State) (start : Addr) (count : Nat) : Bool :=
  (List.range count).any fun i => s.scanNeedsMemory (offsetAddr start i)

/-- A burst taken for service in RUN (R8). -/
def State.takeBurst (s : State) (start : Addr) (count : BitVec 8) : State :=
  let n := countServed start count
  s.withPath { s.path with
    scanOut := []
    scan := .active { next := start, left := n,
                      phase := if s.burstNeedsMemory start n then .claiming else .runningFree, pins := [] } }

/-- A burst answered at once with zeros (R6, R15). -/
def State.answerZeros (s : State) (start : Addr) (count : BitVec 8) : State :=
  s.withPath { s.path with scanOut := List.replicate (countServed start count) 0#16, scan := .idle }

/-- An arriving burst by the part state (R6); a burst released from the held state too (R16). -/
def State.disposeBurst (s : State) (start : Addr) (count : BitVec 8) : State :=
  match s.part with
  | .powerUp => s.withScan (.heldAtStart start count)
  | .memoryInit => s.withScan (.heldAtStart start count)
  | .load => s.withScan (.heldAtStart start count)
  | .retain => s.answerZeros start count
  | .config => s.answerZeros start count
  | .safe => s.answerZeros start count
  | .run => s.takeBurst start count

/-- A burst presented at the scan port: taken where no other is in service (R6). -/
def State.arriveBurst (s : State) (start : Addr) (count : BitVec 8) : State :=
  match s.path.scan with
  | .idle => s.disposeBurst start count
  | .heldAtStart _ _ => s
  | .active _ => s

/-- The pins of a burst after it serves a word of a class: the first word of a record's window pins the
record (R53). -/
def State.pinsAfter (s : State) (ps : List Snapshot) : AddrClass → List Snapshot
  | .record n _ => if (findPin n ps).isSome then ps else ps ++ [s.snapshot n]
  | .copy => ps
  | .pass => ps
  | .unmatched => ps
  | .protect => ps
  | .post _ => ps
  | .slot _ => ps
  | .recalled _ => ps
  | .status _ => ps

/-- A write held for a pin is released and decided afresh (R5, R56). -/
def State.releasePinHeld (s : State) : State :=
  match s.path.up with
  | .heldForPin r => (s.withUp .idle).dispose r
  | .idle => s
  | .heldAtStart _ => s
  | .claiming _ => s
  | .serving _ _ => s

/-- The burst has served its last word: its pins are released, the port it holds becomes free, and a held
write is decided afresh (R7, R8, R56). DESIGN CHOICE (log 12): R9 lets the grant of the freed port and the claim of
the released write be taken in either order; here the claim is made in the step that frees the port, before any grant. -/
def State.endBurst (s : State) (phase : BurstPhase) : State :=
  let s1 := s.withScan .idle
  (if phase = .holdingPort then s1.freePort else s1).releasePinHeld

/-- The word of a burst goes out with data-valid; the burst goes on to its next word or ends (R7). -/
def State.deliver (s : State) (b : Burst) (w : Word) : State :=
  let ps := s.pinsAfter b.pins (s.cfg.classify .scan b.next)
  let s1 := s.withPath { s.path with
    scanOut := s.path.scanOut ++ [w]
    scan := .active { b with next := b.next + 1#17, left := b.left - 1, pins := ps } }
  if b.left ≤ 1 then s1.endBurst b.phase else s1

/-- A burst in service serves its next word (R7). Without the port it stops at a word that needs memory and
claims the port (R8). -/
def State.serveScanWord (s : State) (b : Burst) : State :=
  match s.scanSource b.pins b.next with
  | .memory a =>
    if b.phase = .holdingPort then (s.columnRead a).1.deliver b (s.columnRead a).2
    else s.withScan (.active { b with phase := .claiming })
  | .supplied w => s.deliver b w
  | .free => (s.withFreeCount (s.freeCount + 1)).deliver b (Config.freeWord s.freeCount)

/-! ### The arbiter (R9, R10) -/

/-- An upstream transaction waits as a claimant. -/
def State.upWaits (s : State) : Bool :=
  match s.path.up with
  | .claiming _ => true
  | .idle => false
  | .heldAtStart _ => false
  | .heldForPin _ => false
  | .serving _ _ => false

/-- A scan burst waits as a claimant. -/
def State.scanWaits (s : State) : Bool :=
  match s.path.scan with
  | .active b => b.phase == .claiming
  | .idle => false
  | .heldAtStart _ _ => false

/-- The claimant the first case of Table 1.2 that holds names, if any. -/
def State.winner (s : State) : PortHolder :=
  if 4 ≤ s.path.refresh.debt then .refresh
  else if s.upWaits && s.path.alternate then .upstream
  else if s.scanWaits then .scan
  else if s.upWaits then .upstream
  else if 1 ≤ s.path.refresh.debt then .refresh
  else .free

/-- A grant to refresh (R12): the row at the counter, the counter advanced, the debt paid; the arm is armed
where the debt reaches 0. -/
def State.grantRefresh (s : State) : State :=
  let r := s.path.refresh
  s.withPath { s.path with
    port := { (s.path.port.grant .refresh) with ops := [.rowRefresh r.row.toNat] }
    refresh := { r with row := r.row + 1#10, debt := r.debt - 1, armed := r.armed || r.debt - 1 == 0 } }

/-- A grant to the scan burst that waits (R8, R10): the alternation flag is set where an upstream transaction
waits. -/
def State.grantScan (s : State) : State :=
  match s.path.scan with
  | .active b =>
    s.withPath { s.path with
      port := s.path.port.grant .scan
      alternate := s.path.alternate || s.upWaits
      scan := .active { b with phase := .holdingPort } }
  | .idle => s
  | .heldAtStart _ _ => s

/-- A grant to the upstream transaction that waits (R4, R10): the alternation flag is cleared. -/
def State.grantUpstream (s : State) : State :=
  match s.path.up with
  | .claiming r =>
    (s.withPath { s.path with port := s.path.port.grant .upstream, alternate := false }).serveGranted r
  | .idle => s
  | .heldAtStart _ => s
  | .heldForPin _ => s
  | .serving _ _ => s

/-- A grant moment (R9): the port is free and goes to the winner; with no claimant it stays free. -/
def State.arbitrate (s : State) : State :=
  match s.path.port.holder with
  | .free =>
    match s.winner with
    | .refresh => s.grantRefresh
    | .upstream => s.grantUpstream
    | .scan => s.grantScan
    | .free => s
  | .refresh => s
  | .upstream => s
  | .scan => s

/-- The column operation of the transaction being served completes: the wait line is released, a READ has its
word, and the port becomes free (R2, R4). -/
def State.columnDone (s : State) : State :=
  match s.path.up with
  | .serving _ (some w) => (s.completeRead w).freePort
  | .serving _ none => s.completeWrite.freePort
  | .idle => s
  | .heldAtStart _ => s
  | .claiming _ => s
  | .heldForPin _ => s

/-- A write of the desk computer carried as far as the port allows: it arrives; where it becomes a claimant of
a free port and the arbiter's choice falls on it, it is granted and completes (R2, R4, R9, log 14). -/
def State.deskWrite (s : State) (a : Addr) (w : Word) : State :=
  match s.path.up with
  | .idle =>
    let s1 := s.arrive (.write a w)
    if s1.path.port.holder = .free ∧ s1.winner = .upstream then s1.grantUpstream.columnDone else s1
  | .heldAtStart _ => s
  | .claiming _ => s
  | .heldForPin _ => s
  | .serving _ _ => s

/-! ### The refresh unit (R11, R13) -/

/-- The raise of message 1125 (R137). -/
def overrunRaise : RaiseRequest := partRaise 1125 0 true 0

/-- The requests of an overrun (R13, R68, R137): those of the records, and the raise of message 1125 with its clear after
it. An ACK press that is due at that moment may be recognized between the raise and the clear; a free choice says whether
it is (log 25). -/
def overrunMessages (e : Event) : State :=
  if e.1.pressDue then
    let c := e.1.choose 2
    if c.1 = 1 then c.2.takeAround e.2 (.raise overrunRaise none) State.press (.condClear overrunRaise.code)
    else Event.finish (c.2, e.2 ++ [.overrun overrunRaise])
  else Event.finish (e.1, e.2 ++ [.overrun overrunRaise])

/-- The refresh overrun event, by the part state (R13). Some row may have gone too long without refresh and the part
cannot tell which (section 4.5), so no word of the memory is known after it (log 7). -/
def State.overrun (s : State) : State :=
  let s1 := (s.notify .overrun).withMem s.mem.forget
  if s.inService then overrunMessages s1.overrunRecords else s1

/-- A refresh tick (R11): one refresh more is owed, at most 8; the tick that brings the debt to 8 with the arm
armed disarms it and raises the overrun event. -/
def State.refreshTick (s : State) : State :=
  let r := s.path.refresh
  if r.debt = 7 ∧ r.armed then (s.withRefresh { r with debt := 8, armed := false }).overrun
  else s.withRefresh { r with debt := if r.debt < 8 then r.debt + 1 else r.debt }

/-! ### Release of held traffic on leaving LOAD (R16) -/

/-- The held upstream transaction is decided as if it had just arrived. -/
def State.releaseUpstream (s : State) : State :=
  match s.path.up with
  | .heldAtStart r => (s.withUp .idle).dispose r
  | .idle => s
  | .claiming _ => s
  | .heldForPin _ => s
  | .serving _ _ => s

/-- The held burst is treated as if it had just arrived. -/
def State.releaseBurst (s : State) : State :=
  match s.path.scan with
  | .heldAtStart start count => (s.withScan .idle).disposeBurst start count
  | .idle => s
  | .active _ => s

/-- Held traffic that finds RUN followed at once by RETAIN may be taken up in either state (R16): `inRun` says
which for one piece of traffic (log 9). -/
def State.takeUp (s : State) (inRun : Bool) (f : State → State) : State :=
  if inRun then (f (s.setPart .run)).setPart .retain else f s

/-- Something is held at start-up. -/
def State.holdsTraffic (s : State) : Bool :=
  (match s.path.up with
   | .heldAtStart _ => true
   | .idle => false
   | .claiming _ => false
   | .heldForPin _ => false
   | .serving _ _ => false) ||
  (match s.path.scan with
   | .heldAtStart _ _ => true
   | .idle => false
   | .active _ => false)

/-- Each held transaction is released on leaving LOAD (R16). Where the part has gone from LOAD through RUN to
RETAIN, two free choices say in which of the two states each is taken up. DESIGN CHOICE (log 9): R16 lets the transaction
and the burst be taken up in either order; here the transaction comes first, and both have made their claims before any
grant. -/
def State.releaseHeld (s : State) : State :=
  if s.part = .retain ∧ s.holdsTraffic then
    let c1 := s.choose 2
    let c2 := c1.2.choose 2
    (c2.2.takeUp (c1.1 == 1) State.releaseUpstream).takeUp (c2.1 == 1) State.releaseBurst
  else s.releaseUpstream.releaseBurst

end Sys2Proof.Machine
end

