-- ==== Sys2Proof/Machine/Operands.lean ====
section
/-! DEFINITION. The operand forms of the commands: the bytes of a link request from its parts and back
(R155, Table 9.1, R161), and the action words of the posts (Table 7.1). -/

namespace Sys2Proof.Machine

/-! ### Action words (Table 7.1) -/

/-- An action word: marker, ignored bits 7 to 4, action. -/
def actionWord (marker : Byte) (ignored action : BitVec 4) : Word := marker ++ (ignored ++ action : BitVec 8)

/-! ### Link requests (R154, R155) -/

/-- The write address byte: the 7-bit address and direction bit 0 (R154). -/
def writeAddressByte (target : BitVec 7) : Byte := target ++ 0#1

/-- The read address byte: direction bit 1 (R154). -/
def readAddressByte (target : BitVec 7) : Byte := target ++ 1#1

/-- The bytes of a command: control word (write, one word, section 14, offset 0), the command word, and what
was sent after it (Table 9.1, R161). -/
def commandBytes (code : Byte) (f : CommandFrame) : List Byte :=
  ((0#1 ++ BitVec.ofBool f.checkFlag ++ f.ignored ++ 0#3 : BitVec 8)) :: 14#8 :: 0#8 :: 0#8 :: code :: f.arg :: f.tail

/-- The transfer that carries a command. -/
def commandTransfer (code : Byte) (f : CommandFrame) : LinkTransfer :=
  { target := f.target, bytes := commandBytes code f }

/-- A request as its control word gives it (Table 9.1), with the data words of a write. -/
structure LinkRequest where
  isRead    : Bool
  checkFlag : Bool
  sectionNo : Nat
  offset    : Nat
  count     : Nat
  data      : List Word
deriving DecidableEq, Repr

/-- The number of bytes a request's control word calls for (R155). -/
def LinkRequest.byteCount (q : LinkRequest) : Nat :=
  4 + (if q.isRead then 0 else 2 * q.count) + (if q.checkFlag then 1 else 0)

/-- The request of a control word and the bytes after it. -/
def requestOf (b0 b1 b2 b3 : Byte) (rest : List Byte) : LinkRequest :=
  { isRead := b0.msb
    checkFlag := b0.getLsbD 6
    sectionNo := b1.toNat
    offset := b2.toNat * 256 + b3.toNat
    count := b0.toNat % 8 + 1
    data := if b0.msb then [] else wordsOf (rest.take (2 * (b0.toNat % 8 + 1))) }

/-- The framing checks (R155): the request where the byte count and, with the check flag set, the check byte
are right; none where the request is discarded. -/
def parseRequest (target : BitVec 7) (bs : List Byte) : Option LinkRequest :=
  match bs with
  | b0 :: b1 :: b2 :: b3 :: rest =>
    let q := requestOf b0 b1 b2 b3 rest
    if bs.length ≠ q.byteCount then none
    else if q.checkFlag then
      if linkCrc (writeAddressByte target :: bs.dropLast) = bs.getLastD 0#8 then some q else none
    else some q
  | _ => none

end Sys2Proof.Machine
end

