-- ==== Sys2Proof/Machine/LinkUnit.lean ====
section
/-! DEFINITION. The maintenance link (Section 9): which addresses it acknowledges, sections and access, replies,
the result word, the commands, STORE and LOAD (R170, R171). -/

namespace Sys2Proof.Machine

/-! ### Result codes (Table 9.4) -/

inductive LinkResult where
  | ok | checkFail | badSection | badRange | readOnly | notInConfig | notStandstill | notBarred
  | inconsistent | storeFailed | imageInvalid | badCommand | badValue
deriving DecidableEq, Repr

def LinkResult.code : LinkResult → Nat
  | .ok => 0
  | .checkFail => 1
  | .badSection => 2
  | .badRange => 3
  | .readOnly => 4
  | .notInConfig => 5
  | .notStandstill => 6
  | .notBarred => 7
  | .inconsistent => 8
  | .storeFailed => 9
  | .imageInvalid => 10
  | .badCommand => 11
  | .badValue => 12

/-- The result word (Table 9.4); a section above 15 shows as 15 (R160). -/
def resultWord (r : LinkResult) (sectionNo detail : Nat) : Word :=
  word (r.code * 4096 + min sectionNo 15 * 256 + detail)

/-! ### Acknowledging an address (R154) -/

/-- The link answers: RUN, RETAIN, CONFIG or SAFE, with no request executing (R154). -/
def State.linkAnswers (s : State) : Bool :=
  (s.part == .run || s.part == .retain || s.part == .config || s.part == .safe) && s.link.job.isNone

/-- The link acknowledges this target address (R154). -/
def State.acknowledges (s : State) (target : BitVec 7) : Bool :=
  s.linkAnswers && decide (target.toNat = 0x2C + s.ctl.straps.toNat)

/-- The address byte is acknowledged or not: the output is kept (log 17). -/
def State.answerAddress (s : State) (target : BitVec 7) : State :=
  s.withLink { s.link with acked := s.acknowledges target }

/-! ### The end of a request (R157, R159, R160) -/

/-- The outcome of a request other than a read that passed: the result word set, the reply buffer emptied, the
request buffer free again. -/
def State.finishRequest (s : State) (r : LinkResult) (sectionNo detail : Nat) : State :=
  s.withLink { s.link with
    job := none, request := [], reply := [], replyCheck := false, result := resultWord r sectionNo detail }

/-- A discarded request (R155, R160): section 0 and detail 0. -/
def State.discardRequest (s : State) : State := s.finishRequest .checkFail 0 0

/-! ### Sections and access (Table 9.3) -/

/-- The number of offsets of a section; none where the section does not exist (Table 9.3). -/
def sectionSize (sectionNo : Nat) : Option Nat :=
  match sectionNo with
  | 0 => some 6
  | 1 => some 120
  | 2 => some 96
  | 3 => some 96
  | 4 => some 132
  | 5 => some 360
  | 6 => some 4
  | 8 => some 32
  | 9 => some 1
  | 14 => some 1
  | _ => none

/-- Word `k` of a section as a read finds it (R159). -/
def State.sectionWord (s : State) (sectionNo k : Nat) : Word :=
  if sectionNo = 8 then s.statusWord k
  else if sectionNo = 9 then s.link.result
  else at0 (s.cfg.get sectionNo) k

/-- Checks 1 and 2 of R158: the section exists (and is not the command section for a read), and the words lie
in it. -/
def rangeCheck (q : LinkRequest) : Option LinkResult :=
  match sectionSize q.sectionNo with
  | none => some .badSection
  | some size =>
    if q.isRead ∧ q.sectionNo = 14 then some .badSection
    else if size ≤ q.offset + q.count - 1 then some .badRange
    else none

/-- Checks 3 to 5 of R158 on a write request to a section other than 14. -/
def State.writeCheck (s : State) (q : LinkRequest) : Option LinkResult :=
  if q.sectionNo = 8 ∨ q.sectionNo = 9 then some .readOnly
  else if s.inService then some .notInConfig
  else if writeOk q.sectionNo q.offset q.count (overwrite (s.cfg.get q.sectionNo) q.offset q.data) then none
  else some .badValue

/-- A read request that passes (R159, R160): a read of section 9 leaves the result word as it stood. -/
def State.performRead (s : State) (q : LinkRequest) : State :=
  s.withLink { s.link with
    job := none
    request := []
    reply := (List.range q.count).map fun i => s.sectionWord q.sectionNo (q.offset + i)
    replyCheck := q.checkFlag
    result := if q.sectionNo = 9 then s.link.result else resultWord .ok q.sectionNo 0 }

/-- A write request that passes: all its words are applied as one event (R157, R158). -/
def State.performWrite (s : State) (q : LinkRequest) : State :=
  (s.withCfg (s.cfg.put q.sectionNo (overwrite (s.cfg.get q.sectionNo) q.offset q.data))).finishRequest
    .ok q.sectionNo 0

/-! ### Commands (R161) -/

/-- A command's own result: section 14, the command code as detail (R160). -/
def State.commandResult (s : State) (r : LinkResult) (code : Nat) : State := s.finishRequest r 14 code

/-- ENTER_CONFIG by the part state at its execution (Table 9.5). -/
def State.takeEnterConfig (s : State) : State :=
  match s.part with
  | .config => s.commandResult .ok 1
  | .safe => s.enterConfigMode.commandResult .ok 1
  | .run => if s.standstill then s.enterConfigMode.commandResult .ok 1 else s.commandResult .notStandstill 1
  | .retain => if s.standstill then s.enterConfigMode.commandResult .ok 1 else s.commandResult .notStandstill 1
  | .powerUp => s
  | .memoryInit => s
  | .load => s

/-- RESUME (Table 9.5): the check code is the detail of INCONSISTENT (R160). -/
def State.takeResume (s : State) : State :=
  if s.part = .config then
    match s.cfg.check with
    | none => s.enterRun.commandResult .ok 2
    | some code => s.finishRequest .inconsistent 14 code
  else s.commandResult .notInConfig 2

/-- CONFIG or SAFE. -/
def State.outOfService (s : State) : Bool := s.part == .config || s.part == .safe

/-- STORE begins (R157, R170): its first step makes the stored image invalid; the link is busy. -/
def State.takeStore (s : State) (request : List Byte) : State :=
  if s.outOfService then
    (s.withImage (s.image.set 0 0#16)).withLink { s.link with job := some (.store s.cfg), request := request }
  else s.commandResult .notInConfig 3

/-- LOAD begins (R157, R171): the link is busy. -/
def State.takeLoad (s : State) (request : List Byte) : State :=
  if s.outOfService then s.withLink { s.link with job := some .load, request := request }
  else s.commandResult .notInConfig 4

/-- RELEASE of record `n` (R67, Table 9.5). -/
def State.takeRelease (s : State) (n : Nat) : State :=
  if s.inService ∧ (s.record n).status = .barred then (s.releaseRecord n).finish.commandResult .ok 5
  else s.commandResult .notBarred 5

/-- CLEAR_RECALL (R144). -/
def State.takeClearRecall (s : State) : State :=
  (s.withMsg { s.msg with recalls := [] }).commandResult .ok 6

/-- RESTART (R161): a full reset. -/
def State.takeRestart (s : State) : State := s.fullReset .linkRestart

/-- A command other than RELEASE takes no argument: with one it is refused (R161). -/
def State.withoutArgument (s : State) (code : Nat) (arg : Byte) (f : State → State) : State :=
  if arg = 0#8 then f s else s.commandResult .badValue code

/-- A command by its code and argument (R161); `request` is the request buffer. -/
def State.performCommand (s : State) (request : List Byte) (code : Nat) (arg : Byte) : State :=
  match code with
  | 1 => s.withoutArgument 1 arg State.takeEnterConfig
  | 2 => s.withoutArgument 2 arg State.takeResume
  | 3 => s.withoutArgument 3 arg fun s => s.takeStore request
  | 4 => s.withoutArgument 4 arg fun s => s.takeLoad request
  | 5 => if 23 < arg.toNat then s.commandResult .badValue 5 else s.takeRelease arg.toNat
  | 6 => s.withoutArgument 6 arg State.takeClearRecall
  | 7 => s.withoutArgument 7 arg State.takeRestart
  | c => s.commandResult .badCommand c

/-- A request that has passed the framing checks is executed (R157, R158, R161). -/
def State.performRequest (s : State) (request : List Byte) (q : LinkRequest) : State :=
  match rangeCheck q with
  | some r => s.finishRequest r q.sectionNo 0
  | none =>
    if q.isRead then s.performRead q
    else if q.sectionNo = 14 then
      s.performCommand request (highByte (at0 q.data 0)).toNat (lowByte (at0 q.data 0))
    else
      match s.writeCheck q with
      | some r => s.finishRequest r q.sectionNo 0
      | none => s.performWrite q

/-- A write transfer (R154): where the address is not acknowledged nothing else happens; with no bytes it is
no request; otherwise the request is checked and executed. -/
def State.linkTransfer (s : State) (t : LinkTransfer) : State :=
  let s1 := s.answerAddress t.target
  if s.acknowledges t.target then
    match t.bytes with
    | [] => s1
    | _ :: _ =>
      match parseRequest t.target t.bytes with
      | none => s1.discardRequest
      | some q => s1.performRequest t.bytes q
  else s1

/-! ### Read transfers (R159) -/

/-- The bytes the link sends before the 0xFF bytes: the reply's words and, with the check flag, a check byte. -/
def State.replyBytes (s : State) (target : BitVec 7) : List Byte :=
  match s.link.reply with
  | [] => []
  | ws =>
    bytesOf ws ++ (if s.link.replyCheck then [linkCrc (readAddressByte target :: bytesOf ws)] else [])

/-- A read transfer of `count` bytes; every byte after the reply is 0xFF. -/
def State.readTransferBytes (s : State) (target : BitVec 7) (count : Nat) : State :=
  let s1 := s.answerAddress target
  s1.withLink { s1.link with
    out := if s.acknowledges target then
        (s.replyBytes target ++ List.replicate (count - (s.replyBytes target).length) 0xFF#8).take count
      else [] }

/-! ### The end of STORE and LOAD (R170, R171) -/

/-- The store after its words are written: every word as written but for those it failed to take. -/
def storedImage (written : List Word) (faults : List (Nat × Word)) : List Word :=
  faults.foldl (fun ws f => ws.set f.1 f.2) written

/-- A STORE ends (R170): OK where every word reads back as written; otherwise the format word is written 0 and
the result is STORE_FAILED. -/
def State.endStore (s : State) (sections : Sections) (faults : List (Nat × Word)) : State :=
  let written := imageOf sections
  let stored := storedImage written faults
  if stored = written then (s.withImage stored).commandResult .ok 3
  else (s.withImage (stored.set 0 0#16)).commandResult .storeFailed 3

/-- A LOAD command ends (R171). -/
def State.endLoad (s : State) : State :=
  if imageValid s.image then (s.withCfg (imageSections s.image)).commandResult .ok 4
  else s.commandResult .imageInvalid 4

end Sys2Proof.Machine
end

