-- ==== Sys2Proof/Machine/LinkCommands.lean ====
section
/-! DEFINITION. The meanings of the maintenance link's commands (Section 9, R170, R171). A command's request
goes through the same transfer, framing and checks as every request (R154 to R158). -/

namespace Sys2Proof.Machine

/-- LINK_ADDRESS_PROBE (R154): acknowledged or not; it changes nothing else. -/
def execLinkAddressProbe (target : BitVec 7) (s : State) : Host.Outcome State Fault Refusal :=
  complete (s.linkTransfer { target := target, bytes := [] })

/-- READ_REQUEST (R159). -/
def execReadRequest (t : LinkTransfer) (s : State) : Host.Outcome State Fault Refusal :=
  complete (s.linkTransfer t)

/-- READ_TRANSFER (R159). -/
def execReadTransfer (target : BitVec 7) (count : Nat) (s : State) : Host.Outcome State Fault Refusal :=
  complete (s.readTransferBytes target count)

/-- SECTION_WRITE (R158). -/
def execSectionWrite (t : LinkTransfer) (s : State) : Host.Outcome State Fault Refusal :=
  complete (s.linkTransfer t)

/-- ENTER_CONFIG (R161). -/
def execEnterConfig (f : CommandFrame) (s : State) : Host.Outcome State Fault Refusal :=
  complete (s.linkTransfer (commandTransfer 1#8 f))

/-- RESUME (R161). -/
def execResume (f : CommandFrame) (s : State) : Host.Outcome State Fault Refusal :=
  complete (s.linkTransfer (commandTransfer 2#8 f))

/-- STORE (R161, R170). -/
def execStore (f : CommandFrame) (s : State) : Host.Outcome State Fault Refusal :=
  complete (s.linkTransfer (commandTransfer 3#8 f))

/-- STORE_DONE (R170). -/
def execStoreDone (faults : List (Nat × Word)) (s : State) : Host.Outcome State Fault Refusal :=
  match s.link.job with
  | some (.store sections) => complete (s.endStore sections faults)
  | some .load => complete s
  | none => complete s

/-- LOAD (R161, R171). -/
def execLoad (f : CommandFrame) (s : State) : Host.Outcome State Fault Refusal :=
  complete (s.linkTransfer (commandTransfer 4#8 f))

/-- LOAD_DONE (R171). -/
def execLoadDone (s : State) : Host.Outcome State Fault Refusal :=
  match s.link.job with
  | some .load => complete s.endLoad
  | some (.store _) => complete s
  | none => complete s

/-- RELEASE (R161, R67). -/
def execRelease (f : CommandFrame) (s : State) : Host.Outcome State Fault Refusal :=
  complete (s.linkTransfer (commandTransfer 5#8 f))

/-- CLEAR_RECALL (R161, R144). -/
def execClearRecall (f : CommandFrame) (s : State) : Host.Outcome State Fault Refusal :=
  complete (s.linkTransfer (commandTransfer 6#8 f))

/-- RESTART (R161). -/
def execRestart (f : CommandFrame) (s : State) : Host.Outcome State Fault Refusal :=
  complete (s.linkTransfer (commandTransfer 7#8 f))

/-- BAD_COMMAND (R161). -/
def execBadCommand (code : Byte) (f : CommandFrame) (s : State) : Host.Outcome State Fault Refusal :=
  complete (s.linkTransfer (commandTransfer code f))

end Sys2Proof.Machine
end

