-- ==== Sys2Proof/Machine/PathCommands.lean ====
section
/-! DEFINITION. The meanings of the memory path's commands, of the posts and of the read of STATUS word 0
(Sections 1, 7 and 8). A command whose event the state does not allow leaves the state as it is (log 4). -/

namespace Sys2Proof.Machine

/-- REFRESH_TICK (R11): ticks come from the end of memory initialization on. -/
def execRefreshTick (s : State) : Host.Outcome State Fault Refusal :=
  if s.path.refresh.ticking then complete s.refreshTick else complete s

/-- ARBITER_GRANT (R9). -/
def execArbiterGrant (s : State) : Host.Outcome State Fault Refusal := complete s.arbitrate

/-- REFRESH_DONE (R12): the row refresh is done and the port becomes free. -/
def execRefreshDone (s : State) : Host.Outcome State Fault Refusal :=
  if s.path.port.holder = .refresh then complete s.freePort else complete s

/-- UPSTREAM_COLUMN_DONE (R4). -/
def execUpstreamColumnDone (s : State) : Host.Outcome State Fault Refusal := complete s.columnDone

/-- UPSTREAM_ARRIVAL (R2, R3). -/
def execUpstreamArrival (r : UpstreamRequest) (s : State) : Host.Outcome State Fault Refusal :=
  complete (s.arrive r)

/-- SCAN_BURST_ARRIVAL (R6). -/
def execScanBurstArrival (start : Addr) (count : BitVec 8) (s : State) : Host.Outcome State Fault Refusal :=
  complete (s.arriveBurst start count)

/-- SCAN_WORD (R7): a burst in service that does not wait for a grant serves its next word. -/
def execScanWord (s : State) : Host.Outcome State Fault Refusal :=
  match s.path.scan with
  | .active b => if b.phase = .claiming then complete s else complete (s.serveScanWord b)
  | .idle => complete s
  | .heldAtStart _ _ => complete s

/-- POST_MESSAGE_WORD (R126): a write of a message word. -/
def execPostMessageWord (a : Addr) (w : Word) (s : State) : Host.Outcome State Fault Refusal :=
  complete (s.deskWrite a w)

/-- POST_RAISE (R127, R134): a write of an action word RAISE. -/
def execPostRaise (a : Addr) (marker : Byte) (ignored : BitVec 4) (s : State) : Host.Outcome State Fault Refusal :=
  complete (s.deskWrite a (actionWord marker ignored 1#4))

/-- POST_CLEAR (R127, R135): a write of an action word CLEAR. -/
def execPostClear (a : Addr) (marker : Byte) (ignored : BitVec 4) (s : State) : Host.Outcome State Fault Refusal :=
  complete (s.deskWrite a (actionWord marker ignored 2#4))

/-- POST_ACK (R127, R136): a write of an action word ACK. -/
def execPostAck (a : Addr) (marker : Byte) (ignored : BitVec 4) (s : State) : Host.Outcome State Fault Refusal :=
  complete (s.deskWrite a (actionWord marker ignored 3#4))

/-- BAD_POST (R127): a write of an action word with an action field that is not valid. -/
def execBadPost (a : Addr) (marker : Byte) (ignored action : BitVec 4) (s : State) :
    Host.Outcome State Fault Refusal :=
  complete (s.deskWrite a (actionWord marker ignored action))

/-- STATUS_WORD_0_READ (R149): a read at the address of STATUS word 0; it completes at once on arrival. -/
def execStatusWord0Read (a : Addr) (s : State) : Host.Outcome State Fault Refusal := complete (s.arrive (.read a))

end Sys2Proof.Machine
end

