-- ==== Sys2Proof/Machine/ResetCommands.lean ====
section
/-! DEFINITION. The meanings of the reset and start-up commands, of the desk key and of the millisecond tick
(Section 10, R14). A command whose event the state does not allow leaves the state as it is (log 4). -/

namespace Sys2Proof.Machine

/-- POWER_ON (R162): the supply is good again after having been lost. -/
def execPowerOn (s : State) : Host.Outcome State Fault Refusal :=
  complete ((s.withCtl { s.ctl with supplyGood := true }).fullReset .powerOn)

/-- SUPPLY_DIP (R162): the supply falls from good to low. -/
def execSupplyDip (s : State) : Host.Outcome State Fault Refusal :=
  complete ((s.withCtl { s.ctl with supplyGood := false }).fullReset .supplyDip)

/-- RESET_LINE (R162): the RESET input is asserted. -/
def execResetLine (s : State) : Host.Outcome State Fault Refusal :=
  complete ((s.withCtl { s.ctl with resetAsserted := true }).fullReset .resetLine)

/-- RESET_LINE_RELEASED (R163). -/
def execResetLineReleased (s : State) : Host.Outcome State Fault Refusal :=
  complete (s.withCtl { s.ctl with resetAsserted := false })

/-- SUPPLY_GOOD_AFTER_DIP (R163). -/
def execSupplyGoodAfterDip (s : State) : Host.Outcome State Fault Refusal :=
  complete (s.withCtl { s.ctl with supplyGood := true })

/-- The end of POWER_UP may come: supply good with RESET released (R163). -/
def State.powerUpMayEnd (s : State) : Bool := s.part == .powerUp && s.ctl.supplyGood && !s.ctl.resetAsserted

/-- POWER_UP_END (R163): the straps are sampled, the filter takes the input level, the counter counts from 0,
MEMORY_INIT begins; the debouncer takes account of the ACK line from here on, so a line that is released moves
it to RELEASING (R139, log 20). -/
def execPowerUpEnd (straps : BitVec 2) (s : State) : Host.Outcome State Fault Refusal :=
  if s.powerUpMayEnd then
    complete ((s.withCtl { s.ctl with
        part := .memoryInit, init := .pausing, straps := straps, ms := 0#32,
        deskLevel := s.ctl.deskOnInput, deskDiffersSince := none }).withMsg
      { s.msg with debouncer := if s.msg.ackLine then .pressed else .releasing 0#32 })
  else complete s

/-- MEMORY_INIT_PAUSE_END (R14): the initial refreshes begin. -/
def execMemoryInitPauseEnd (s : State) : Host.Outcome State Fault Refusal :=
  if s.part = .memoryInit ∧ s.ctl.init = .pausing then
    complete ((s.withCtl { s.ctl with init := .refreshing 0 }).withPort { s.path.port with ops := [] })
  else complete s

/-- The sixteenth initial refresh (R14, R93): row counter 16, debt 0, arm armed, ticks begin; the axle settings
are copied and the first window begins; LOAD is entered. -/
def State.startOfService (s : State) : State :=
  ((s.withCtl { s.ctl with part := .load }).withRefresh
    { row := 16#10, debt := 0, armed := true, ticking := true }).withSpeed
      { s.speed with axle := s.speed.axle.begin s.cfg s.now }

/-- One initial refresh: row `k` is refreshed, outside the arbiter (R14). -/
def State.initialRefresh (s : State) (k : Nat) : State :=
  (s.withCtl { s.ctl with init := .refreshing (k + 1) }).withPort
    { s.path.port with ops := s.path.port.ops ++ [.rowRefresh k] }

/-- INITIAL_REFRESH_DONE (R14): rows 0 to 15 in order. -/
def execInitialRefreshDone (s : State) : Host.Outcome State Fault Refusal :=
  match s.part, s.ctl.init with
  | .memoryInit, .refreshing k =>
    complete (if 15 ≤ k then (s.initialRefresh k).startOfService else s.initialRefresh k)
  | _, _ => complete s

/-- The image read in LOAD is taken or not (R165). -/
def State.startupLoad (s : State) : State :=
  if imageValid s.image then
    let s1 := s.withCfg (imageSections s.image)
    match s1.cfg.check with
    | none => s1.enterRun
    | some code => s1.withCtl { s1.ctl with part := .safe, loadFailure := BitVec.ofNat 8 code }
  else s.withCtl { s.ctl with part := .safe, loadFailure := 9#8 }

/-- STARTUP_LOAD_DONE (R165): LOAD ends in RUN, RETAIN or SAFE, and held traffic is released (R16). -/
def execStartupLoadDone (s : State) : Host.Outcome State Fault Refusal :=
  if s.part = .load then complete s.startupLoad.releaseHeld else complete s

/-- DESK_ON_INPUT_CHANGE (R166). -/
def execDeskOnInputChange (high : Bool) (s : State) : Host.Outcome State Fault Refusal :=
  complete (s.deskInput high)

/-- The input has stood at the other level for 100 ms (R166). -/
def State.deskDue (s : State) : Bool :=
  match s.ctl.deskDiffersSince with
  | none => false
  | some t => decide (100 ≤ elapsed t s.now)

/-- The filtered level changes to the input's (R166). -/
def State.deskChange (s : State) : State :=
  (s.withCtl { s.ctl with deskLevel := !s.ctl.deskLevel, deskDiffersSince := none }).followDesk
    (!s.ctl.deskLevel)

/-- DESK_ON_FILTER_CHANGE (R166). -/
def execDeskOnFilterChange (s : State) : Host.Outcome State Fault Refusal :=
  if s.deskDue then complete s.deskChange else complete s

/-- MILLISECOND_TICK (R164): in POWER_UP the counter is held at 0. -/
def execMillisecondTick (s : State) : Host.Outcome State Fault Refusal :=
  if s.part = .powerUp then complete s else complete (s.withCtl { s.ctl with ms := s.ctl.ms + 1#32 })

end Sys2Proof.Machine
end

