-- ==== Sys2Proof/Machine/TimerCommands.lean ====
section
/-! DEFINITION. The meanings of the record and changeover timers, of the axle input and of the ACK input
(R61, R121, R94, R95, R139, R140). A command whose event the state does not allow leaves the state as it is
(log 4). -/

namespace Sys2Proof.Machine

/-- The freshness timer of record `n` runs and has reached its moment (R60). -/
def State.freshnessDue (s : State) (n : Nat) : Bool :=
  match (s.record n).timer with
  | none => false
  | some t => reached t s.now

/-- FRESHNESS_EXPIRY (R61). -/
def execFreshnessExpiry (n : Nat) (s : State) : Host.Outcome State Fault Refusal :=
  if s.freshnessDue n then complete (s.expire n).finish else complete s

/-- The changeover timer runs, its changeover is active, and it has reached its moment (R120, R121). -/
def State.changeoverDue (s : State) : Bool :=
  s.aspect.select.changeover &&
    (match s.aspect.select.timer with
     | .running t => reached t s.now
     | .stopped => false
     | .expired => false)

/-- The changeover message (R121): code 1124, class 0, marker 4 × F + Q. -/
def State.changeoverRequest (s : State) : PartRequest :=
  .raise (partRaise 1124 0 true
    (4 * s.aspect.select.inForce.getD 0 + s.aspect.select.requested.getD 0)) none

/-- CHANGEOVER_TIMER_EXPIRY (R121): the timer is marked expired, the changeover stays active. -/
def execChangeoverTimerExpiry (s : State) : Host.Outcome State Fault Refusal :=
  if s.changeoverDue then
    complete ((s.setSelection { s.aspect.select with timer := .expired }).takeRequests [s.changeoverRequest])
  else complete s

/-- AXLE_PULSE (R94). -/
def execAxlePulse (s : State) : Host.Outcome State Fault Refusal :=
  complete (s.withSpeed { s.speed with axle := s.speed.axle.pulse })

/-- AXLE_WINDOW_END (R95). -/
def execAxleWindowEnd (s : State) : Host.Outcome State Fault Refusal :=
  if s.speed.axle.windowDue s.now then
    complete (s.withSpeed { s.speed with axle := s.speed.axle.endWindow s.now })
  else complete s

/-- The debouncer takes account of the ACK line from the end of POWER_UP on (R139). -/
def State.debounce (s : State) (line : Bool) (f : Debouncer → Time → Debouncer) : State :=
  s.withMsg { s.msg with
    ackLine := line
    debouncer := if s.part = .powerUp then s.msg.debouncer else f s.msg.debouncer s.now }

/-- ACK_LINE_ASSERTED (R139). -/
def execAckLineAsserted (s : State) : Host.Outcome State Fault Refusal :=
  complete (s.debounce true debounceAsserted)

/-- ACK_LINE_RELEASED (R139). -/
def execAckLineReleased (s : State) : Host.Outcome State Fault Refusal :=
  complete (s.debounce false debounceReleased)

/-- ACK_PRESS (R139, R140). -/
def execAckPress (s : State) : Host.Outcome State Fault Refusal :=
  if s.pressDue then complete s.press else complete s

/-- The line has been released for 30 ms (R139). -/
def State.releaseDue (s : State) : Bool :=
  match s.msg.debouncer with
  | .releasing t => decide (30 ≤ elapsed t s.now)
  | .released => false
  | .pressing _ => false
  | .pressed => false

/-- ACK_RELEASE_SETTLED (R139). -/
def execAckReleaseSettled (s : State) : Host.Outcome State Fault Refusal :=
  if s.releaseDue then complete (s.withMsg { s.msg with debouncer := .released }) else complete s

end Sys2Proof.Machine
end

