-- ==== Sys2Proof/Machine/Dispatch.lean ====
section
/-! DEFINITION. One arm for each command. -/

namespace Sys2Proof.Machine

def exec (i : Instr) (s : State) : Host.Outcome State Fault Refusal :=
  match i with
  | .powerOn => Sys2Proof.Machine.execPowerOn s
  | .supplyDip => Sys2Proof.Machine.execSupplyDip s
  | .resetLine => Sys2Proof.Machine.execResetLine s
  | .powerUpEnd straps => Sys2Proof.Machine.execPowerUpEnd straps s
  | .memoryInitPauseEnd => Sys2Proof.Machine.execMemoryInitPauseEnd s
  | .initialRefreshDone => Sys2Proof.Machine.execInitialRefreshDone s
  | .startupLoadDone => Sys2Proof.Machine.execStartupLoadDone s
  | .deskOnInputChange high => Sys2Proof.Machine.execDeskOnInputChange high s
  | .deskOnFilterChange => Sys2Proof.Machine.execDeskOnFilterChange s
  | .millisecondTick => Sys2Proof.Machine.execMillisecondTick s
  | .refreshTick => Sys2Proof.Machine.execRefreshTick s
  | .arbiterGrant => Sys2Proof.Machine.execArbiterGrant s
  | .refreshDone => Sys2Proof.Machine.execRefreshDone s
  | .upstreamColumnDone => Sys2Proof.Machine.execUpstreamColumnDone s
  | .upstreamArrival request => Sys2Proof.Machine.execUpstreamArrival request s
  | .scanBurstArrival start count => Sys2Proof.Machine.execScanBurstArrival start count s
  | .scanWord => Sys2Proof.Machine.execScanWord s
  | .freshnessExpiry n => Sys2Proof.Machine.execFreshnessExpiry n s
  | .changeoverTimerExpiry => Sys2Proof.Machine.execChangeoverTimerExpiry s
  | .axlePulse => Sys2Proof.Machine.execAxlePulse s
  | .axleWindowEnd => Sys2Proof.Machine.execAxleWindowEnd s
  | .ackLineAsserted => Sys2Proof.Machine.execAckLineAsserted s
  | .ackLineReleased => Sys2Proof.Machine.execAckLineReleased s
  | .ackPress => Sys2Proof.Machine.execAckPress s
  | .ackReleaseSettled => Sys2Proof.Machine.execAckReleaseSettled s
  | .postMessageWord addr data => Sys2Proof.Machine.execPostMessageWord addr data s
  | .postRaise addr marker ignored => Sys2Proof.Machine.execPostRaise addr marker ignored s
  | .postClear addr marker ignored => Sys2Proof.Machine.execPostClear addr marker ignored s
  | .postAck addr marker ignored => Sys2Proof.Machine.execPostAck addr marker ignored s
  | .badPost addr marker ignored action => Sys2Proof.Machine.execBadPost addr marker ignored action s
  | .statusWord0Read addr => Sys2Proof.Machine.execStatusWord0Read addr s
  | .linkAddressProbe target => Sys2Proof.Machine.execLinkAddressProbe target s
  | .readRequest transfer => Sys2Proof.Machine.execReadRequest transfer s
  | .readTransfer target count => Sys2Proof.Machine.execReadTransfer target count s
  | .sectionWrite transfer => Sys2Proof.Machine.execSectionWrite transfer s
  | .enterConfig frame => Sys2Proof.Machine.execEnterConfig frame s
  | .resume frame => Sys2Proof.Machine.execResume frame s
  | .store frame => Sys2Proof.Machine.execStore frame s
  | .storeDone faults => Sys2Proof.Machine.execStoreDone faults s
  | .load frame => Sys2Proof.Machine.execLoad frame s
  | .loadDone => Sys2Proof.Machine.execLoadDone s
  | .release frame => Sys2Proof.Machine.execRelease frame s
  | .clearRecall frame => Sys2Proof.Machine.execClearRecall frame s
  | .restart frame => Sys2Proof.Machine.execRestart frame s
  | .badCommand code frame => Sys2Proof.Machine.execBadCommand code frame s
  | .resetLineReleased => Sys2Proof.Machine.execResetLineReleased s
  | .supplyGoodAfterDip => Sys2Proof.Machine.execSupplyGoodAfterDip s

end Sys2Proof.Machine
end

