-- ==== Sys2Proof/WellFormed.lean ====
section
/-! DEFINITION. Which operands the spec gives each row. `exec` is total: a command whose operands are not
well formed is answered as the hardware answers the stimulus it carries (log 16). -/

namespace Sys2Proof

/-- The first byte of a transfer carries the request's direction in bit 7 (Table 9.1); a transfer of one to
three bytes is a request too (R154, R155). -/
def LinkTransfer.isRead (t : LinkTransfer) : Bool :=
  match t.bytes with
  | [] => false
  | b :: _ => b.msb

def LinkTransfer.isWrite (t : LinkTransfer) : Bool :=
  match t.bytes with
  | [] => false
  | b :: _ => !b.msb

/-- A write of one word to section 14 at offset 0 is a command (R161) and has rows of its own. -/
def LinkTransfer.isCommand (t : LinkTransfer) : Bool :=
  match t.bytes with
  | b0 :: sec :: hi :: lo :: _ :: _ :: _ =>
    !b0.msb && (b0.toNat % 8 == 0) && sec == 14#8 && hi == 0#8 && lo == 0#8
  | _ => false

/-- The operands are those the row may carry. -/
def Instr.wellFormed : Instr → Bool
  | .scanBurstArrival _ count => decide (count.toNat ≤ 128)
  | .freshnessExpiry n => decide (n < Config.recordCount)
  | .badPost _ _ _ action => !(action == 1#4 || action == 2#4 || action == 3#4)
  | .readRequest t => t.isRead
  | .sectionWrite t => t.isWrite && !t.isCommand
  | .storeDone faults => faults.all fun f => decide (f.1 < 816)
  | .badCommand code _ => code == 0#8 || decide (8 ≤ code.toNat)
  | .powerOn => true
  | .supplyDip => true
  | .resetLine => true
  | .powerUpEnd _ => true
  | .memoryInitPauseEnd => true
  | .initialRefreshDone => true
  | .startupLoadDone => true
  | .deskOnInputChange _ => true
  | .deskOnFilterChange => true
  | .millisecondTick => true
  | .refreshTick => true
  | .arbiterGrant => true
  | .refreshDone => true
  | .upstreamColumnDone => true
  | .upstreamArrival _ => true
  | .scanWord => true
  | .changeoverTimerExpiry => true
  | .axlePulse => true
  | .axleWindowEnd => true
  | .ackLineAsserted => true
  | .ackLineReleased => true
  | .ackPress => true
  | .ackReleaseSettled => true
  | .postMessageWord _ _ => true
  | .postRaise _ _ _ => true
  | .postClear _ _ _ => true
  | .postAck _ _ _ => true
  | .statusWord0Read _ => true
  | .linkAddressProbe _ => true
  | .readTransfer _ _ => true
  | .enterConfig _ => true
  | .resume _ => true
  | .store _ => true
  | .load _ => true
  | .loadDone => true
  | .release _ => true
  | .clearRecall _ => true
  | .restart _ => true
  | .resetLineReleased => true
  | .supplyGoodAfterDip => true

end Sys2Proof
end

