-- ==== Sys2Proof/Safety.lean ====
section
/-! DEFINITION. The terms the statements are made in: the invariants of the model, the values a full reset and
an entry to RUN leave, and when the link takes a transfer. -/

namespace Sys2Proof.Machine

/-! ### Invariants -/

/-- Every list has its fixed length. -/
def Sections.shaped (c : Sections) : Prop :=
  c.part.length = 6 ∧ c.regions.length = 120 ∧ c.records.length = 96 ∧ c.speeds.length = 96 ∧
    c.aspects.length = 132 ∧ c.substitutes.length = 360 ∧ c.messages.length = 4

/-- The words a STORE in progress is writing have the lengths of the sections. -/
def LinkJob.shaped : LinkJob → Prop
  | .store c => c.shaped
  | .load => True

/-- The tables, the image, the records, the kind states and the stages have their fixed lengths. -/
def ShapeInv (s : State) : Prop :=
  s.cfg.shaped ∧ s.image.length = 816 ∧ s.recs.length = 24 ∧ s.speed.kinds.length = 24 ∧
    s.aspect.kinds.length = 24 ∧ s.msg.stages.length = 4 ∧ ∀ j, s.link.job = some j → j.shaped

/-- R157, R161: a request that takes time executes only in CONFIG or SAFE, the states it was taken in, since while
it executes the link takes no RESUME. -/
def JobInv (s : State) : Prop := s.link.job ≠ none → s.ctl.part = .config ∨ s.ctl.part = .safe

/-- R131, R130, R142: presentation order, capacity, one entry for each code, ordinals below the count, an entry
that needs no acknowledgement is ACKED, occurrence counts of 1 to 255, at most ten recall entries. -/
def ListInv (s : State) : Prop :=
  s.msg.entries.Pairwise (fun x y => x.before y = true) ∧ s.msg.entries.length ≤ 32 ∧
    (s.msg.entries.map Entry.code).Nodup ∧ (s.msg.entries.map Entry.ordinal).Nodup ∧
    (∀ e ∈ s.msg.entries, e.ordinal < s.msg.nextOrdinal ∧ (e.needsAck = false → e.state = .acked) ∧
      1 ≤ e.count ∧ e.count ≤ 255) ∧
    s.msg.nextOrdinal ≤ 4294967295 ∧ s.msg.recalls.length ≤ 10

/-- One record: refusals at most 15 (R49); recovery progress is above 0 exactly in RECOVERING (R64); a BARRED
record is CLOSED with its timer stopped (R66); an open version holds as many words as its next expected index
and its running CRC is that of the words held (R41, R42, R44). -/
def RecordInv (n : Nat) (r : RecordState) : Prop :=
  r.refusals ≤ 15 ∧ (r.status = .recovering ↔ r.progress ≠ 0) ∧
    (r.status = .barred → r.write = .closed ∧ r.timer = none) ∧
    ∀ next crc words, r.write = .opened next crc words →
      1 ≤ next ∧ words.length = next ∧ crc = crc8 (recordCrcStart n) (bytesOf words)

/-- Every record meets its invariant, and outside RUN and RETAIN every freshness timer is stopped (R60, R78). -/
def RecordsInv (s : State) : Prop :=
  (∀ n, n < 24 → RecordInv n (s.record n)) ∧
    (s.inService = false → ∀ n, n < 24 → (s.record n).timer = none)

/-- R117, R118: Q is absent exactly when F is; with no changeover Q is F and the timer is stopped; while a
changeover is active F and Q differ and, in service, Q's ASPECT record is not VALID. -/
def SelectionInv (s : State) : Prop :=
  (s.aspect.select.inForce = none ↔ s.aspect.select.requested = none) ∧
    (s.aspect.select.changeover = false →
      s.aspect.select.inForce = s.aspect.select.requested ∧ s.aspect.select.timer = .stopped) ∧
    (s.aspect.select.changeover = true →
      ∃ f q, s.aspect.select.inForce = some f ∧ s.aspect.select.requested = some q ∧ f ≠ q ∧
        (s.inService = true → s.systemValid q = false))

/-- The upstream port is being served. -/
def Upstream.isServing : Upstream → Prop
  | .serving _ _ => True
  | .idle => False
  | .heldAtStart _ => False
  | .claiming _ => False
  | .heldForPin _ => False

/-- The burst in service holds the port. -/
def Scan.holdsPort : Scan → Prop
  | .active b => b.phase = .holdingPort
  | .idle => False
  | .heldAtStart _ _ => False

/-- R1, R8, R11: the port is busy with an upstream transaction exactly while one is being served, and with the
burst exactly while it holds the port; a free port has no open row; the debt lies between 0 and 8; a burst in
service has words left; a transaction held for a pin is a WRITE (R5). -/
def PortInv (s : State) : Prop :=
  (s.path.port.holder = .upstream ↔ s.path.up.isServing) ∧
    (s.path.port.holder = .scan ↔ s.path.scan.holdsPort) ∧
    (s.path.port.holder = .free → s.path.port.openRow = none) ∧
    s.path.refresh.debt ≤ 8 ∧ (∀ b, s.path.scan = .active b → 1 ≤ b.left) ∧
    ∀ a, s.path.up ≠ .heldForPin (.read a)

/-- R90, R114, R123: in service a VALID SPEED, ASPECT or SELECT record has its presented values. -/
def PresentedInv (s : State) : Prop :=
  s.inService = true → ∀ n, n < 24 → (s.record n).status = .valid →
    (s.kind n = .speed → (s.speedKind n).presented ≠ none) ∧
    (s.kind n = .aspect → (s.aspectKind n).shown ≠ none) ∧
    (s.kind n = .select → s.aspect.select.inForce ≠ none)

/-- Word `k` of copy `x` of record `n` lies at this address (R38). -/
def State.copyAddr (s : State) (n : Nat) (x : Copy) (k : Nat) : Addr := (s.cfg.entry n).base x + BitVec.ofNat 17 k

/-! ### Values after a full reset -/

/-- Table 1.6, R20, R36, R39 Table 3.3, R76, R80, R82, R92, R93, R107, R109, R117, R120, R128, R129, R146, R148,
R151, R157, R162. -/
def FullResetValues (t : State) : Prop :=
  (t.ctl.part = .powerUp ∧ t.ctl.loadFailure = 0#8 ∧ t.ctl.ms = 0#32) ∧
  (t.path.refresh.debt = 0 ∧ t.path.refresh.row = 0#10 ∧ t.path.refresh.armed = true ∧
    t.path.refresh.ticking = false ∧ t.path.alternate = false ∧ t.path.port.holder = .free ∧
    t.path.up = .idle ∧ t.path.scan = .idle) ∧
  (t.cfg.part = [0#16, 1500#16, 100#16, 10#16, 1#16, 500#16] ∧
    (∀ i, i < 120 → at0 t.cfg.regions i = 0#16) ∧ (∀ i, i < 96 → at0 t.cfg.records i = 0#16) ∧
    (∀ n, n < 24 → at0 t.cfg.speeds (4 * n) = 0x0428#16 ∧ at0 t.cfg.speeds (4 * n + 1) = 0x0001#16 ∧
      at0 t.cfg.speeds (4 * n + 2) = 0#16 ∧ at0 t.cfg.speeds (4 * n + 3) = 0#16) ∧
    (∀ y, y < 4 → at0 t.cfg.aspects (33 * y) = 0x2000#16 ∧
      ∀ i, 1 ≤ i → i < 33 → at0 t.cfg.aspects (33 * y + i) = 0#16) ∧
    (∀ i, i < 360 → at0 t.cfg.substitutes i = 0#16) ∧ ∀ i, i < 4 → at0 t.cfg.messages i = 0#16) ∧
  (∀ n, n < 24 →
    t.record n = { front := .a, write := .closed, lastSeq := none, status := .empty, refusals := 0,
                   reason := .none, progress := 0, timer := none } ∧
    t.speedKind n = { previous := none, plausible := .noReference, disagreeRun := 0, agreeRun := 0,
                      presented := none } ∧
    t.aspectKind n = { shown := none, upgrade := none, awaiting := false }) ∧
  (t.speed.axle.running = none ∧ t.speed.axle.history = [] ∧ t.speed.axle.vx = none) ∧
  t.aspect.select = { inForce := none, requested := none, changeover := false, timer := .stopped } ∧
  ((∀ c, c < 4 → t.stage c = none) ∧ t.msg.entries = [] ∧ t.msg.nextOrdinal = 0 ∧ t.msg.recalls = [] ∧
    t.msg.debouncer = .pressed) ∧
  (t.status.notices = { leftValid := false, refusal := false, barred := false, listOverflow := false,
                        overrun := false, copyWrite := false } ∧
    t.status.counts = { overflow := 0, lateAck := 0, badPost := 0, strayClear := 0, copyWrite := 0 }) ∧
  (t.link.job = none ∧ t.link.request = [] ∧ t.link.reply = [] ∧ t.link.result = 0#16) ∧
  t.lines.alert = false ∧ t.lines.attn = false

/-- The wait line is asserted: toward the transaction the upstream port holds (R2), or, in POWER_UP, MEMORY_INIT and
LOAD, toward a request that the last full reset cut off (R18). -/
def WaitHeld (s : State) : Prop :=
  s.path.up ≠ .idle ∨
    (s.path.cutOff = true ∧ (s.ctl.part = .powerUp ∨ s.ctl.part = .memoryInit ∨ s.ctl.part = .load))

/-- What a full reset leaves as it was: the commands waiting, the levels of the input lines, the wait line toward a
request (R18), and the image (R169). A STORE cut short leaves it as its first step left it, or with the format word
0x3720 and every word as the STORE wrote it, save those the store failed to take (R170, log 10). -/
def FullResetKeeps (s t : State) : Prop :=
  t.pending = s.pending ∧ t.ctl.deskOnInput = s.ctl.deskOnInput ∧ t.msg.ackLine = s.msg.ackLine ∧
    (t.lines.wait = true ↔ WaitHeld s) ∧ (t.path.cutOff = true ↔ WaitHeld s) ∧
    ((∀ c, s.link.job ≠ some (.store c)) → t.image = s.image) ∧
    ∀ c, s.link.job = some (.store c) → t.image = s.image ∨
      (t.image.length = 816 ∧ at0 t.image 0 = 0x3720#16 ∧
        ∀ i, 1 ≤ i → i < 816 → at0 t.image i = at0 (imageOf c) i ∨ Config.storeTook s.freeCount i = false)

/-! ### Values after an entry to RUN (R167) -/

/-- The records, kind states, selection, list, notices and counts at an entry to RUN, and what the entry leaves
as it was. `s` is the state the entry finds, `t` the state after it. -/
def RunEntryValues (s t : State) : Prop :=
  (∀ n, n < 24 →
    t.record n = { front := .a, write := .closed, lastSeq := none, status := .empty, refusals := 0,
                   reason := .none, progress := 0,
                   timer := if (s.cfg.entry n).kind = .none then none
                            else some (s.ctl.ms + BitVec.ofNat 32 (100 * (s.cfg.entry n).freshness)) } ∧
    t.speedKind n = { previous := none, plausible := .noReference, disagreeRun := 0, agreeRun := 0,
                      presented := none } ∧
    t.aspectKind n = { shown := none, upgrade := none, awaiting := false }) ∧
  t.speed.axle = { pulses := (at0 s.cfg.part 0).toNat, circumference := (at0 s.cfg.part 1).toNat,
                   window := (at0 s.cfg.part 2).toNat, running := some { start := s.ctl.ms, count := 0 },
                   history := s.speed.axle.history, vx := s.speed.axle.vx } ∧
  t.aspect.select = { inForce := none, requested := none, changeover := false, timer := .stopped } ∧
  t.msg = { s.msg with entries := [], stages := [none, none, none, none], nextOrdinal := 0 } ∧
  t.status.notices = { leftValid := false, refusal := false, barred := false, listOverflow := false,
                       overrun := false, copyWrite := false } ∧
  t.status.counts = { overflow := 0, lateAck := 0, badPost := 0, strayClear := 0, copyWrite := 0 } ∧
  t.ctl = { s.ctl with part := if s.ctl.deskLevel then .run else .retain, loadFailure := t.ctl.loadFailure } ∧
  t.cfg = s.cfg ∧ t.image = s.image ∧ t.mem = s.mem ∧ t.path = s.path ∧ t.pending = s.pending ∧
  t.freeCount = s.freeCount

/-! ### When the link takes a transfer (R154, R155) -/

/-- The link answers and the target address is the part's (R154). -/
def LinkTakes (s : State) (target : BitVec 7) : Prop :=
  (s.ctl.part = .run ∨ s.ctl.part = .retain ∨ s.ctl.part = .config ∨ s.ctl.part = .safe) ∧
    s.link.job = none ∧ target.toNat = 0x2C + s.ctl.straps.toNat

/-- A command's frame is right: nothing follows the command word, or, with the check flag set, one byte that is
the link CRC over the write address byte and the bytes before it (R155). -/
def FramedRight (code : Byte) (f : CommandFrame) : Prop :=
  f.tail = if f.checkFlag then
    [linkCrc (writeAddressByte f.target :: commandBytes code { f with tail := [] })] else []

/-- A write of the desk computer would be granted at once: no transaction is held, the port is free, no refresh
is urgent, and the alternation flag is set or no burst waits (R9). -/
def PortReady (s : State) : Prop :=
  s.path.up = .idle ∧ s.path.port.holder = .free ∧ s.path.refresh.debt < 4 ∧
    (s.path.alternate = true ∨ s.scanWaits = false)

/-- The upstream transaction `r` waits, the port is free, and Table 1.2 gives it the grant. -/
def GrantsUpstream (s : State) (r : UpstreamRequest) : Prop :=
  s.path.up = .claiming r ∧ s.path.port.holder = .free ∧ s.path.refresh.debt < 4 ∧
    (s.path.alternate = true ∨ s.scanWaits = false)

/-- The write of `w` at offset `k` of record `n`'s window, presented at address `a`, is granted in RUN or RETAIN and
still needs memory at its grant (R40, case 4). -/
def ServesWindowWrite (s : State) (a : Addr) (w : Word) (n k : Nat) : Prop :=
  GrantsUpstream s (.write a w) ∧ s.inService = true ∧ s.cfg.classify .upstream a = .record n k ∧ n < 24 ∧
    (s.record n).status ≠ .barred ∧ s.pinned n = false ∧ s.kind n ≠ .none ∧ k ≤ (s.cfg.entry n).inputs

/-- The port after the grant of an upstream transaction that reads or writes one address (R1). -/
def servedPort (a : Addr) (op : MemOp) : Port :=
  { holder := .upstream, openRow := some (a.toNat / 128), ops := [.rowActivate (a.toNat / 128), op] }

/-- The granted WRITE `r` has put `w` at address `a` and at no other, and holds the port (R1, R4). -/
def WrittenAt (s t : State) (r : UpstreamRequest) (a : Addr) (w : Word) : Prop :=
  (∀ x, t.mem.read x = if x = a then w else s.mem.read x) ∧
    t.path = { s.path with port := servedPort a (.columnWrite a w), alternate := false, up := .serving r none }

/-- The outcome of a request that read nothing: the result word, the reply buffer empty, the link free (R157). -/
def LinkDone (s t : State) (result : Word) : Prop :=
  t.link = { s.link with job := none, request := [], reply := [], replyCheck := false, result := result,
                         acked := true }

/-- The input words of a complete version of record `n` pass the content check of its kind (R81; R108; R116). -/
def ContentPasses (s : State) (n : Nat) (words : List Word) : Prop :=
  let w := fun i => (at0 words i).toNat
  let header := fun y => (at0 s.cfg.aspects (33 * y)).toNat
  match s.kind n with
  | .speed => ¬(w 1 = 65535 ∧ w 2 ≠ 65535)
  | .aspect =>
    let y := (s.cfg.entry n).system
    w 0 / 256 = 0 ∧ (w 1 = 0 ∨ w 1 = 1) ∧
      ∃ j, j < header y / 256 % 32 ∧ (at0 s.cfg.aspects (33 * y + 1 + 2 * j)).toNat / 256 = w 0 % 256
  | .select => w 0 ≤ 3 ∧ 32768 ≤ header (w 0)
  | .plain => True
  | .none => True

/-- The refusal a served window write of `w` at offset `k` makes, if it makes one: ORDER where the offset is not the
next expected one (R42, R43); at the check word CHECK, REPEAT, JUMP or CONTENT, the first that holds (R45, R46). -/
def refusalReason (s : State) (n k : Nat) (w : Word) : Option Reason :=
  if k = 0 then none
  else
    match (s.record n).write with
    | .closed => some .order
    | .opened next crc words =>
      if next ≠ k then some .order
      else if k < (s.cfg.entry n).inputs then none
      else if crc8 crc [highByte w] ≠ lowByte w then some .check
      else
        match (s.record n).lastSeq with
        | some l =>
          if (highByte w - l).toNat = 0 then some .repeated
          else if 8 ≤ (highByte w - l).toNat then some .jump
          else if s.contentCheck n words then none else some .content
        | none => if s.contentCheck n words then none else some .content

/-- The served write of check word `w` closes the version with input words `words` of record `n`, and no check of R45
fails: an acceptance. -/
def AcceptsVersion (s : State) (a : Addr) (w : Word) (n : Nat) (words : List Word) : Prop :=
  ServesWindowWrite s a w n (s.cfg.entry n).inputs ∧
    (∃ crc, (s.record n).write = .opened (s.cfg.entry n).inputs crc words) ∧
    1 ≤ (s.cfg.entry n).inputs ∧ refusalReason s n (s.cfg.entry n).inputs w = none

/-- The desk computer's write has gone through: `w` is at address `a` and nowhere else, the port is free again and the
transaction is complete (R2, R4). -/
def DeskWritten (s t : State) (a : Addr) (w : Word) : Prop :=
  (∀ x, t.mem.read x = if x = a then w else s.mem.read x) ∧
    t.path = { s.path with
      port := { holder := .free, openRow := none, ops := [.rowActivate (a.toNat / 128), .columnWrite a w] }
      alternate := false
      up := .idle }

/-- The request of a link transfer is framed right: its byte count and, with the check flag set, its check byte are as
its control word calls for (R155). -/
def WellFramed (x : LinkTransfer) (q : LinkRequest) : Prop :=
  ∃ b0 b1 b2 b3 rest, x.bytes = b0 :: b1 :: b2 :: b3 :: rest ∧ q = requestOf b0 b1 b2 b3 rest ∧
    x.bytes.length = q.byteCount ∧
    (q.checkFlag = true → x.bytes.getLast? = some (linkCrc (writeAddressByte x.target :: x.bytes.dropLast)))

/-! ### Words of the windows -/

/-- Word `j` of a slot line that shows an entry at time `now` (R141, Table 7.3). -/
def SlotWordIs (e : Entry) (now : Time) (j : Nat) (w : Word) : Prop :=
  (j = 0 → w.toNat = ((if e.needsAck then 32768 else 0) + 4096 * e.cls + e.code) % 65536) ∧
  (j = 1 → w.toNat =
    ((match e.state with
      | .unacked => 16384
      | .acked => 32768
      | .clearedUnacked => 49152) +
     256 * (match e.source with
            | .postCell c => c
            | .interposer => 4) + e.count) % 65536) ∧
  (j = 2 → w.toNat = e.marker.toNat) ∧
  (j = 3 → w.toNat = min 65535 ((now - e.raiseTime).toNat / 1000))

/-- Word `j` of a recall entry at time `now` (R143). -/
def RecallWordIs (e : RecallEntry) (now : Time) (j : Nat) (w : Word) : Prop :=
  (j = 0 → w.toNat = (4096 * e.cls + e.code) % 65536) ∧
  (j = 1 → w.toNat = e.marker.toNat) ∧
  (j = 2 → w.toNat = min 65535 ((now - e.raiseTime).toNat / 1000)) ∧
  (j = 3 → w.toNat = min 65535 ((now - e.removeTime).toNat / 1000))

/-- The part state codes (R152). -/
def partNumber : PartState → Nat
  | .powerUp => 0
  | .memoryInit => 1
  | .load => 2
  | .run => 3
  | .config => 4
  | .safe => 5
  | .retain => 6

/-- The reset cause codes (R152). -/
def causeNumber : ResetCause → Nat
  | .powerOn => 1
  | .supplyDip => 2
  | .resetLine => 3
  | .linkRestart => 4

/-- The display status codes (Table 8.2). -/
def statusNumber : Status → Nat
  | .empty => 0
  | .valid => 1
  | .stale => 2
  | .recovering => 3
  | .barred => 4

/-- The refusal reason codes (Table 8.2). -/
def reasonNumber : Reason → Nat
  | .none => 0
  | .order => 1
  | .check => 2
  | .repeated => 3
  | .jump => 4
  | .content => 5

/-- STATUS word `k` (R152, R153, Table 8.2). -/
def StatusWordIs (s : State) (k : Nat) (w : Word) : Prop :=
  let x := s.status.notices
  let y := s.status.counts
  (k = 0 → w.toNat = 4096 * partNumber s.ctl.part + (if x.copyWrite then 32 else 0) + (if x.overrun then 16 else 0) +
    (if x.listOverflow then 8 else 0) + (if x.barred then 4 else 0) + (if x.refusal then 2 else 0) +
    (if x.leftValid then 1 else 0)) ∧
  (k = 1 → w.toNat = 4096 * partNumber s.ctl.part + 256 * causeNumber s.ctl.cause + s.ctl.loadFailure.toNat) ∧
  (k = 2 → w.toNat = s.ctl.ms.toNat % 65536) ∧
  (k = 3 → w.toNat = s.ctl.ms.toNat / 65536) ∧
  (k = 4 → w.toNat = (256 * s.msg.entries.length + y.overflow) % 65536) ∧
  (k = 5 → w.toNat = (256 * y.lateAck + y.badPost) % 65536) ∧
  (k = 6 → w.toNat = (256 * y.strayClear + y.copyWrite) % 65536) ∧
  (k = 7 → w.toNat = (match s.speed.axle.vx with
                      | some v => v % 65536
                      | none => 65535)) ∧
  ∀ n, k = n + 8 → w.toNat =
    (8192 * statusNumber (s.record n).status + (if (s.record n).write = .closed then 0 else 4096) +
      512 * reasonNumber (s.record n).reason + 16 * (s.record n).refusals + (s.record n).progress) % 65536

/-- Record `n` is the ASPECT record of system `y`: in service the only one (R168). Where two entries name one
system, that the lowest index counts is the model's choice (log 33). -/
def AspectRecordOf (s : State) (y n : Nat) : Prop :=
  (n < 24 ∧ s.kind n = .aspect ∧ (s.cfg.entry n).system = y) ∧
    ∀ m, m < n → ¬(s.kind m = .aspect ∧ (s.cfg.entry m).system = y)

/-- The effective aspect of system `y` (R115). Of a VALID record that holds no shown aspect it says nothing (log 33). -/
def EffectiveIs (s : State) (y : Nat) (m : Effective) : Prop :=
  (∀ n x, AspectRecordOf s y n → (s.record n).status = .valid → (s.aspectKind n).shown = some x →
     m = { rank := x.rank, symbol := x.symbol, flash := x.flash, source := y }) ∧
  ((∀ n, AspectRecordOf s y n → (s.record n).status ≠ .valid) →
     m = { rank := 0, symbol := (s.cfg.aspectHeader y).toNat % 256, flash := false, source := y })

/-- The presented words of record `n` (R90; R114, Table 6.3; R124, Table 6.4). -/
def PresentedIs (s : State) (n : Nat) (ws : List Word) : Prop :=
  match s.kind n with
  | .speed => ∃ p, (s.speedKind n).presented = some p ∧ ws = [p.p0, p.p1, p.p2]
  | .aspect =>
    ∃ x w0 w1, (s.aspectKind n).shown = some x ∧ ws = [w0, w1] ∧
      w0.toNat = ((if x.flash then 256 else 0) + x.symbol) % 65536 ∧
      w1.toNat = ((if (s.aspectKind n).awaiting then 32 else 0) +
        (if (s.aspectKind n).upgrade = none then 0 else 16) + x.rank) % 65536
  | .select =>
    ∃ m f q w0 w1 w2 any, s.mainAspect = some m ∧ s.aspect.select.inForce = some f ∧
      s.aspect.select.requested = some q ∧ ws = [w0, w1, w2] ∧
      (any = true ↔ ∃ i, i < 24 ∧ s.kind i = .aspect ∧ (s.aspectKind i).awaiting = true) ∧
      w0.toNat = ((if m.flash then 256 else 0) + m.symbol) % 65536 ∧
      w1.toNat = ((if any = true then 128 else 0) + (if s.aspect.select.changeover then 64 else 0) +
        16 * m.source + m.rank) % 65536 ∧
      w2.toNat = (256 * f + q) % 65536
  | .plain => False
  | .none => False

/-! ### Scan words -/

/-- As the state stands, a scan word at this address needs memory (R33). -/
def ScanNeedsMemory (s : State) (a : Addr) : Prop :=
  match s.cfg.classify .scan a with
  | .copy => True
  | .pass => True
  | .protect => True
  | .post _ => True
  | .unmatched => True
  | .record n k => (s.record n).status = .valid ∧ k ≤ (s.cfg.entry n).inputs ∧ k < (s.cfg.entry n).length
  | .slot _ => False
  | .recalled _ => False
  | .status _ => False

/-- The snapshot by which a burst decides the words of record `n`'s window: the one its pin holds, or the one taken with
the first word of the window (R53, R54). -/
def SnapshotFor (s : State) (b : Burst) (n : Nat) (p : Snapshot) : Prop :=
  b.pins.find? (fun x => x.index == n) = some p ∨
    (b.pins.find? (fun x => x.index == n) = none ∧
      p = { index := n, front := (s.record n).front, status := (s.record n).status, presented := s.presented n })

/-- Under snapshot `p` word `k` of record `n`'s window is read from memory (R54, R58). -/
def WindowReads (s : State) (n k : Nat) (p : Snapshot) : Prop :=
  p.status = .valid ∧ k ≤ (s.cfg.entry n).inputs ∧ k < (s.cfg.entry n).length

/-- Under snapshot `p` word `k` of record `n`'s window is `w`, read at the address `src` or supplied (R54, R58). -/
def WindowWordIs (s : State) (n k : Nat) (p : Snapshot) (src : Option Addr) (w : Word) : Prop :=
  (WindowReads s n k p → src = some (s.copyAddr n p.front k) ∧ w = s.mem.read (s.copyAddr n p.front k)) ∧
  (¬WindowReads s n k p → src = none) ∧
  ((s.cfg.entry n).length ≤ k → w = 0#16) ∧
  (k < (s.cfg.entry n).length →
    (p.status = .valid → (s.cfg.entry n).inputs < k →
      (∀ ws, p.presented = some ws → w = at0 ws (k - (s.cfg.entry n).inputs - 1)) ∧
      (p.presented = none → w = 0#16)) ∧
    (p.status ≠ .valid → w = at0 s.cfg.substitutes (15 * n + k)))

/-- A SLOT word at offset `k` (R30, R141). -/
def SlotOffsetIs (s : State) (k : Nat) (w : Word) : Prop :=
  (∀ e, s.msg.entries[k / 4]? = some e → SlotWordIs e s.ctl.ms (k % 4) w) ∧ (s.msg.entries[k / 4]? = none → w = 0#16)

/-- A RECALL word at offset `k` (R31, R143). -/
def RecallOffsetIs (s : State) (k : Nat) (w : Word) : Prop :=
  (∀ e, s.msg.recalls[k / 4]? = some e → RecallWordIs e s.ctl.ms (k % 4) w) ∧
    (s.msg.recalls[k / 4]? = none → w = 0#16)

/-- The next word of burst `b` is `w`, read at the address `src` or supplied, by its class (R7, R30 to R32, R54). -/
def ScanWordIs (s : State) (b : Burst) (src : Option Addr) (w : Word) : Prop :=
  match s.cfg.classify .scan b.next with
  | .copy => src = some b.next ∧ w = s.mem.read b.next
  | .pass => src = some b.next ∧ w = s.mem.read b.next
  | .protect => src = some b.next ∧ w = s.mem.read b.next
  | .post _ => src = some b.next ∧ w = s.mem.read b.next
  | .unmatched => src = some b.next ∧ w = s.mem.read b.next
  | .record n k => ∃ p, SnapshotFor s b n p ∧ WindowWordIs s n k p src w
  | .slot k => src = none ∧ (k / 4 < (at0 s.cfg.part 4).toNat → SlotOffsetIs s k w)
  | .recalled k => src = none ∧ (k < 40 → RecallOffsetIs s k w)
  | .status _ => src = none ∧ w = 0#16

/-- The port of a burst after a word read at `src`, or supplied (R1). -/
def portAfterRead (p : Port) : Option Addr → Port
  | none => p
  | some a =>
    if p.openRow = some (a.toNat / 128) then { p with ops := p.ops ++ [.columnRead a] }
    else { p with
      openRow := some (a.toNat / 128), ops := p.ops ++ [.rowActivate (a.toNat / 128), .columnRead a] }

/-! ### The tables of the configuration

Codes and values that the link refuses are the model's choice where a foreign image holds them (log 19), and are left out
here. -/

/-- Element `i` of the region table (R19, Table 2.1). -/
def RegionIs (c : Sections) (i : Nat) (e : Region) : Prop :=
  let v := (at0 c.regions (3 * i)).toNat
  (v / 16384 = 0 → e.matchType = .off) ∧ (v / 16384 = 1 → e.matchType = .range) ∧
  (v / 16384 = 2 → e.matchType = .pair) ∧ (v / 16384 = 3 → e.matchType = .masked) ∧
  (v / 4096 % 4 = 0 → e.ports = .both) ∧ (v / 4096 % 4 = 1 → e.ports = .upstream) ∧
  (v / 4096 % 4 = 2 → e.ports = .scan) ∧
  (v / 256 % 16 = 0 → e.action = .pass) ∧ (v / 256 % 16 = 1 → e.action = .protect) ∧
  (v / 256 % 16 = 2 → e.action = .record) ∧ (v / 256 % 16 = 3 → e.action = .post) ∧
  (v / 256 % 16 = 4 → e.action = .slot) ∧ (v / 256 % 16 = 5 → e.action = .recalled) ∧
  (v / 256 % 16 = 6 → e.action = .status) ∧
  e.opA.toNat = 65536 * (v / 128 % 2) + (at0 c.regions (3 * i + 1)).toNat ∧
  e.opB.toNat = 65536 * (v / 64 % 2) + (at0 c.regions (3 * i + 2)).toNat ∧ e.record = v % 32

/-- Entry `n` of the record table, with its input count and window length (R35, R37, Tables 3.1 and 3.2). -/
def RecordEntryIs (c : Sections) (n : Nat) (e : RecordEntry) : Prop :=
  let v := (at0 c.records (4 * n)).toNat
  let last := (at0 c.records (4 * n + 3)).toNat
  (v / 8192 = 0 → e.kind = .none) ∧
  (v / 8192 = 1 → e.kind = .speed ∧ e.inputs = 3 ∧ e.length = 7) ∧
  (v / 8192 = 2 → e.kind = .aspect ∧ e.inputs = 2 ∧ e.length = 5) ∧
  (v / 8192 = 3 → e.kind = .select ∧ e.inputs = 1 ∧ e.length = 5) ∧
  (v / 8192 = 4 → e.kind = .plain ∧ e.inputs = v / 512 % 16 ∧ e.length = v / 512 % 16 + 1) ∧
  e.system = v / 128 % 4 ∧ (e.base .a).toNat = 65536 * (v / 64 % 2) + (at0 c.records (4 * n + 1)).toNat ∧
  (e.base .b).toNat = 65536 * (v / 32 % 2) + (at0 c.records (4 * n + 2)).toNat ∧
  e.base .a = e.copyA ∧ e.base .b = e.copyB ∧ e.staleClass = v / 8 % 4 ∧
  (e.staleNeedsAck = true ↔ v / 4 % 2 = 1) ∧
  e.freshness = last / 256 ∧ e.recovery = last / 32 % 8 ∧ e.refusalLimit = last / 2 % 16

/-- The speed settings area of entry `n` (R79, Table 5.1). -/
def SpeedSettingsIs (c : Sections) (n : Nat) (st : SpeedSettings) : Prop :=
  let w := fun k => (at0 c.speeds (4 * n + k)).toNat
  st.slewLimit = w 0 / 1024 ∧ st.scaleEnd = w 0 % 1024 ∧ st.hysteresis = w 1 / 8192 ∧ st.intAbs = w 1 / 256 % 32 ∧
  st.warnAbs = w 1 / 16 % 16 ∧ st.runLength = w 1 % 16 ∧ st.intProp = w 2 / 256 ∧ st.warnProp = w 2 / 2 % 128 ∧
  st.tolProp = w 3 / 256 ∧ st.tolAbs = w 3 / 8 % 32

/-- `e` is an entry in use of system `y`'s aspect table, with this aspect code (R106, Table 6.1). -/
def AspectEntryIs (c : Sections) (y code : Nat) (e : AspectEntry) : Prop :=
  ∃ j, j < (at0 c.aspects (33 * y)).toNat / 256 % 32 ∧
    (at0 c.aspects (33 * y + 1 + 2 * j)).toNat / 256 = code ∧ e.code = code ∧
    e.symbol = (at0 c.aspects (33 * y + 1 + 2 * j)).toNat % 256 ∧
    (e.onEntry = true ↔ 32768 ≤ (at0 c.aspects (33 * y + 2 + 2 * j)).toNat) ∧
    e.rank = (at0 c.aspects (33 * y + 2 + 2 * j)).toNat % 16

/-! ### The consistency check and the values a section refuses -/

/-- Element `i` is in use with a POST, SLOT, RECALL or STATUS action (R168). -/
def IsServiceElement (c : Sections) (i : Nat) : Prop :=
  (c.region i).matchType ≠ .off ∧
    ((c.region i).action = .post ∨ (c.region i).action = .slot ∨ (c.region i).action = .recalled ∨
      (c.region i).action = .status)

/-- Element `i` is in use with action RECORD (R168). -/
def IsRecordElement (c : Sections) (i : Nat) : Prop :=
  (c.region i).matchType ≠ .off ∧ (c.region i).action = .record

/-- The length of element `i` as a RANGE (R168). -/
def rangeLength (c : Sections) (i : Nat) : Nat := (c.region i).opB.toNat + 1 - (c.region i).opA.toNat

/-- The consistency check fails with this code (R168, Table 10.2). -/
def CheckFails (c : Sections) (code : Nat) : Prop :=
  match code with
  | 1 => ∃ i, i < 40 ∧ IsRecordElement c i ∧
      ((c.region i).matchType ≠ .range ∨ (c.entry (c.region i).record).kind = .none ∨
        rangeLength c i ≠ (c.entry (c.region i).record).length)
  | 2 => ∃ n, n < 24 ∧ (c.entry n).kind ≠ .none ∧
      ((∀ i, i < 40 → IsRecordElement c i → (c.region i).record ≠ n) ∨
        ∃ i j, i < j ∧ j < 40 ∧ IsRecordElement c i ∧ IsRecordElement c j ∧ (c.region i).record = n ∧
          (c.region j).record = n)
  | 3 =>
    (∃ n x, n < 24 ∧ (c.entry n).kind ≠ .none ∧ 131071 < ((c.entry n).base x).toNat + (c.entry n).length - 1) ∨
    (∃ n m x y a, n < 24 ∧ m < 24 ∧ (c.entry n).kind ≠ .none ∧ (c.entry m).kind ≠ .none ∧ (n ≠ m ∨ x ≠ y) ∧
      ((c.entry n).base x).toNat ≤ a ∧ a < ((c.entry n).base x).toNat + (c.entry n).length ∧
      ((c.entry m).base y).toNat ≤ a ∧ a < ((c.entry m).base y).toNat + (c.entry m).length) ∨
    ∃ n x k i, n < 24 ∧ (c.entry n).kind ≠ .none ∧ k < (c.entry n).length ∧ i < 40 ∧
      (IsRecordElement c i ∨ IsServiceElement c i) ∧
      (c.region i).hits ((c.entry n).base x + BitVec.ofNat 17 k) = true
  | 4 =>
    (∃ n, n < 24 ∧ (c.entry n).kind = .aspect ∧ (c.aspectHeader (c.entry n).system).getLsbD 15 = false) ∨
    (∃ n m, n < m ∧ m < 24 ∧ (c.entry n).kind = .aspect ∧ (c.entry m).kind = .aspect ∧
      (c.entry n).system = (c.entry m).system) ∨
    ∃ y, y < 4 ∧ (c.aspectHeader y).getLsbD 15 = true ∧
      ∀ n, n < 24 → (c.entry n).kind = .aspect → (c.entry n).system ≠ y
  | 5 =>
    ((∃ n, n < 24 ∧ (c.entry n).kind = .aspect) ∧
      ¬∃ n, n < 24 ∧ (c.entry n).kind = .select ∧ ∀ m, m < 24 → (c.entry m).kind = .select → m = n) ∨
    ((∃ n, n < 24 ∧ (c.entry n).kind = .select) ∧ ∀ n, n < 24 → (c.entry n).kind ≠ .aspect)
  | 6 => ∃ y, y < 4 ∧
      ((∃ i j, i < j ∧ j < (c.aspectHeader y).toNat / 256 % 32 ∧
          (at0 c.aspects (33 * y + 1 + 2 * i)).toNat / 256 = (at0 c.aspects (33 * y + 1 + 2 * j)).toNat / 256) ∨
        ((c.aspectHeader y).getLsbD 15 = true ∧ (c.aspectHeader y).toNat / 256 % 32 = 0))
  | 7 => ∃ n, n < 24 ∧ (c.entry n).kind = .speed ∧
      ((c.speedSettings n).intAbs < (c.speedSettings n).warnAbs ∨
        (c.speedSettings n).intProp < (c.speedSettings n).warnProp)
  | 8 =>
    (∃ i, i < 40 ∧ IsServiceElement c i ∧
      ((c.region i).matchType ≠ .range ∨
        ((c.region i).action = .post ∧ rangeLength c i ≠ 8) ∨
        ((c.region i).action = .slot ∧ rangeLength c i ≠ 4 * (at0 c.part 4).toNat) ∨
        ((c.region i).action = .recalled ∧ rangeLength c i ≠ 40) ∨
        ((c.region i).action = .status ∧ (rangeLength c i ≠ 32 ∨ (c.region i).ports = .scan)))) ∨
    ∃ i j, i < j ∧ j < 40 ∧ IsServiceElement c i ∧ IsServiceElement c j ∧ (c.region i).action = (c.region j).action
  | _ => False

/-- Unit `u` of section `i`, as it stands in the words `ws`, holds a value its section refuses (R92, R120 and R129; R19;
R35; R79; R106; R128). Section 5 refuses none (R158). -/
def RefusesValue (i : Nat) (ws : List Word) (u : Nat) : Prop :=
  let w := fun k => (at0 ws k).toNat
  match i with
  | 0 =>
    (u = 0 ∧ 200 < w 0) ∨ (u = 1 ∧ (w 1 < 1500 ∨ 4000 < w 1)) ∨
      (u = 2 ∧ (w 2 < 100 ∨ 1000 < w 2 ∨ w 2 % 50 ≠ 0)) ∨ (u = 3 ∧ (w 3 = 0 ∨ 60 < w 3)) ∨
      (u = 4 ∧ (w 4 = 0 ∨ 4 < w 4)) ∨ (u = 5 ∧ (w 5 < 200 ∨ 2000 < w 5))
  | 1 =>
    let v := w (3 * u)
    v / 4096 % 4 = 3 ∨ 7 ≤ v / 256 % 16 ∨ 23 < v % 32 ∨ (v % 32 ≠ 0 ∧ v / 256 % 16 ≠ 2) ∨ v / 32 % 2 ≠ 0
  | 2 =>
    let v := w (4 * u)
    let kind := v / 8192
    let freshness := w (4 * u + 3) / 256
    let recovery := w (4 * u + 3) / 32 % 8
    5 ≤ kind ∨ (kind = 4 ∧ (v / 512 % 16 = 0 ∨ v / 512 % 16 = 15)) ∨ (kind ≠ 4 ∧ v / 512 % 16 ≠ 0) ∨
      (kind ≠ 2 ∧ v / 128 % 4 ≠ 0) ∨ (kind ≠ 0 ∧ (freshness = 0 ∨ recovery = 0 ∨ 4 < recovery)) ∨
      (kind = 0 ∧ (v ≠ 0 ∨ w (4 * u + 1) ≠ 0 ∨ w (4 * u + 2) ≠ 0 ∨ w (4 * u + 3) ≠ 0)) ∨ v % 4 ≠ 0 ∨
      w (4 * u + 3) % 2 ≠ 0
  | 3 =>
    let v := w (4 * u)
    v % 1024 < 40 ∨ 600 < v % 1024 ∨ v / 1024 = 0 ∨ 50 < v / 1024 ∨ w (4 * u + 1) % 16 = 0 ∨
      8 < w (4 * u + 1) % 16 ∨ 100 < w (4 * u + 2) / 2 % 128 ∨ 200 < w (4 * u + 2) / 256 ∨
      200 < w (4 * u + 3) / 256 ∨ 20 < w (4 * u + 3) / 8 % 32 ∨ w (4 * u + 2) % 2 ≠ 0 ∨ w (4 * u + 3) % 8 ≠ 0
  | 4 =>
    w (33 * u) / 8192 % 4 = 0 ∨ 16 < w (33 * u) / 256 % 32 ∨
      ∃ j, j < 16 ∧ w (33 * u + 2 + 2 * j) / 16 % 2048 ≠ 0
  | 6 => 4 ≤ w u
  | _ => False

/-! ### The message list after a request -/

/-- The status unit after a RAISE with this outcome: an eviction and a drop are counted and noticed (R134, R148, R151). -/
def afterRaise (o : RaiseOutcome) (x : StatusUnit) : StatusUnit :=
  if o = .evicted ∨ o = .dropped then
    { notices := { x.notices with listOverflow := true }
      counts := { x.counts with overflow := if x.counts.overflow < 255 then x.counts.overflow + 1 else 255 } }
  else x

/-- A request of the part at an acceptance: a raise, or a conditional clear (R137). -/
inductive Ask where
  | raise (r : RaiseRequest)
  | clear (code : Nat)
deriving DecidableEq, Repr

/-- The code a request names. -/
def Ask.code : Ask → Nat
  | .raise r => r.code
  | .clear code => code

/-- The message unit and the status unit after some requests, and whether a raise among them was taken. -/
structure Asked where
  msg    : MessageUnit
  status : StatusUnit
  took   : Bool
deriving DecidableEq, Repr

/-- One request taken (R133 to R135, R137). -/
def Asked.after (now : Time) (x : Asked) : Ask → Asked
  | .raise r =>
    { msg := (x.msg.raise now r).1
      status := afterRaise (x.msg.raise now r).2 x.status
      took := x.took || decide ((x.msg.raise now r).2 ≠ .dropped) }
  | .clear code => { x with msg := (x.msg.clear now code).1 }

/-- The requests `rs`, made within one event from state `s`, are taken one at a time in some order and leave `x`
(R73, R138; which order is a free choice, log 8). -/
def AsksTaken (s : State) (rs : List Ask) (x : Asked) : Prop :=
  ∃ qs : List Ask, qs.Perm rs ∧ x = qs.foldl (Asked.after s.ctl.ms) { msg := s.msg, status := s.status, took := false }

/-- The conditional clear of the stale message on the return of record `n` to VALID by an acceptance (R63, R70). -/
def staleCleared (s : State) (n : Nat) : List Ask :=
  if ((s.record n).status = .stale ∧ (s.cfg.entry n).recovery = 1) ∨
      ((s.record n).status = .recovering ∧ (s.record n).progress + 1 = (s.cfg.entry n).recovery) then
    [.clear (1024 + n)]
  else []

/-- Record `n`'s step from `s` to `t` completes a changeover: it enters VALID, and its system is requested (R119). -/
def completesChangeover (s t : State) (n : Nat) : Bool :=
  (s.record n).status != .valid && (t.record n).status == .valid && s.aspect.select.changeover &&
    s.aspect.select.requested == some (s.cfg.entry n).system

/-- An entry with its head-since time left out, which has a use for the head alone (R130). -/
def Entry.still (e : Entry) : Entry := { e with headSince := 0#32 }

/-- The list of `m'` holds the entries `es`, in presentation order (R131), and its head has been head from `now`
on, or as long as before where it was the head of `m` (R132). -/
def ListBecomes (m m' : MessageUnit) (now : Time) (es : List Entry) : Prop :=
  (m'.entries.map Entry.still).Perm (es.map Entry.still) ∧ m'.entries.Pairwise (fun x y => x.before y = true) ∧
    ∀ h, m'.entries.head? = some h →
      h.headSince = (match m.entries.head? with
                     | some old => if old.code = h.code then old.headSince else now
                     | none => now)

/-- The entries of a list with another code than this. -/
def othersOf (code : Nat) (es : List Entry) : List Entry := es.filter fun e => e.code ≠ code

/-! ### Commands one after another -/

/-- The state after commands taken one after another, where each answers a next state. -/
def execAll : List Instr → State → Option State
  | [], s => some s
  | c :: cs, s =>
    match exec c s with
    | .next t => execAll cs t
    | .fault _ => none
    | .refused _ => none

/-- The arrival that presents the upstream transaction held at start-up, if there is one. -/
def upstreamArrivals (s : State) : List Instr :=
  match s.path.up with
  | .heldAtStart r => [.upstreamArrival r]
  | .idle => []
  | .claiming _ => []
  | .heldForPin _ => []
  | .serving _ _ => []

/-- The arrival that presents the burst held at start-up, if there is one. -/
def burstArrivals (s : State) : List Instr :=
  match s.path.scan with
  | .heldAtStart start count => [.scanBurstArrival start count]
  | .idle => []
  | .active _ => []

/-! ### CRCs by their rules -/

/-- Eight shifts of a register of `w` bits toward its most significant end; where a 1 is shifted out the polynomial is
taken in by exclusive-OR (R44, R156, R169). -/
def crcShifts {w : Nat} (poly r : BitVec w) : BitVec w :=
  (List.range 8).foldl (fun x _ => if 2 ^ w ≤ 2 * x.toNat then (x + x) ^^^ poly else x + x) r

/-- An 8-bit CRC from a starting value over bytes (R44, R156). -/
def crc8ByRule (start : Byte) (bs : List Byte) : Byte := bs.foldl (fun r b => crcShifts 0x1D#8 (r ^^^ b)) start

/-- The CRC-16 of the image over its words, high byte first (R169). -/
def crc16ByRule (ws : List Word) : Word :=
  (ws.flatMap fun w => [w.toNat / 256, w.toNat % 256]).foldl
    (fun r b => crcShifts 0x1021#16 (r ^^^ BitVec.ofNat 16 (256 * b))) 0xFFFF#16

end Sys2Proof.Machine
end

