-- ==== Sys2Proof/Certificates/Slice0/Obligations.lean ====
section
/-! DEFINITION. The statements for the provers. OBLIGATIONS.json lists them. `t = { s with f := t.f, … }` says that
nothing but the fields named differs between `s` and `t`; the fields named are given beside it, and the output lines
in `lines` are given for every command by `EveryCommandAnswersAndDrivesAlert` and `AttnFollowsTheNoticeSet`. -/

open Sys2Proof Sys2Proof.Machine

/-! ### The queue and the output lines -/

/-- The step runs the front command with the queue's rest, and no command changes the queue; an empty queue idles (the
model's choices, log 1). -/
def Obligations.StepRunsFrontCommand : Prop :=
  ((∀ (c : Instr) (cs : List Instr) (s : State), s.pending = c :: cs → step s = exec c (s.withPending cs)) ∧
     ∀ s : State, s.pending = [] → step s = .next s) ∧
  (∀ (c : Instr) (s t : State), exec c s = .next t → t.pending = s.pending)

/-- Every command answers a next state in every state, none faults or is refused (for an event the state does not allow
this is the model's choice, log 4); and ALERT follows the conditions of R145 after it. -/
def Obligations.EveryCommandAnswersAndDrivesAlert : Prop :=
  ∀ (c : Instr) (s : State), ∃ t, exec c s = .next t ∧
    (t.lines.alert = true ↔ t.ctl.part = .run ∧
      ((∃ e ∈ t.msg.entries, e.cls = 0 ∧ (e.state = .unacked ∨ e.state = .clearedUnacked)) ∨
        ∃ n, n < 24 ∧ (t.cfg.entry n).kind = .speed ∧ (t.record n).status = .valid ∧
          ∃ p, (t.speedKind n).presented = some p ∧ (p.cls = 4 ∨ p.cls = 5)))

/-- R150, after every command in every state. R2, R18: the wait line is asserted exactly while the upstream port holds a
transaction or, in POWER_UP, MEMORY_INIT and LOAD, a request was cut off by the full reset before (its release at
UPSTREAM_COLUMN_DONE is the model's choice, log 13; that the request cut off is still presented, log 32). -/
def Obligations.AttnFollowsTheNoticeSet : Prop :=
  ∀ (c : Instr) (s t : State), exec c s = .next t →
    (t.lines.attn = true ↔
      t.status.notices.leftValid = true ∨ t.status.notices.refusal = true ∨ t.status.notices.barred = true ∨
        t.status.notices.listOverflow = true ∨ t.status.notices.overrun = true ∨
        t.status.notices.copyWrite = true) ∧
    (t.lines.wait = true ↔ WaitHeld t)

/-! ### Invariants -/

/-- Every invariant of the model holds right after reset, and so do the full reset values of every block. The wait line is
released there because no request is presented at State.reset (the model's choice, log 17, 32). -/
def Obligations.ResetStateMeetsInvariantsAndTables : Prop :=
  FullResetValues State.reset ∧ State.reset.lines.wait = false ∧ State.reset.mem.wf = true ∧ ShapeInv State.reset ∧ JobInv State.reset ∧
    ListInv State.reset ∧ RecordsInv State.reset ∧ SelectionInv State.reset ∧ PortInv State.reset ∧
    PresentedInv State.reset

/-- The indication memory keeps its canonical form, every table its length, and a request that takes time executes
only in CONFIG or SAFE. R1, R8, R11: the port has the one holder that uses it, and the refresh debt stays from 0 to 8. -/
def Obligations.EveryStepKeepsMemoryAndPort : Prop :=
  (∀ s t : State, step s = .next t →
     (s.mem.wf = true → t.mem.wf = true) ∧ (ShapeInv s → ShapeInv t) ∧ (JobInv s → JobInv t)) ∧
  (∀ s t : State, PortInv s → step s = .next t → PortInv t)

/-- R130, R131, R142: the list stays in presentation order, with at most 32 entries and one for each code. -/
def Obligations.EveryStepKeepsTheListInOrder : Prop :=
  ∀ s t : State, ListInv s → step s = .next t → ListInv t

/-- R41, R42, R44, R49, R60, R64, R66: the running state of every record stays within its bounds. -/
def Obligations.EveryStepKeepsTheRecords : Prop :=
  ∀ s t : State, RecordsInv s → step s = .next t → RecordsInv t

/-- R117, R118: while a changeover is active in service the requested system's ASPECT record is not VALID. -/
def Obligations.EveryStepKeepsTheSelection : Prop :=
  ∀ s t : State, SelectionInv s → JobInv s → step s = .next t → SelectionInv t

/-- R90, R114, R123: a record shown VALID always has its presented values. -/
def Obligations.EveryStepKeepsPresentedValues : Prop :=
  ∀ s t : State, PresentedInv s → ShapeInv s → JobInv s → step s = .next t → PresentedInv t

/-- R24, R38, R54: in RUN and RETAIN, under a configuration that passes the consistency check, no command but a full
reset or a refresh overrun (which count up the epoch of the memory, log 6, 7) changes a word of the copy a record is shown from, nor a word of either copy of a record that a burst pins. -/
def Obligations.ShownCopiesAreNeverWritten : Prop :=
  ∀ (c : Instr) (s t : State), ShapeInv s → s.inService = true → s.cfg.check = none → exec c s = .next t →
    t.mem.epoch = s.mem.epoch → ∀ n k, n < 24 → k < (s.cfg.entry n).length →
      t.mem.read (s.copyAddr n (s.record n).front k) = s.mem.read (s.copyAddr n (s.record n).front k) ∧
      (s.pinned n = true → ∀ x, t.mem.read (s.copyAddr n x k) = s.mem.read (s.copyAddr n x k))

/-- R47, R63, R64: a record becomes VALID only by an acceptance that makes it so: the copies change places, the last
accepted sequence is present, the refusals are 0 and the freshness timer runs; from STALE the recovery count is 1,
and from RECOVERING the progress was one short of it; a BARRED record does not become VALID. R66: a BARRED record stays as
it is under every command, unless it goes to EMPTY with no refusals and no last accepted sequence (RELEASE, an entry to
RUN, a full reset). -/
def Obligations.RecordsBecomeValidByAcceptanceAlone : Prop :=
  (∀ (c : Instr) (s t : State) (n : Nat), exec c s = .next t →
     (s.record n).status ≠ .valid → (t.record n).status = .valid →
       s.inService = true ∧ (t.record n).write = .closed ∧ (t.record n).front = (s.record n).front.other ∧
         (t.record n).lastSeq ≠ none ∧ (t.record n).refusals = 0 ∧ (t.record n).progress = 0 ∧
         (t.record n).timer = some (s.ctl.ms + BitVec.ofNat 32 (100 * (s.cfg.entry n).freshness)) ∧
         (s.record n).status ≠ .barred ∧
         ((s.record n).status = .stale → (s.cfg.entry n).recovery = 1) ∧
         ((s.record n).status = .recovering → (s.record n).progress + 1 = (s.cfg.entry n).recovery)) ∧
  (∀ (c : Instr) (s t : State) (n : Nat), RecordsInv s → n < 24 → exec c s = .next t →
     (s.record n).status = .barred →
       t.record n = s.record n ∨
         ((t.record n).status = .empty ∧ (t.record n).refusals = 0 ∧ (t.record n).lastSeq = none ∧
           (t.record n).progress = 0 ∧ (t.record n).write = .closed))

/-- R111: the rank shown rises only at the acceptance of a code that has by then been accepted as often in succession
as the system's upgrade confirmation count. -/
def Obligations.ShownRankRisesOnlyWhenConfirmed : Prop :=
  ∀ (c : Instr) (s t : State) (n : Nat) (old new : Shown), exec c s = .next t →
    (s.aspectKind n).shown = some old → (t.aspectKind n).shown = some new → old.rank < new.rank →
      s.inService = true ∧ s.kind n = .aspect ∧ (t.aspectKind n).upgrade = none ∧
        (s.cfg.confirmCount (s.cfg.entry n).system = 1 ∨
          ∃ u, (s.aspectKind n).upgrade = some u ∧ u.code = new.code ∧
            u.count + 1 = s.cfg.confirmCount (s.cfg.entry n).system)

/-- R148, R149, R151: but for the full resets, the two ends of an entry to RUN and the desk computer's reads (an arrival of
a READ, and the grant of a READ that waits), no command clears a notice; and but for the full resets and the entries to RUN
no count falls. -/
def Obligations.NoticesAndCountsAreKept : Prop :=
  ∀ (c : Instr) (s t : State), c.wellFormed = true → (∀ a, s.path.up ≠ .heldForPin (.read a)) →
    exec c s = .next t → c ≠ .powerOn → c ≠ .supplyDip → c ≠ .resetLine → c ≠ .startupLoadDone →
    (∀ f, c ≠ .resume f) → (∀ f, c ≠ .restart f) →
      ((∀ a, c ≠ .upstreamArrival (.read a)) → (∀ a, c ≠ .statusWord0Read a) →
        (c = .arbiterGrant → ∀ a, s.path.up ≠ .claiming (.read a)) →
        (s.status.notices.leftValid = true → t.status.notices.leftValid = true) ∧
        (s.status.notices.refusal = true → t.status.notices.refusal = true) ∧
        (s.status.notices.barred = true → t.status.notices.barred = true) ∧
        (s.status.notices.listOverflow = true → t.status.notices.listOverflow = true) ∧
        (s.status.notices.overrun = true → t.status.notices.overrun = true) ∧
        (s.status.notices.copyWrite = true → t.status.notices.copyWrite = true)) ∧
      (s.status.counts.overflow ≤ 255 →
        s.status.counts.overflow ≤ t.status.counts.overflow ∧ t.status.counts.overflow ≤ 255) ∧
      (s.status.counts.lateAck ≤ 255 →
        s.status.counts.lateAck ≤ t.status.counts.lateAck ∧ t.status.counts.lateAck ≤ 255) ∧
      (s.status.counts.badPost ≤ 255 →
        s.status.counts.badPost ≤ t.status.counts.badPost ∧ t.status.counts.badPost ≤ 255) ∧
      (s.status.counts.strayClear ≤ 255 →
        s.status.counts.strayClear ≤ t.status.counts.strayClear ∧ t.status.counts.strayClear ≤ 255) ∧
      (s.status.counts.copyWrite ≤ 255 →
        s.status.counts.copyWrite ≤ t.status.counts.copyWrite ∧ t.status.counts.copyWrite ≤ 255)

/-! ### Resets and start-up -/

/-- R162 and the rules it names: each of the four causes is one full reset, which every block takes alike. R18: the wait
line stays asserted toward a request that is cut off (log 32). R170: what a STORE cut short leaves in the image (log 10). -/
def Obligations.FullResetFromEveryCause : Prop :=
  ∀ s : State,
    (∃ t, exec .powerOn s = .next t ∧ FullResetValues t ∧ FullResetKeeps s t ∧ t.ctl.cause = .powerOn ∧
      t.ctl.supplyGood = true ∧ t.ctl.resetAsserted = s.ctl.resetAsserted) ∧
    (∃ t, exec .supplyDip s = .next t ∧ FullResetValues t ∧ FullResetKeeps s t ∧ t.ctl.cause = .supplyDip ∧
      t.ctl.supplyGood = false ∧ t.ctl.resetAsserted = s.ctl.resetAsserted) ∧
    (∃ t, exec .resetLine s = .next t ∧ FullResetValues t ∧ FullResetKeeps s t ∧ t.ctl.cause = .resetLine ∧
      t.ctl.supplyGood = s.ctl.supplyGood ∧ t.ctl.resetAsserted = true) ∧
    ∀ f : CommandFrame, LinkTakes s f.target → FramedRight 7#8 f → f.arg = 0#8 →
      ∃ t, exec (.restart f) s = .next t ∧ FullResetValues t ∧ FullResetKeeps s t ∧
        t.ctl.cause = .linkRestart ∧ t.ctl.supplyGood = s.ctl.supplyGood ∧
        t.ctl.resetAsserted = s.ctl.resetAsserted

/-- R163: the levels RESET and supply good return; and the end of POWER_UP with supply good and RESET released samples
the straps, sets the filtered desk level and enters MEMORY_INIT (the debouncer's move is the model's, log 20; elsewhere
the command changes nothing, log 4). R14, R93:
the pause, the refresh of rows 0 to 15 in order, and at the sixteenth the start of refresh, of the axle windows and of
LOAD. -/
def Obligations.PowerUpAndMemoryInitialization : Prop :=
  (∀ s : State,
     (∃ t, exec .resetLineReleased s = .next t ∧ t.ctl = { s.ctl with resetAsserted := false } ∧
       t = { s with ctl := t.ctl, lines := t.lines }) ∧
     (∃ t, exec .supplyGoodAfterDip s = .next t ∧ t.ctl = { s.ctl with supplyGood := true } ∧
       t = { s with ctl := t.ctl, lines := t.lines }) ∧
     ∀ straps : BitVec 2,
       (s.ctl.part = .powerUp → s.ctl.supplyGood = true → s.ctl.resetAsserted = false →
         ∃ t, exec (.powerUpEnd straps) s = .next t ∧
           t.ctl = { s.ctl with part := .memoryInit, init := .pausing, straps := straps, ms := 0#32,
                                deskLevel := s.ctl.deskOnInput, deskDiffersSince := none } ∧
           t.msg = { s.msg with debouncer := if s.msg.ackLine then .pressed else .releasing 0#32 } ∧
           t = { s with ctl := t.ctl, msg := t.msg, lines := t.lines }) ∧
       (s.ctl.part ≠ .powerUp ∨ s.ctl.supplyGood = false ∨ s.ctl.resetAsserted = true →
         ∃ t, exec (.powerUpEnd straps) s = .next t ∧ t = { s with lines := t.lines })) ∧
  (∀ s : State, s.ctl.part = .memoryInit →
     (s.ctl.init = .pausing →
       ∃ t, exec .memoryInitPauseEnd s = .next t ∧ t.ctl = { s.ctl with init := .refreshing 0 } ∧
         t.path = { s.path with port := { s.path.port with ops := [] } } ∧
         t = { s with ctl := t.ctl, path := t.path, lines := t.lines }) ∧
     (∀ k, s.ctl.init = .refreshing k → k < 15 →
       ∃ t, exec .initialRefreshDone s = .next t ∧ t.ctl = { s.ctl with init := .refreshing (k + 1) } ∧
         t.path = { s.path with port := { s.path.port with ops := s.path.port.ops ++ [.rowRefresh k] } } ∧
         t = { s with ctl := t.ctl, path := t.path, lines := t.lines }) ∧
     (s.ctl.init = .refreshing 15 →
       ∃ t, exec .initialRefreshDone s = .next t ∧
         t.ctl = { s.ctl with init := .refreshing 16, part := .load } ∧
         t.path = { s.path with
           port := { s.path.port with ops := s.path.port.ops ++ [.rowRefresh 15] }
           refresh := { row := 16#10, debt := 0, armed := true, ticking := true } } ∧
         t.speed = { s.speed with axle := { s.speed.axle with
           pulses := (at0 s.cfg.part 0).toNat, circumference := (at0 s.cfg.part 1).toNat,
           window := (at0 s.cfg.part 2).toNat, running := some { start := s.ctl.ms, count := 0 } } } ∧
         t = { s with ctl := t.ctl, path := t.path, speed := t.speed, lines := t.lines }))

/-- R165, R167: LOAD with no traffic held ends in SAFE with code 9, in SAFE with the check code, or in RUN. -/
def Obligations.StartupLoadEndsInRunOrSafe : Prop :=
  ∀ s : State, s.ctl.part = .load → s.image.length = 816 → (∀ r, s.path.up ≠ .heldAtStart r) →
    (∀ a n, s.path.scan ≠ .heldAtStart a n) →
    (¬(at0 s.image 0 = 0x3720#16 ∧ at0 s.image 815 = imageCrc (s.image.take 815)) →
      ∃ t, exec .startupLoadDone s = .next t ∧ t.ctl = { s.ctl with part := .safe, loadFailure := 9#8 } ∧
        t = { s with ctl := t.ctl, lines := t.lines }) ∧
    (at0 s.image 0 = 0x3720#16 → at0 s.image 815 = imageCrc (s.image.take 815) →
      ∀ c : Sections, c.shaped → c.toWords = (s.image.drop 1).take 814 →
        (∀ code, c.check = some code →
          ∃ t, exec .startupLoadDone s = .next t ∧ t.cfg = c ∧
            t.ctl = { s.ctl with part := .safe, loadFailure := BitVec.ofNat 8 code } ∧
            t = { s with ctl := t.ctl, cfg := c, lines := t.lines }) ∧
        (c.check = none →
          ∃ t, exec .startupLoadDone s = .next t ∧ RunEntryValues { s with cfg := c } t ∧
            t.ctl.loadFailure = s.ctl.loadFailure ∧ t.link = s.link))

/-- R16: traffic held at start-up is taken up on leaving LOAD as if it had just arrived in the state entered, the
transaction before the burst and both before any grant (the model's choice, log 9). Where LOAD passes through RUN to RETAIN
each piece is taken up in one of the two, which one is a free value (log 9). `a` is the state LOAD would end in with nothing
held. -/
def Obligations.HeldTrafficIsTakenUpOnLeavingLoad : Prop :=
  ∀ s a : State, s.ctl.part = .load →
    exec .startupLoadDone { s with path := { s.path with
      up := if upstreamArrivals s = [] then s.path.up else .idle
      scan := if burstArrivals s = [] then s.path.scan else .idle } } = .next a →
    (a.ctl.part ≠ .retain →
      ∃ t, execAll (upstreamArrivals s ++ burstArrivals s) a = some t ∧ exec .startupLoadDone s = .next t) ∧
    (a.ctl.part = .retain → upstreamArrivals s ++ burstArrivals s ≠ [] →
      ∃ p q b d t, (p = .run ∨ p = .retain) ∧ (q = .run ∨ q = .retain) ∧
        execAll (upstreamArrivals s)
          { a with ctl := { a.ctl with part := p }, freeCount := a.freeCount + 2 } = some b ∧
        execAll (burstArrivals s) { b with ctl := { a.ctl with part := q } } = some d ∧
        exec .startupLoadDone s = .next t ∧ t = { d with ctl := a.ctl, lines := t.lines })

/-- R161, R167: RESUME in CONFIG enters RUN where the consistency check passes and reports its code where it fails;
elsewhere it is refused with NOT_IN_CONFIG. R168, Table 10.2: the check answers the code of the first test that fails, in
the order of the table, and passes where none fails. -/
def Obligations.ResumeChecksAndEntersRun : Prop :=
  (∀ (s : State) (f : CommandFrame), LinkTakes s f.target → FramedRight 2#8 f → f.arg = 0#8 →
    (s.ctl.part = .config → s.cfg.check = none →
      ∃ t, exec (.resume f) s = .next t ∧ RunEntryValues s t ∧ t.ctl.loadFailure = s.ctl.loadFailure ∧
        LinkDone s t 0x0E02#16) ∧
    (∀ code, s.ctl.part = .config → s.cfg.check = some code →
      ∃ t, exec (.resume f) s = .next t ∧ LinkDone s t (BitVec.ofNat 16 (0x8E00 + code)) ∧
        t = { s with link := t.link, lines := t.lines }) ∧
    (s.ctl.part ≠ .config →
      ∃ t, exec (.resume f) s = .next t ∧ LinkDone s t 0x5E02#16 ∧
        t = { s with link := t.link, lines := t.lines })) ∧
  ∀ c : Sections,
    (∀ code, c.check = some code ↔
      1 ≤ code ∧ code ≤ 8 ∧ CheckFails c code ∧ ∀ j, 1 ≤ j → j < code → ¬CheckFails c j) ∧
    (c.check = none ↔ ∀ j, 1 ≤ j → j ≤ 8 → ¬CheckFails c j)

/-- R164: the counter rises by one at each millisecond, wrapping, in every part state but POWER_UP, where it is held.
R166: the filter takes the moment from which the input differs, the level changes after 100 ms of difference, and RUN
and RETAIN follow the level; nothing else changes. In POWER_UP the filter does not run (the model's choice, log 21); a
change presented before the 100 ms changes nothing (log 4, 5). -/
def Obligations.CounterRisesAndDeskKeyIsFiltered : Prop :=
  (∀ s : State, ∃ t, exec .millisecondTick s = .next t ∧
     t.ctl.ms.toNat = (if s.ctl.part = .powerUp then s.ctl.ms.toNat else (s.ctl.ms.toNat + 1) % 4294967296) ∧
     t = { s with ctl := { s.ctl with ms := t.ctl.ms }, lines := t.lines }) ∧
  (∀ s : State,
     (∀ high : Bool, ∃ t, exec (.deskOnInputChange high) s = .next t ∧
       t.ctl = { s.ctl with
         deskOnInput := high
         deskDiffersSince :=
           if s.ctl.part = .powerUp then s.ctl.deskDiffersSince
           else if high = s.ctl.deskLevel then none
           else match s.ctl.deskDiffersSince with
                | some m => some m
                | none => some s.ctl.ms } ∧
       t = { s with ctl := t.ctl, lines := t.lines }) ∧
     (∀ m, s.ctl.deskDiffersSince = some m → 100 ≤ (s.ctl.ms - m).toNat →
       ∃ t, exec .deskOnFilterChange s = .next t ∧
         t.ctl = { s.ctl with
           deskLevel := !s.ctl.deskLevel
           deskDiffersSince := none
           part := if s.ctl.part = .run ∧ s.ctl.deskLevel = true then .retain
                   else if s.ctl.part = .retain ∧ s.ctl.deskLevel = false then .run else s.ctl.part } ∧
         t = { s with ctl := t.ctl, lines := t.lines }) ∧
     ((∀ m, s.ctl.deskDiffersSince = some m → (s.ctl.ms - m).toNat < 100) →
       ∃ t, exec .deskOnFilterChange s = .next t ∧ t = { s with lines := t.lines }))

/-! ### Refresh and the arbiter -/

/-- R11, R13: a tick adds one to the debt up to 8; the tick that brings it to 8 with the arm armed disarms it and
raises the overrun, which outside RUN and RETAIN sets notice OVERRUN alone; after it no word of the memory is known (the
model's reading of section 4.5, log 7). While ticks are stopped a tick changes nothing (the model's choice, log 4). The
grant of a claim that the tick makes is a step of its own, so the port stays as it is (the model's choice, log 12). -/
def Obligations.RefreshTickRaisesTheDebt : Prop :=
  ∀ s : State,
    (s.path.refresh.ticking = true → ¬(s.path.refresh.debt = 7 ∧ s.path.refresh.armed = true) →
      s.path.refresh.debt ≤ 8 →
      ∃ t, exec .refreshTick s = .next t ∧
        t.path = { s.path with refresh := { s.path.refresh with debt := min 8 (s.path.refresh.debt + 1) } } ∧
        t = { s with path := t.path, lines := t.lines }) ∧
    (s.path.refresh.ticking = true → s.path.refresh.debt = 7 → s.path.refresh.armed = true →
      s.ctl.part ≠ .run → s.ctl.part ≠ .retain →
      ∃ t, exec .refreshTick s = .next t ∧
        t.path = { s.path with refresh := { s.path.refresh with debt := 8, armed := false } } ∧
        t.status = { s.status with notices := { s.status.notices with overrun := true } } ∧ t.mem = s.mem.forget ∧
        t = { s with path := t.path, status := t.status, mem := t.mem, lines := t.lines }) ∧
    (s.path.refresh.ticking = false →
      ∃ t, exec .refreshTick s = .next t ∧ t = { s with lines := t.lines })

/-- R13, R68, R74, R137: an overrun in RUN or RETAIN makes every held VALID or RECOVERING record STALE with progress 0, its
timer and write state running on and its kind state discarded, sets OVERRUN and RECORD_LEFT_VALID, and leaves an entry
1125, if the list takes one, CLEARED_UNACKED. R68, R69: in a list with room every VALID record's stale message is raised
with marker 3, and every RECOVERING record's where the list does not hold it. The order of the requests is a free choice
(log 8), and no word of the memory is known afterwards (the model's reading of section 4.5, log 7). R137: an ACK press that
is due may be recognized between the raise of 1125 and its clear, a free choice (log 25); where it acknowledges 1125 the
clear removes the entry and pushes it onto the recall stack. -/
def Obligations.RefreshOverrunMakesRecordsStale : Prop :=
  ∀ s : State, ShapeInv s → s.inService = true → s.path.refresh.ticking = true →
    s.path.refresh.debt = 7 → s.path.refresh.armed = true →
    let falls := fun n => s.kind n ≠ .none ∧ ((s.record n).status = .valid ∨ (s.record n).status = .recovering)
    let noPressDue := ∀ m, s.msg.debouncer = .pressing m → (s.ctl.ms - m).toNat < 30
    ∃ t, exec .refreshTick s = .next t ∧
      (∀ n, n < 24 → t.record n =
        if falls n then { s.record n with status := .stale, progress := 0 } else s.record n) ∧
      (∀ n, n < 24 →
        t.speedKind n = (if falls n ∧ s.kind n = .speed then
          { s.speedKind n with previous := none, disagreeRun := 0, agreeRun := 0, presented := none }
          else s.speedKind n) ∧
        (t.aspectKind n).shown = (if falls n ∧ s.kind n = .aspect then none else (s.aspectKind n).shown) ∧
        (t.aspectKind n).upgrade = (if falls n ∧ s.kind n = .aspect then none else (s.aspectKind n).upgrade) ∧
        (noPressDue → (t.aspectKind n).awaiting = (s.aspectKind n).awaiting)) ∧
      t.status.notices.overrun = true ∧
      (t.status.notices.leftValid = true ↔
        s.status.notices.leftValid = true ∨ ∃ n, n < 24 ∧ s.kind n ≠ .none ∧ (s.record n).status = .valid) ∧
      (∀ e ∈ t.msg.entries, e.code = 1125 → e.state = .clearedUnacked) ∧
      t.path = { s.path with refresh := { s.path.refresh with debt := 8, armed := false } } ∧
      t.mem = s.mem.forget ∧
      t = { s with mem := t.mem, path := t.path, recs := t.recs, speed := { s.speed with kinds := t.speed.kinds },
                   aspect := { s.aspect with kinds := t.aspect.kinds },
                   msg := { s.msg with entries := t.msg.entries, nextOrdinal := t.msg.nextOrdinal,
                                       recalls := t.msg.recalls, debouncer := t.msg.debouncer },
                   status := t.status, lines := t.lines, freeCount := t.freeCount } ∧
      (noPressDue → t.msg.debouncer = s.msg.debouncer) ∧
      (noPressDue → ListInv s →
        s.msg.entries.length + (List.range 24).countP (fun n => decide (falls n)) < 32 →
        t.status.counts = s.status.counts ∧ t.status.notices.listOverflow = s.status.notices.listOverflow ∧
        ∀ n, n < 24 → s.kind n ≠ .none →
          ((s.record n).status = .valid ∨
            ((s.record n).status = .recovering ∧ ∀ x ∈ s.msg.entries, x.code ≠ 1024 + n) →
            ∃ e ∈ t.msg.entries, e.code = 1024 + n ∧ e.marker = 3#8 ∧
              e.state = (if e.needsAck then .unacked else .acked) ∧
              ((∀ x ∈ s.msg.entries, x.code ≠ 1024 + n) →
                e.cls = (s.cfg.entry n).staleClass ∧ e.needsAck = (s.cfg.entry n).staleNeedsAck ∧
                  e.source = .interposer ∧ e.raiseTime = s.ctl.ms ∧ e.count = 1)) ∧
          ((s.record n).status = .recovering → ∀ x ∈ s.msg.entries, x.code = 1024 + n →
            ∃ e ∈ t.msg.entries, e.code = x.code ∧ e.marker = x.marker ∧ e.state = x.state ∧ e.count = x.count)) ∧
      (∀ m h rest, ListInv s → s.ctl.part = .run → s.msg.debouncer = .pressing m → 30 ≤ (s.ctl.ms - m).toNat →
        s.msg.entries = h :: rest → h.code = 1125 → h.needsAck = true →
        (at0 s.cfg.part 5).toNat ≤ (s.ctl.ms - h.headSince).toNat → (∀ n, n < 24 → ¬falls n) →
        (t.msg = { s.msg with entries := t.msg.entries } ∧
          ListBecomes s.msg t.msg s.ctl.ms
            ({ h with count := if h.count = 255 then 255 else h.count + 1, marker := 0#8,
                      state := .clearedUnacked } :: othersOf 1125 s.msg.entries)) ∨
        (t.msg = { s.msg with
            entries := t.msg.entries
            recalls := ({ code := 1125, cls := h.cls, marker := 0#8, raiseTime := h.raiseTime,
                          removeTime := s.ctl.ms } :: s.msg.recalls).take 10
            debouncer := .pressed } ∧
          ListBecomes s.msg t.msg s.ctl.ms (othersOf 1125 s.msg.entries)))

/-- R9, R10, R12, Table 1.2: with the port free the grant goes to the first case that holds; a grant to refresh takes
the row at the counter, advances it and pays one; a grant to a burst sets the alternation flag where an upstream
transaction waits; with no claimant, and with the port busy, nothing changes. The flag changes at
grants alone, but for a full reset (the desk computer's posts carry their own grant, log 14). The row refresh done, the
port becomes free; a REFRESH_DONE or UPSTREAM_COLUMN_DONE with no such work under way changes nothing (the model's choice,
log 4). R9 grants a port that becomes free at that moment; here the grant is a step of its own, so REFRESH_DONE leaves the
port free whoever waits (the model's choice, log 12). -/
def Obligations.ArbiterGrantsInTheOrderOfTheTable : Prop :=
  (∀ s : State,
     let refreshGranted := ∃ t, exec .arbiterGrant s = .next t ∧
       t.path = { s.path with
         port := { holder := .refresh, openRow := none, ops := [.rowRefresh s.path.refresh.row.toNat] }
         refresh := { s.path.refresh with
           row := s.path.refresh.row + 1#10, debt := s.path.refresh.debt - 1,
           armed := s.path.refresh.armed || s.path.refresh.debt == 1 } } ∧
       t = { s with path := t.path, lines := t.lines }
     (s.path.port.holder = .free → 4 ≤ s.path.refresh.debt → refreshGranted) ∧
     (∀ r, s.path.port.holder = .free → s.path.refresh.debt < 4 → s.path.up = .claiming r →
       s.path.alternate = true ∨ (∀ b, s.path.scan = .active b → b.phase ≠ .claiming) →
       ∃ t, exec .arbiterGrant s = .next t ∧ t.path.alternate = false ∧ t.path.refresh = s.path.refresh ∧
         t.path.scan = s.path.scan ∧ (t.path.port.holder = .upstream ∨ t.path.port.holder = .free)) ∧
     (∀ b, s.path.port.holder = .free → s.path.refresh.debt < 4 → s.path.scan = .active b → b.phase = .claiming →
       (s.path.alternate = false ∨ ∀ r, s.path.up ≠ .claiming r) →
       ∃ t, exec .arbiterGrant s = .next t ∧
         t.path = { s.path with
           port := { holder := .scan, openRow := none, ops := [] }
           scan := .active { b with phase := .holdingPort }
           alternate := s.path.alternate || s.upWaits } ∧
         t = { s with path := t.path, lines := t.lines }) ∧
     (s.path.port.holder = .free → 1 ≤ s.path.refresh.debt → (∀ r, s.path.up ≠ .claiming r) →
       (∀ b, s.path.scan = .active b → b.phase ≠ .claiming) → refreshGranted) ∧
     ((s.path.port.holder ≠ .free ∨ (s.path.refresh.debt = 0 ∧ (∀ r, s.path.up ≠ .claiming r) ∧
         ∀ b, s.path.scan = .active b → b.phase ≠ .claiming)) →
       ∃ t, exec .arbiterGrant s = .next t ∧ t = { s with lines := t.lines })) ∧
  (∀ s : State,
     (s.path.port.holder = .refresh →
       ∃ t, exec .refreshDone s = .next t ∧
         t.path = { s.path with port := { s.path.port with holder := .free, openRow := none } } ∧
         t = { s with path := t.path, lines := t.lines }) ∧
     (s.path.port.holder ≠ .refresh → ∃ t, exec .refreshDone s = .next t ∧ t = { s with lines := t.lines }) ∧
     ((∀ r w, s.path.up ≠ .serving r w) →
       ∃ t, exec .upstreamColumnDone s = .next t ∧ t = { s with lines := t.lines })) ∧
  (∀ (c : Instr) (s t : State), exec c s = .next t → t.path.alternate ≠ s.path.alternate →
     (s.path.alternate = false → c = .arbiterGrant ∧ t.path.port.holder = .scan ∧ s.upWaits = true) ∧
     (s.path.alternate = true → FullResetValues t ∨ c = .arbiterGrant ∨
       ∃ a w, (c = .postMessageWord a w ∨ (∃ m i, c = .postRaise a m i) ∨ (∃ m i, c = .postClear a m i) ∨
         (∃ m i, c = .postAck a m i) ∨ ∃ m i x, c = .badPost a m i x) ∧ s.path.up = .idle))

/-! ### The upstream port -/

/-- R2, R3, R15, R16: an arrival is held in POWER_UP, MEMORY_INIT and LOAD, becomes a claimant in CONFIG and SAFE (its grant
is a step of its own, the model's choice, log 12), and is not taken while a transaction is held (the model's choice,
log 4). -/
def Obligations.ArrivalByPartState : Prop :=
  ∀ (s : State) (r : UpstreamRequest),
    (s.path.up = .idle → s.ctl.part = .powerUp ∨ s.ctl.part = .memoryInit ∨ s.ctl.part = .load →
      ∃ t, exec (.upstreamArrival r) s = .next t ∧ t.path = { s.path with up := .heldAtStart r } ∧
        t = { s with path := t.path, lines := t.lines }) ∧
    (s.path.up = .idle → s.ctl.part = .config ∨ s.ctl.part = .safe →
      ∃ t, exec (.upstreamArrival r) s = .next t ∧ t.path = { s.path with up := .claiming r } ∧
        t = { s with path := t.path, lines := t.lines }) ∧
    (s.path.up ≠ .idle → ∃ t, exec (.upstreamArrival r) s = .next t ∧ t = { s with lines := t.lines })

/-- Table 2.2, R51, R52: what an arriving READ becomes in RUN and RETAIN, by its class; a claim waits for the step that
grants it (the model's choice, log 12). R141, R143, R152, R153: the words of the SLOT, RECALL and STATUS windows are those of
Tables 7.3 and 8.2. -/
def Obligations.ArrivingReadByClass : Prop :=
  ∀ (s : State) (a : Addr), s.inService = true → s.path.up = .idle →
    let claims := ∃ t, exec (.upstreamArrival (.read a)) s = .next t ∧
      t.path = { s.path with up := .claiming (.read a) } ∧ t = { s with path := t.path, lines := t.lines }
    let answered := fun w : Word => ∃ t, exec (.upstreamArrival (.read a)) s = .next t ∧
      t.path = { s.path with upData := w } ∧ t = { s with path := t.path, lines := t.lines }
    (s.cfg.classify .upstream a = .pass ∨ s.cfg.classify .upstream a = .unmatched ∨
      s.cfg.classify .upstream a = .protect ∨ s.cfg.classify .upstream a = .copy → claims) ∧
    (∀ k, s.cfg.classify .upstream a = .post k → claims) ∧
    (∀ n k, s.cfg.classify .upstream a = .record n k → k < (s.cfg.entry n).length →
      ((s.record n).status = .valid → k ≤ (s.cfg.entry n).inputs → claims) ∧
      (∀ ws, (s.record n).status = .valid → (s.cfg.entry n).inputs < k → PresentedIs s n ws →
        answered (at0 ws (k - (s.cfg.entry n).inputs - 1))) ∧
      ((s.record n).status ≠ .valid → answered (at0 s.cfg.substitutes (15 * n + k)))) ∧
    (∀ k, s.cfg.classify .upstream a = .slot k → k / 4 < (at0 s.cfg.part 4).toNat →
      ∃ w, answered w ∧ SlotOffsetIs s k w) ∧
    (∀ k, s.cfg.classify .upstream a = .recalled k → k < 40 → ∃ w, answered w ∧ RecallOffsetIs s k w) ∧
    (∀ k, s.cfg.classify .upstream a = .status k → 1 ≤ k → k ≤ 31 → ∃ w, answered w ∧ StatusWordIs s k w)

/-- Table 2.2, R24, R26, R40: what an arriving WRITE becomes in RUN and RETAIN, by its class; a claim waits for the step
that grants it (the model's choice, log 12). -/
def Obligations.ArrivingWriteByClass : Prop :=
  ∀ (s : State) (a : Addr) (w : Word), s.inService = true → s.path.up = .idle →
    let claims := ∃ t, exec (.upstreamArrival (.write a w)) s = .next t ∧
      t.path = { s.path with up := .claiming (.write a w) } ∧ t = { s with path := t.path, lines := t.lines }
    let dropped := ∃ t, exec (.upstreamArrival (.write a w)) s = .next t ∧ t = { s with lines := t.lines }
    (s.cfg.classify .upstream a = .pass ∨ s.cfg.classify .upstream a = .unmatched → claims) ∧
    (∀ k, s.cfg.classify .upstream a = .post k → claims) ∧
    (s.cfg.classify .upstream a = .protect → dropped) ∧
    (∀ k, s.cfg.classify .upstream a = .slot k ∨ s.cfg.classify .upstream a = .recalled k ∨
      s.cfg.classify .upstream a = .status k → dropped) ∧
    (s.cfg.classify .upstream a = .copy →
      ∃ t, exec (.upstreamArrival (.write a w)) s = .next t ∧
        t.status.notices = { s.status.notices with copyWrite := true } ∧
        t.status.counts = { s.status.counts with
          copyWrite := if s.status.counts.copyWrite < 255 then s.status.counts.copyWrite + 1 else 255 } ∧
        t = { s with status := t.status, lines := t.lines }) ∧
    (∀ n k, s.cfg.classify .upstream a = .record n k → s.kind n ≠ .none →
      ((s.record n).status = .barred → dropped) ∧
      ((s.record n).status ≠ .barred → s.pinned n = true →
        ∃ t, exec (.upstreamArrival (.write a w)) s = .next t ∧
          t.path = { s.path with up := .heldForPin (.write a w) } ∧
          t = { s with path := t.path, lines := t.lines }) ∧
      ((s.record n).status ≠ .barred → s.pinned n = false → (s.cfg.entry n).inputs < k → dropped) ∧
      ((s.record n).status ≠ .barred → s.pinned n = false → k ≤ (s.cfg.entry n).inputs → claims))

/-- R149, Table 8.2: a read of STATUS word 0, which comes as its own row or as the arrival of that read (log 15), returns the
notice set and the part state and clears the notices. -/
def Obligations.StatusWordZeroReturnsAndClearsNotices : Prop :=
  ∀ (s : State) (a : Addr) (c : Instr), s.inService = true → s.path.up = .idle →
    s.cfg.classify .upstream a = .status 0 → c = .statusWord0Read a ∨ c = .upstreamArrival (.read a) →
    ∃ t, exec c s = .next t ∧
      t.path = { s.path with upData := t.path.upData } ∧
      t.path.upData.toNat / 4096 = (if s.ctl.part = .run then 3 else 6) ∧ t.path.upData.toNat % 4096 < 64 ∧
      t.path.upData.getLsbD 5 = s.status.notices.copyWrite ∧
      t.path.upData.getLsbD 4 = s.status.notices.overrun ∧
      t.path.upData.getLsbD 3 = s.status.notices.listOverflow ∧
      t.path.upData.getLsbD 2 = s.status.notices.barred ∧
      t.path.upData.getLsbD 1 = s.status.notices.refusal ∧
      t.path.upData.getLsbD 0 = s.status.notices.leftValid ∧
      t.status = { s.status with notices := { leftValid := false, refusal := false, barred := false,
                                              listOverflow := false, overrun := false, copyWrite := false } } ∧
      t.lines.attn = false ∧ t = { s with path := t.path, status := t.status, lines := t.lines }

/-- R1, R4, R15, R25, R26, R29: a granted transaction that needs memory at its own address activates the row, performs its
column operation there and nowhere else, and its completion frees the port and gives a READ its word. The grant and the
completion are steps of their own (the model's choice, log 12, 13). -/
def Obligations.GrantedTransactionIsServedAtItsAddress : Prop :=
  ∀ (s : State) (a : Addr) (w : Word),
    let unclassified := s.ctl.part = .config ∨ s.ctl.part = .safe
    let passes := s.cfg.classify .upstream a = .pass ∨ s.cfg.classify .upstream a = .unmatched
    let readsItself := s.cfg.classify .upstream a = .protect ∨ s.cfg.classify .upstream a = .copy ∨
      ∃ k, s.cfg.classify .upstream a = .post k
    (unclassified ∨ (s.inService = true ∧ passes) → GrantsUpstream s (.write a w) →
      ∃ t u, exec .arbiterGrant s = .next t ∧ WrittenAt s t (.write a w) a w ∧
        t = { s with mem := t.mem, path := t.path, lines := t.lines } ∧
        exec .upstreamColumnDone t = .next u ∧
        u.path = { t.path with
          port := { holder := .free, openRow := none, ops := [.rowActivate (a.toNat / 128), .columnWrite a w] }
          up := .idle } ∧
        u = { t with path := u.path, lines := u.lines }) ∧
    (unclassified ∨ (s.inService = true ∧ (passes ∨ readsItself)) → GrantsUpstream s (.read a) →
      ∃ t u, exec .arbiterGrant s = .next t ∧
        t.path = { s.path with port := servedPort a (.columnRead a), alternate := false,
                               up := .serving (.read a) (some (s.mem.read a)) } ∧
        t = { s with path := t.path, lines := t.lines } ∧
        exec .upstreamColumnDone t = .next u ∧
        u.path = { t.path with
          port := { holder := .free, openRow := none, ops := [.rowActivate (a.toNat / 128), .columnRead a] }
          up := .idle
          upData := s.mem.read a } ∧
        u = { t with path := u.path, lines := u.lines })

/-- R4, R10, R52: a granted transaction is decided again against the state at its grant; one that no longer needs memory
completes or is held, the port becomes free without a memory operation, and the grant clears the alternation flag. -/
def Obligations.GrantDecidesAgain : Prop :=
  ∀ (s : State) (r : UpstreamRequest) (n k : Nat), GrantsUpstream s r → s.inService = true →
    s.cfg.classify .upstream (requestAddr r) = .record n k → s.kind n ≠ .none → k < (s.cfg.entry n).length →
    let freed := { s.path with port := { holder := .free, openRow := none, ops := [] }, alternate := false }
    ((∃ a, r = .read a) → (s.record n).status ≠ .valid →
      ∃ t, exec .arbiterGrant s = .next t ∧
        t.path = { freed with up := .idle, upData := at0 s.cfg.substitutes (15 * n + k) } ∧
        t = { s with path := t.path, lines := t.lines }) ∧
    ((∃ a, r = .read a) → (s.record n).status = .valid → k ≤ (s.cfg.entry n).inputs →
      ∃ t, exec .arbiterGrant s = .next t ∧
        t.path = { s.path with
          port := servedPort (s.copyAddr n (s.record n).front k) (.columnRead (s.copyAddr n (s.record n).front k))
          alternate := false
          up := .serving r (some (s.mem.read (s.copyAddr n (s.record n).front k))) } ∧
        t = { s with path := t.path, lines := t.lines }) ∧
    ((∃ a w, r = .write a w) → (s.record n).status = .barred →
      ∃ t, exec .arbiterGrant s = .next t ∧ t.path = { freed with up := .idle } ∧
        t = { s with path := t.path, lines := t.lines }) ∧
    ((∃ a w, r = .write a w) → (s.record n).status ≠ .barred → s.pinned n = true →
      ∃ t, exec .arbiterGrant s = .next t ∧ t.path = { freed with up := .heldForPin r } ∧
        t = { s with path := t.path, lines := t.lines })

/-! ### Scan bursts -/

/-- R6, R15, R16, R8: a burst is held at start-up, answered with zeros in RETAIN, CONFIG and SAFE, taken for service
word by word in RUN, and not taken while another is held or in service (the model's choice, log 4); its count is clamped
to its row. R33: it claims the port exactly where one of its words needs memory as the state stands; the grant is a step of
its own (the model's choice, log 12). -/
def Obligations.ScanBurstIsTakenByPartState : Prop :=
  ∀ (s : State) (start : Addr) (count : BitVec 8),
    let served := min (if count = 0#8 then 128 else count.toNat) (128 - start.toNat % 128)
    (s.path.scan = .idle → s.ctl.part = .powerUp ∨ s.ctl.part = .memoryInit ∨ s.ctl.part = .load →
      ∃ t, exec (.scanBurstArrival start count) s = .next t ∧
        t.path = { s.path with scan := .heldAtStart start count } ∧
        t = { s with path := t.path, lines := t.lines }) ∧
    (s.path.scan = .idle → s.ctl.part = .retain ∨ s.ctl.part = .config ∨ s.ctl.part = .safe →
      ∃ t, exec (.scanBurstArrival start count) s = .next t ∧
        t.path = { s.path with scanOut := List.replicate served 0#16 } ∧
        t = { s with path := t.path, lines := t.lines }) ∧
    (s.path.scan = .idle → s.ctl.part = .run →
      ∃ t b, exec (.scanBurstArrival start count) s = .next t ∧ b.next = start ∧ b.left = served ∧ b.pins = [] ∧
        (b.phase = .claiming ↔ ∃ i, i < served ∧ ScanNeedsMemory s (start + BitVec.ofNat 17 i)) ∧
        (b.phase = .claiming ∨ b.phase = .runningFree) ∧
        t.path = { s.path with scan := .active b, scanOut := [] } ∧
        t = { s with path := t.path, lines := t.lines }) ∧
    (s.path.scan ≠ .idle →
      ∃ t, exec (.scanBurstArrival start count) s = .next t ∧ t = { s with lines := t.lines })

/-- R7, R8, R30 to R33: a burst serves its next word, read from memory at its own address or supplied (a SLOT, RECALL or
STATUS word); without the port it stops at a word that needs memory, its last word too, and claims the port, whose grant is a
step of its own (the model's choice, log 12). A word that is served is not its last here; `LastScanWordEndsTheBurst` says the
same of that one. -/
def Obligations.ScanWordIsServedInColumnOrder : Prop :=
  ∀ (s : State) (b : Burst), s.path.scan = .active b →
    let goesOn := fun w : Word =>
      { s.path with scanOut := s.path.scanOut ++ [w]
                    scan := .active { b with next := b.next + 1#17, left := b.left - 1 } }
    let supplies := fun w : Word => ∃ t, exec .scanWord s = .next t ∧ t.path = goesOn w ∧
      t = { s with path := t.path, lines := t.lines }
    (s.cfg.classify .scan b.next = .pass ∨ s.cfg.classify .scan b.next = .unmatched ∨
        s.cfg.classify .scan b.next = .protect ∨ s.cfg.classify .scan b.next = .copy ∨
        (∃ k, s.cfg.classify .scan b.next = .post k) →
      (b.phase = .holdingPort → 1 < b.left →
        ∃ t, exec .scanWord s = .next t ∧
          t.path = { goesOn (s.mem.read b.next) with port := portAfterRead s.path.port (some b.next) } ∧
          t = { s with path := t.path, lines := t.lines }) ∧
      (b.phase = .runningFree →
        ∃ t, exec .scanWord s = .next t ∧ t.path = { s.path with scan := .active { b with phase := .claiming } } ∧
          t = { s with path := t.path, lines := t.lines })) ∧
    (∀ k, s.cfg.classify .scan b.next = .status k → 1 < b.left → b.phase ≠ .claiming → supplies 0#16) ∧
    (∀ k, s.cfg.classify .scan b.next = .slot k → k / 4 < (at0 s.cfg.part 4).toNat → 1 < b.left → b.phase ≠ .claiming →
      ∃ w, supplies w ∧ SlotOffsetIs s k w) ∧
    (∀ k, s.cfg.classify .scan b.next = .recalled k → k < 40 → 1 < b.left → b.phase ≠ .claiming →
      ∃ w, supplies w ∧ RecallOffsetIs s k w) ∧
    (b.phase = .claiming → ∃ t, exec .scanWord s = .next t ∧ t = { s with lines := t.lines })

/-- R53, R54, R58: the first word of a record's window pins the record with a snapshot, and every word of the window is
decided by the snapshot: a VALID snapshot gives the copy it names as front or its presented values, any other the
substitute list, and a word that the table as written does not have is 0. R8: a burst that runs without the port serves the
supplied words, and stops at a word that needs memory, its last word too, and claims the port. That a word at which it stops
pins nothing yet, and that a burst taken in RUN pins after the part has left RUN too, is the model's reading (log 18). A word
that is served is not the burst's last here; `LastScanWordEndsTheBurst` says the same of that one. -/
def Obligations.WindowWordsFollowTheSnapshot : Prop :=
  ∀ (s : State) (b : Burst) (n k : Nat) (p : Snapshot), s.path.scan = .active b →
    b.phase ≠ .claiming → s.cfg.classify .scan b.next = .record n k → SnapshotFor s b n p →
    (WindowReads s n k p → b.phase = .runningFree →
      ∃ t, exec .scanWord s = .next t ∧ t.path = { s.path with scan := .active { b with phase := .claiming } } ∧
        t = { s with path := t.path, lines := t.lines }) ∧
    (¬WindowReads s n k p ∨ b.phase = .holdingPort → 1 < b.left →
      ∃ t src w, exec .scanWord s = .next t ∧ WindowWordIs s n k p src w ∧
        t.path = { s.path with
          port := portAfterRead s.path.port src
          scanOut := s.path.scanOut ++ [w]
          scan := .active { b with
            next := b.next + 1#17
            left := b.left - 1
            pins := if b.pins.any (fun x => x.index == n) then b.pins else b.pins ++ [p] } } ∧
        t = { s with path := t.path, lines := t.lines })

/-- R7, R30 to R32, R54, R58: the last word of a burst, and so the word of a burst of one word, is given by its class as
every other is; where the burst runs without the port and that word needs memory it stops there, which
`ScanWordIsServedInColumnOrder` and `WindowWordsFollowTheSnapshot` say. R5, R7, R8, R56: with it the burst ends: its pins are released, the port it holds becomes free, and a write
held for a pin is decided afresh, as an arrival, before the freed port is granted (the model's choice, log 12). -/
def Obligations.LastScanWordEndsTheBurst : Prop :=
  ∀ (s : State) (b : Burst), s.path.scan = .active b → b.left = 1 → b.phase ≠ .claiming →
    (∀ a w, ScanWordIs s b (some a) w → b.phase = .holdingPort) →
    (∃ t src w, exec .scanWord s = .next t ∧ ScanWordIs s b src w ∧ t.path.scan = .idle ∧
      t.path.scanOut = s.path.scanOut ++ [w] ∧
      t.path.port = (if b.phase = .holdingPort then
          { portAfterRead s.path.port src with holder := .free, openRow := none }
        else s.path.port) ∧
      t.path.refresh = s.path.refresh ∧ t.path.alternate = s.path.alternate ∧ t.path.cutOff = s.path.cutOff ∧
      ((∀ r, s.path.up ≠ .heldForPin r) →
        t.path = { s.path with port := t.path.port, scan := t.path.scan, scanOut := t.path.scanOut } ∧
        t = { s with path := t.path, lines := t.lines, freeCount := t.freeCount })) ∧
    ∀ r t u, s.path.up = .heldForPin r → exec .scanWord { s with path := { s.path with up := .idle } } = .next t →
      exec (.upstreamArrival r) t = .next u → exec .scanWord s = .next u

/-! ### Guarded records -/

/-- R41, R42, R44: a served write at offset 0 goes to word 0 of the back copy and opens a version, with the running CRC
started at 0xFF XOR n and advanced over the word; a version in progress is abandoned without a refusal. The word and the
step take place at the grant (the model's choice, log 13). A served write at the next expected offset below the check word goes to that word of the back copy and extends the open version. The CRC is that of R44, by its shifts and polynomial. -/
def Obligations.WindowWordsBuildAVersion : Prop :=
  (∀ (start : Byte) (bs : List Byte), crc8 start bs = crc8ByRule start bs) ∧
  (∀ (s : State) (a : Addr) (w : Word) (n : Nat), ShapeInv s → ServesWindowWrite s a w n 0 →
     ∃ t, exec .arbiterGrant s = .next t ∧
       WrittenAt s t (.write a w) (s.copyAddr n (s.record n).front.other 0) w ∧
       t.record n = { s.record n with
         write := .opened 1 (crc8 (0xFF#8 ^^^ BitVec.ofNat 8 n) [highByte w, lowByte w]) [w] } ∧
       (∀ m, m ≠ n → t.record m = s.record m) ∧
       t = { s with mem := t.mem, path := t.path, recs := t.recs, lines := t.lines }) ∧
  (∀ (s : State) (a : Addr) (w : Word) (n k : Nat) (crc : Byte) (words : List Word), ShapeInv s →
     ServesWindowWrite s a w n k → 1 ≤ k → k < (s.cfg.entry n).inputs →
     (s.record n).write = .opened k crc words →
     ∃ t, exec .arbiterGrant s = .next t ∧
       WrittenAt s t (.write a w) (s.copyAddr n (s.record n).front.other k) w ∧
       t.record n = { s.record n with
         write := .opened (k + 1) (crc8 crc [highByte w, lowByte w]) (words ++ [w]) } ∧
       (∀ m, m ≠ n → t.record m = s.record m) ∧
       t = { s with mem := t.mem, path := t.path, recs := t.recs, lines := t.lines })

/-- R42, R43, R45, R46, R49, R65: a refusal below the limit, whatever its reason: the word stays in the back copy, the
version is discarded, the refusal is counted up to 15 and noticed; a RECOVERING record goes back to STALE, its kind
state discarded (R74), with its stale message raised where the list does not hold it. An ASPECT record's pending upgrade is
emptied (R111). R81, R108, R116: the content check, whose failure is reason CONTENT, by kind. -/
def Obligations.RefusalBelowTheLimit : Prop :=
  (∀ (s : State) (n : Nat) (words : List Word), s.contentCheck n words = true ↔ ContentPasses s n words) ∧
  ∀ (s : State) (a : Addr) (w : Word) (n k : Nat) (why : Reason), ShapeInv s → ServesWindowWrite s a w n k →
    refusalReason s n k w = some why →
    ((s.cfg.entry n).refusalLimit = 0 ∨ min 15 ((s.record n).refusals + 1) ≠ (s.cfg.entry n).refusalLimit) →
    let noticed := { s.status with notices := { s.status.notices with refusal := true } }
    let staleMessage : RaiseRequest :=
      { code := 1024 + n, cls := (s.cfg.entry n).staleClass, source := .interposer,
        needsAck := (s.cfg.entry n).staleNeedsAck, marker := 2#8 }
    ∃ t, exec .arbiterGrant s = .next t ∧
      WrittenAt s t (.write a w) (s.copyAddr n (s.record n).front.other k) w ∧
      t.record n = { s.record n with
        write := .closed
        refusals := min 15 ((s.record n).refusals + 1)
        reason := why
        status := if (s.record n).status = .recovering then .stale else (s.record n).status
        progress := if (s.record n).status = .recovering then 0 else (s.record n).progress } ∧
      (∀ m, m ≠ n → t.record m = s.record m ∧ t.speedKind m = s.speedKind m ∧ t.aspectKind m = s.aspectKind m) ∧
      t.speedKind n = (if (s.record n).status = .recovering ∧ s.kind n = .speed then
          { s.speedKind n with previous := none, disagreeRun := 0, agreeRun := 0, presented := none }
        else s.speedKind n) ∧
      t.aspectKind n = (if s.kind n = .aspect then
          { s.aspectKind n with
            shown := if (s.record n).status = .recovering then none else (s.aspectKind n).shown
            upgrade := none }
        else s.aspectKind n) ∧
      ((s.record n).status ≠ .recovering ∨ (∃ e ∈ s.msg.entries, e.code = 1024 + n) →
        t.msg = s.msg ∧ t.status = noticed) ∧
      ((s.record n).status = .recovering → (∀ e ∈ s.msg.entries, e.code ≠ 1024 + n) →
        t.msg = (s.msg.raise s.ctl.ms staleMessage).1 ∧
        t.status = afterRaise (s.msg.raise s.ctl.ms staleMessage).2 noticed) ∧
      t = { s with mem := t.mem, path := t.path, recs := t.recs, speed := { s.speed with kinds := t.speed.kinds },
                   aspect := { s.aspect with kinds := t.aspect.kinds }, msg := t.msg, status := t.status,
                   lines := t.lines }

/-- R66, R71, R72, R74: the refusal that brings the count to a non-zero limit bars the record, stops its timer, discards its
kind state, clears its stale message and raises its barred message (in either order, a free choice, log 8), and sets
REFUSAL, BARRED and, from VALID, RECORD_LEFT_VALID. -/
def Obligations.RefusalAtTheLimitBars : Prop :=
  ∀ (s : State) (a : Addr) (w : Word) (n k : Nat) (why : Reason), ShapeInv s → ServesWindowWrite s a w n k →
    refusalReason s n k w = some why → (s.cfg.entry n).refusalLimit ≠ 0 →
    min 15 ((s.record n).refusals + 1) = (s.cfg.entry n).refusalLimit →
    let barredMessage : RaiseRequest :=
      { code := 1056 + n, cls := 1, source := .interposer, needsAck := true, marker := BitVec.ofNat 8 why.code }
    let noticed := { s.status with notices := { s.status.notices with
      refusal := true
      barred := true
      leftValid := s.status.notices.leftValid || decide ((s.record n).status = .valid) } }
    let cleared := (s.msg.clear s.ctl.ms (1024 + n)).1
    ∃ t, exec .arbiterGrant s = .next t ∧
      WrittenAt s t (.write a w) (s.copyAddr n (s.record n).front.other k) w ∧
      t.record n = { s.record n with write := .closed, refusals := (s.cfg.entry n).refusalLimit, reason := why,
                                     status := .barred, progress := 0, timer := none } ∧
      (∀ m, m ≠ n → t.record m = s.record m ∧ t.speedKind m = s.speedKind m ∧ t.aspectKind m = s.aspectKind m) ∧
      ((t.msg = (cleared.raise s.ctl.ms barredMessage).1 ∧
          t.status = afterRaise (cleared.raise s.ctl.ms barredMessage).2 noticed) ∨
        (t.msg = ((s.msg.raise s.ctl.ms barredMessage).1.clear s.ctl.ms (1024 + n)).1 ∧
          t.status = afterRaise (s.msg.raise s.ctl.ms barredMessage).2 noticed)) ∧
      t.speedKind n = (if s.kind n = .speed then
          { s.speedKind n with previous := none, disagreeRun := 0, agreeRun := 0, presented := none }
        else s.speedKind n) ∧
      t.aspectKind n = (if s.kind n = .aspect then { s.aspectKind n with shown := none, upgrade := none }
        else s.aspectKind n) ∧
      t = { s with mem := t.mem, path := t.path, recs := t.recs, speed := { s.speed with kinds := t.speed.kinds },
                   aspect := { s.aspect with kinds := t.aspect.kinds }, msg := t.msg, status := t.status,
                   lines := t.lines, freeCount := t.freeCount }

/-- R45 to R48, R60, R63: an acceptance exchanges the copies, keeps the sequence and the reason, sets the refusals to 0,
restarts the timer and moves the display status by the recovery count; no other record changes. R70, R73: on its return to
VALID its stale message is cleared, for every kind; the other requests of the event are those of its kind's own messages
(the statements on SPEED, ASPECT and SELECT give them), and a PLAIN record makes none. The order of the requests is a free
choice (log 8). -/
def Obligations.AcceptanceShowsTheNewVersion : Prop :=
  ∀ (s : State) (a : Addr) (w : Word) (n : Nat) (words : List Word), ShapeInv s → AcceptsVersion s a w n words →
    let recovers := ((s.record n).status = .stale ∧ (s.cfg.entry n).recovery = 1) ∨
      ((s.record n).status = .recovering ∧ (s.record n).progress + 1 = (s.cfg.entry n).recovery)
    ∃ t own x, exec .arbiterGrant s = .next t ∧
      WrittenAt s t (.write a w) (s.copyAddr n (s.record n).front.other (s.cfg.entry n).inputs) w ∧
      (t.record n).write = .closed ∧ (t.record n).front = (s.record n).front.other ∧
      (t.record n).lastSeq = some (highByte w) ∧ (t.record n).refusals = 0 ∧
      (t.record n).reason = (s.record n).reason ∧
      (t.record n).timer = some (s.ctl.ms + BitVec.ofNat 32 (100 * (s.cfg.entry n).freshness)) ∧
      ((s.record n).status = .empty → (t.record n).status = .valid ∧ (t.record n).progress = 0) ∧
      ((s.record n).status = .valid →
        (t.record n).status = .valid ∧ (t.record n).progress = (s.record n).progress) ∧
      (recovers → (t.record n).status = .valid ∧ (t.record n).progress = 0) ∧
      ((s.record n).status = .stale → (s.cfg.entry n).recovery ≠ 1 →
        (t.record n).status = .recovering ∧ (t.record n).progress = 1) ∧
      ((s.record n).status = .recovering → (s.record n).progress + 1 ≠ (s.cfg.entry n).recovery →
        (t.record n).status = .recovering ∧ (t.record n).progress = (s.record n).progress + 1) ∧
      (∀ m, m ≠ n → t.record m = s.record m ∧ t.speedKind m = s.speedKind m ∧ t.aspectKind m = s.aspectKind m) ∧
      AsksTaken s (own ++ staleCleared s n) x ∧
      t.msg = x.msg ∧ t.status = x.status ∧
      (s.kind n = .speed → ∀ q ∈ own, q.code = 1088 + n) ∧
      (s.kind n = .aspect → ∀ q ∈ own, q.code = 1120 + (s.cfg.entry n).system ∨ q.code = 1124) ∧
      (s.kind n = .select → ∀ q ∈ own, q.code = 1124) ∧
      t = { s with mem := t.mem, path := t.path, recs := t.recs, speed := { s.speed with kinds := t.speed.kinds },
                   aspect := t.aspect, msg := t.msg, status := t.status, lines := t.lines,
                   freeCount := t.freeCount } ∧
      (s.kind n = .plain → own = [] ∧
        (recovers → t.msg = (s.msg.clear s.ctl.ms (1024 + n)).1) ∧ (¬recovers → t.msg = s.msg) ∧
        t = { s with mem := t.mem, path := t.path, recs := t.recs, msg := t.msg, lines := t.lines })

/-- R83 to R90: an accepted SPEED version sets the presented words, the previous values and the class from the clamped,
slewed and displayed speed. R99 to R101: it compares the clamped speed with the axle speed, where there is one, and moves
the plausibility state and its runs; entering DISAGREE raises message 1088 + n, leaving it clears that message; with the clear of the stale message on a return to VALID
(R70) these are the event's requests, taken in an order that is a free choice (log 8). Nothing else changes. -/
def Obligations.SpeedAcceptanceSetsPresentedWords : Prop :=
  ∀ (s : State) (a : Addr) (w : Word) (n : Nat) (va vp vt : Word), ShapeInv s →
    AcceptsVersion s a w n [va, vp, vt] → s.kind n = .speed →
    let st := s.cfg.speedSettings n
    let k := s.speedKind n
    let vc := min va.toNat (16 * st.scaleEnd)
    let vs := slewed st k.previous vc s.ctl.ms
    let d := displayedSpeed st k.previous vs
    let cls := supervision st vc vp.toNat vt.toNat
    ∃ t pl own x, exec .arbiterGrant s = .next t ∧ (t.speedKind n).plausible = pl ∧
      (t.speedKind n).previous = some { slewed := vs, displayed := d, time := s.ctl.ms } ∧
      (t.speedKind n).presented = some
        { p0 := BitVec.ofNat 16 d
          p1 := BitVec.ofNat 16 ((if vs ≠ vc then 512 else 0) + (if 16 * st.scaleEnd < va.toNat then 256 else 0) +
            16 * (match pl with
                  | .noReference => 0
                  | .agree => 1
                  | .disagree => 2) + cls)
          p2 := BitVec.ofNat 16 (1000 * vs / (16 * st.scaleEnd))
          cls := cls } ∧
      (∀ m, m ≠ n → t.speedKind m = s.speedKind m) ∧
      AsksTaken s (own ++ staleCleared s n) x ∧ t.msg = x.msg ∧ t.status = x.status ∧
      t = { s with mem := t.mem, path := t.path, recs := t.recs, speed := { s.speed with kinds := t.speed.kinds },
                   msg := t.msg, status := t.status, lines := t.lines, freeCount := t.freeCount } ∧
      (let runs := fun (p : Plausibility) (dis agr : Nat) =>
         pl = p ∧ (t.speedKind n).disagreeRun = dis ∧ (t.speedKind n).agreeRun = agr
       let silent := own = []
       let clears := own = [.clear (1088 + n)]
       (s.speed.axle.pulses = 0 ∨ s.speed.axle.vx = none →
         runs .noReference k.disagreeRun k.agreeRun ∧ (k.plausible = .disagree → clears) ∧
           (k.plausible ≠ .disagree → silent)) ∧
       ∀ vx, s.speed.axle.pulses ≠ 0 → s.speed.axle.vx = some vx →
         let difference := max vc vx - min vc vx
         let agrees := difference ≤ max (16 * st.tolAbs) (vx * st.tolProp / 1000)
         let message : RaiseRequest :=
           { code := 1088 + n, cls := 1, source := .interposer, needsAck := true,
             marker := BitVec.ofNat 8 (min 255 (difference / 16)) }
         (k.plausible ≠ .disagree →
           (agrees → runs .agree 0 k.agreeRun ∧ silent) ∧
           (¬agrees → k.disagreeRun + 1 ≠ st.runLength → runs .agree (k.disagreeRun + 1) k.agreeRun ∧ silent) ∧
           (¬agrees → k.disagreeRun + 1 = st.runLength → runs .disagree 0 0 ∧ own = [.raise message])) ∧
         (k.plausible = .disagree →
           (¬agrees → runs .disagree k.disagreeRun 0 ∧ silent) ∧
           (agrees → k.agreeRun + 1 ≠ st.runLength → runs .disagree k.disagreeRun (k.agreeRun + 1) ∧ silent) ∧
           (agrees → k.agreeRun + 1 = st.runLength → runs .agree 0 0 ∧ clears)))

/-- R106, Table 6.1: the entries of an aspect table. R110, R111, R112: an accepted ASPECT version shows its aspect at once,
except an upgrade, which is confirmed first; on a downgrade to an aspect with the acknowledgement-on-entry flag the system's
message is raised, and the awaiting flag is set where the raise is taken. R119: the acceptance that makes the record VALID
completes a changeover that waits for its system, which clears message 1124, and the selection state moves in no other way.
With the clear of the stale message on a return to VALID (R70) these are the event's requests, taken in an order that is a
free choice (log 8). Nothing else changes. -/
def Obligations.AspectAcceptanceShowsOrConfirms : Prop :=
  (∀ (c : Sections) (y : Nat), c.confirmCount y = (at0 c.aspects (33 * y)).toNat / 8192 % 4 ∧
    ∀ code, (∀ e, c.findAspect y code = some e → AspectEntryIs c y code e) ∧
      (c.findAspect y code = none → ∀ e, ¬AspectEntryIs c y code e)) ∧
  ∀ (s : State) (a : Addr) (w : Word) (n : Nat) (words : List Word) (e : AspectEntry), ShapeInv s →
    AcceptsVersion s a w n words → s.kind n = .aspect →
    s.cfg.findAspect (s.cfg.entry n).system ((at0 words 0).toNat % 256) = some e →
    let sys := (s.cfg.entry n).system
    let x : Shown :=
      { code := e.code, rank := e.rank, symbol := e.symbol, flash := decide ((at0 words 1).toNat = 1) }
    let shows := fun t : State => (t.aspectKind n).shown = some x ∧ (t.aspectKind n).upgrade = none
    let ackMessage : RaiseRequest :=
      { code := 1120 + sys, cls := 0, source := .interposer, needsAck := true, marker := BitVec.ofNat 8 e.code }
    ∃ t own y, exec .arbiterGrant s = .next t ∧ (∀ m, m ≠ n → t.aspectKind m = s.aspectKind m) ∧
      t.aspect.select = (if completesChangeover s t n = true then
          { inForce := some sys, requested := some sys, changeover := false, timer := .stopped }
        else s.aspect.select) ∧
      AsksTaken s (own ++ (if completesChangeover s t n = true then [.clear 1124] else []) ++ staleCleared s n) y ∧
      t.msg = y.msg ∧ t.status = y.status ∧
      (t.aspectKind n).awaiting = ((s.aspectKind n).awaiting || y.took) ∧
      t = { s with mem := t.mem, path := t.path, recs := t.recs, aspect := t.aspect, msg := t.msg,
                   status := t.status, lines := t.lines, freeCount := t.freeCount } ∧
      ((s.aspectKind n).shown = none → shows t ∧ own = []) ∧
      ∀ old, (s.aspectKind n).shown = some old →
        (e.rank < old.rank → shows t ∧ (e.onEntry = true → own = [.raise ackMessage]) ∧
          (e.onEntry = false → own = [])) ∧
        (e.rank = old.rank → shows t ∧ own = []) ∧
        (old.rank < e.rank → own = [] ∧
          (s.cfg.confirmCount sys = 1 → shows t) ∧
          (1 < s.cfg.confirmCount sys →
            (∀ u, (s.aspectKind n).upgrade = some u → u.code = e.code →
              (u.count + 1 = s.cfg.confirmCount sys → shows t) ∧
              (u.count + 1 ≠ s.cfg.confirmCount sys → (t.aspectKind n).shown = some old ∧
                (t.aspectKind n).upgrade = some { code := e.code, count := u.count + 1 })) ∧
            ((∀ u, (s.aspectKind n).upgrade = some u → u.code ≠ e.code) →
              (t.aspectKind n).shown = some old ∧
                (t.aspectKind n).upgrade = some { code := e.code, count := 1 })))

/-- R118, R120: the four cases of a SELECT acceptance with requested system q; ending a changeover clears message 1124. With
the clear of the stale message on a return to VALID (R70) this is the event's request, and the order of the two is a free
choice (log 8). Nothing else changes. -/
def Obligations.SelectAcceptanceMovesTheSelection : Prop :=
  ∀ (s : State) (a : Addr) (w : Word) (n : Nat) (q : Word), ShapeInv s → AcceptsVersion s a w n [q] →
    s.kind n = .select →
    let x := s.aspect.select
    ∃ t own y, exec .arbiterGrant s = .next t ∧ t.aspect.kinds = s.aspect.kinds ∧
      AsksTaken s (own ++ staleCleared s n) y ∧ t.msg = y.msg ∧ t.status = y.status ∧
      t = { s with mem := t.mem, path := t.path, recs := t.recs, aspect := t.aspect, msg := t.msg,
                   status := t.status, lines := t.lines, freeCount := t.freeCount } ∧
      (let ends := fun f : Nat =>
         t.aspect.select = { inForce := some f, requested := some f, changeover := false, timer := .stopped } ∧
           (x.changeover = true → own = [.clear 1124]) ∧ (x.changeover = false → own = [])
       (x.inForce = none →
         t.aspect.select = { x with inForce := some q.toNat, requested := some q.toNat } ∧ own = []) ∧
       ∀ f, x.inForce = some f →
         (q.toNat = f → ends f) ∧
         (q.toNat ≠ f → s.systemValid q.toNat = true → ends q.toNat) ∧
         (q.toNat ≠ f → s.systemValid q.toNat = false →
           t.aspect.select = { x with
             requested := some q.toNat
             changeover := true
             timer := if x.changeover = true ∧ x.requested = some q.toNat then x.timer
                      else .running (s.ctl.ms + BitVec.ofNat 32 (1000 * (at0 s.cfg.part 3).toNat)) } ∧
           own = []))

/-- R61, R69, R74: the expiry of a freshness timer by the record's status; the timer starts again for a full period. An
expiry presented before the timer's moment changes nothing (the model's choice, log 4, 5). -/
def Obligations.FreshnessExpiryMakesRecordsStale : Prop :=
  ∀ (s : State) (n : Nat), ShapeInv s → n < 24 →
    let again : Option Time := some (s.ctl.ms + BitVec.ofNat 32 (100 * (s.cfg.entry n).freshness))
    let staleMessage : RaiseRequest :=
      { code := 1024 + n, cls := (s.cfg.entry n).staleClass, source := .interposer,
        needsAck := (s.cfg.entry n).staleNeedsAck, marker := 1#8 }
    let discarded := fun t : State =>
      t.speedKind n = (if s.kind n = .speed then
          { s.speedKind n with previous := none, disagreeRun := 0, agreeRun := 0, presented := none }
        else s.speedKind n) ∧
      t.aspectKind n = (if s.kind n = .aspect then { s.aspectKind n with shown := none, upgrade := none }
        else s.aspectKind n)
    (∀ m, (s.record n).timer = some m → (s.ctl.ms - m).toNat < 2147483648 → (s.record n).status ≠ .barred →
      ∃ t, exec (.freshnessExpiry n) s = .next t ∧
        (∀ i, i ≠ n → t.record i = s.record i ∧ t.speedKind i = s.speedKind i ∧ t.aspectKind i = s.aspectKind i) ∧
        ((s.record n).status = .stale → t.record n = { s.record n with timer := again } ∧
          t = { s with recs := t.recs, lines := t.lines }) ∧
        ((s.record n).status ≠ .stale →
          t.record n = { s.record n with status := .stale, progress := 0, timer := again } ∧ discarded t ∧
          t = { s with recs := t.recs, speed := { s.speed with kinds := t.speed.kinds },
                       aspect := { s.aspect with kinds := t.aspect.kinds }, msg := t.msg, status := t.status,
                       lines := t.lines }) ∧
        ((s.record n).status = .empty ∨ (s.record n).status = .valid →
          t.msg = (s.msg.raise s.ctl.ms staleMessage).1 ∧
          t.status = afterRaise (s.msg.raise s.ctl.ms staleMessage).2
            { s.status with notices := { s.status.notices with leftValid := true } }) ∧
        ((s.record n).status = .recovering →
          ((∃ e ∈ s.msg.entries, e.code = 1024 + n) → t.msg = s.msg ∧ t.status = s.status) ∧
          ((∀ e ∈ s.msg.entries, e.code ≠ 1024 + n) → t.msg = (s.msg.raise s.ctl.ms staleMessage).1 ∧
            t.status = afterRaise (s.msg.raise s.ctl.ms staleMessage).2 s.status))) ∧
    ((∀ m, (s.record n).timer = some m → 2147483648 ≤ (s.ctl.ms - m).toNat) →
      ∃ t, exec (.freshnessExpiry n) s = .next t ∧ t = { s with lines := t.lines })

/-- R67, R161: RELEASE of a BARRED record in RUN or RETAIN makes it EMPTY with no refusals and no last sequence, starts
its timer and clears its barred message; elsewhere, and of a record not BARRED, it is refused with NOT_BARRED. -/
def Obligations.ReleaseReturnsABarredRecordToEmpty : Prop :=
  ∀ (s : State) (f : CommandFrame), ShapeInv s → LinkTakes s f.target → FramedRight 5#8 f → f.arg.toNat ≤ 23 →
    (s.inService = true → (s.record f.arg.toNat).status = .barred →
      ∃ t, exec (.release f) s = .next t ∧
        t.record f.arg.toNat = { s.record f.arg.toNat with
          status := .empty, progress := 0, refusals := 0, lastSeq := none
          timer := some (s.ctl.ms + BitVec.ofNat 32 (100 * (s.cfg.entry f.arg.toNat).freshness)) } ∧
        (∀ m, m ≠ f.arg.toNat → t.record m = s.record m) ∧
        t.msg = (s.msg.clear s.ctl.ms (1056 + f.arg.toNat)).1 ∧ LinkDone s t 0x0E05#16 ∧
        t = { s with recs := t.recs, msg := t.msg, link := t.link, lines := t.lines }) ∧
    (s.inService = false ∨ (s.record f.arg.toNat).status ≠ .barred →
      ∃ t, exec (.release f) s = .next t ∧ LinkDone s t 0x7E05#16 ∧
        t = { s with link := t.link, lines := t.lines })

/-! ### Speeds and aspects, as functions -/

/-- R79, Table 5.1: the speed settings. R85, R86: the slewed speed and the displayed speed, by the previous values and the step limit, the nearest whole speed
and the hysteresis; R87: the needle. With them, under a scale end above 0: the slewed speed lies between the previous one
and the clamped speed and never exceeds the scale end in steps, the displayed speed never exceeds the scale end, and the
needle never 1000. -/
def Obligations.DisplayNeverExceedsTheScale : Prop :=
  (∀ (c : Sections) (n : Nat), SpeedSettingsIs c n (c.speedSettings n)) ∧
  (∀ (st : SpeedSettings) (prev : Option Previous) (vc vs : Nat) (now : Time),
    needle st vs = 1000 * vs / (16 * st.scaleEnd) ∧
    (prev = none → slewed st prev vc now = vc ∧
      displayedSpeed st prev vs = if vs = 0 then 0 else (vs + 8) / 16) ∧
    ∀ p, prev = some p →
      let step := max 1 (16 * st.slewLimit * min (now - p.time).toNat 2000 / 1000)
      let nearest := (vs + 8) / 16
      (p.slewed ≤ vc → slewed st prev vc now = min vc (p.slewed + step)) ∧
      (vc < p.slewed → slewed st prev vc now = max vc (p.slewed - step)) ∧
      (vs = 0 → displayedSpeed st prev vs = 0) ∧
      (0 < vs →
        (p.displayed + 2 ≤ nearest ∨ nearest + 2 ≤ p.displayed → displayedSpeed st prev vs = nearest) ∧
        (nearest = p.displayed + 1 → displayedSpeed st prev vs =
          if 16 * p.displayed + 8 + st.hysteresis ≤ vs then nearest else p.displayed) ∧
        (nearest + 1 = p.displayed → displayedSpeed st prev vs =
          if vs + 8 + st.hysteresis ≤ 16 * p.displayed then nearest else p.displayed) ∧
        (nearest = p.displayed → displayedSpeed st prev vs = p.displayed))) ∧
  ∀ (st : SpeedSettings) (prev : Option Previous) (va : Nat) (now : Time), 0 < st.scaleEnd →
    (∀ p, prev = some p → p.slewed ≤ 16 * st.scaleEnd ∧ p.displayed ≤ st.scaleEnd) →
    let vc := min va (16 * st.scaleEnd)
    let vs := slewed st prev vc now
    vs ≤ 16 * st.scaleEnd ∧ displayedSpeed st prev vs ≤ st.scaleEnd ∧ needle st vs ≤ 1000 ∧
      (vs = 16 * st.scaleEnd → needle st vs = 1000) ∧
      ∀ p, prev = some p → (p.slewed ≤ vc → p.slewed ≤ vs ∧ vs ≤ vc) ∧ (vc < p.slewed → vc ≤ vs ∧ vs ≤ p.slewed)

/-- R89, Table 5.3: the supervision class by its conditions, with the margins of R88. -/
def Obligations.SupervisionClassByTheTable : Prop :=
  ∀ (st : SpeedSettings) (vc vp vt : Nat),
    let mw := max (16 * st.warnAbs) (vp * st.warnProp / 1000)
    let mi := max (16 * st.intAbs) (vp * st.intProp / 1000)
    st.warnAbs ≤ st.intAbs → st.warnProp ≤ st.intProp →
    mw ≤ mi ∧
    (supervision st vc vp vt = 0 ↔ vp = 65535) ∧
    (supervision st vc vp vt = 2 ↔ vp ≠ 65535 ∧ vc ≤ vp ∧ vt ≠ 65535 ∧ vt < vp) ∧
    (supervision st vc vp vt = 1 ↔ vp ≠ 65535 ∧ vc ≤ vp ∧ (vt = 65535 ∨ vp ≤ vt)) ∧
    (supervision st vc vp vt = 3 ↔ vp ≠ 65535 ∧ vp < vc ∧ vc ≤ vp + mw) ∧
    (supervision st vc vp vt = 4 ↔ vp ≠ 65535 ∧ vp + mw < vc ∧ vc ≤ vp + mi) ∧
    (supervision st vc vp vt = 5 ↔ vp ≠ 65535 ∧ vp + mi < vc)

/-- R115: the effective aspect of a system. R123: the main aspect is F's, and during a changeover that of F or Q with the
lower rank, Q's where the ranks are equal. R115, R118, R123: the main rank never exceeds the effective rank of the system in
force nor, during a changeover, that of the requested system; and during a changeover in service the main aspect is the
requested system's stale symbol at rank 0, steady. R90, R114, R124: the presented words of each kind. Out of service, which
of two ASPECT records of one system counts, and which records the any-awaiting flag counts, is the model's choice (log 33). -/
def Obligations.MainAspectIsNeverMorePermissive : Prop :=
  (∀ s : State, (∀ y, EffectiveIs s y (s.effective y)) ∧
    (∀ n ws, s.presented n = some ws ↔ PresentedIs s n ws) ∧
    ∀ f q, s.aspect.select.inForce = some f → s.aspect.select.requested = some q →
      (s.aspect.select.changeover = false → s.mainAspect = some (s.effective f)) ∧
      (s.aspect.select.changeover = true →
        ((s.effective f).rank < (s.effective q).rank → s.mainAspect = some (s.effective f)) ∧
        ((s.effective q).rank ≤ (s.effective f).rank → s.mainAspect = some (s.effective q)))) ∧
  ∀ (s : State) (f q : Nat) (m : Effective), SelectionInv s → s.aspect.select.inForce = some f →
    s.aspect.select.requested = some q → s.mainAspect = some m →
    m.rank ≤ (s.effective f).rank ∧
    (s.aspect.select.changeover = false → m = s.effective f ∧ m.source = f) ∧
    (s.aspect.select.changeover = true → m.rank ≤ (s.effective q).rank ∧
      (s.inService = true → m = { rank := 0, symbol := (s.cfg.aspectHeader q).toNat % 256, flash := false,
                                  source := q }))

/-! ### Timers, axle and standstill -/

/-- R121: the expiry of the changeover timer marks it expired, leaves the changeover active and raises 1124 with marker
4 × F + Q; without a running timer that has reached its moment nothing changes (the model's choice, log 4, 5). -/
def Obligations.ChangeoverExpiryRaisesItsMessage : Prop :=
  ∀ s : State,
    (∀ m f q, s.aspect.select.changeover = true → s.aspect.select.timer = .running m →
      (s.ctl.ms - m).toNat < 2147483648 → s.aspect.select.inForce = some f → s.aspect.select.requested = some q →
      let message : RaiseRequest :=
        { code := 1124, cls := 0, source := .interposer, needsAck := true, marker := BitVec.ofNat 8 (4 * f + q) }
      ∃ t, exec .changeoverTimerExpiry s = .next t ∧
        t.aspect = { s.aspect with select := { s.aspect.select with timer := .expired } } ∧
        t.msg = (s.msg.raise s.ctl.ms message).1 ∧
        t.status = afterRaise (s.msg.raise s.ctl.ms message).2 s.status ∧
        t = { s with aspect := t.aspect, msg := t.msg, status := t.status, lines := t.lines }) ∧
    ((s.aspect.select.changeover = false ∨ s.aspect.select.timer = .stopped ∨ s.aspect.select.timer = .expired ∨
        ∃ m, s.aspect.select.timer = .running m ∧ 2147483648 ≤ (s.ctl.ms - m).toNat) →
      ∃ t, exec .changeoverTimerExpiry s = .next t ∧ t = { s with lines := t.lines })

/-- R94, R95, R93: a rising edge is counted in the running window up to 65535; at the end of a window its count heads the
history of two, Vx is computed under the settings in effect, and the next window begins with count 0. An end presented
before the window has lasted its length changes nothing (the model's choice, log 4, 5, 30). -/
def Obligations.AxleWindowsCountAndGiveSpeed : Prop :=
  ∀ s : State,
    (∀ w, s.speed.axle.running = some w →
      ∃ t, exec .axlePulse s = .next t ∧
        t.speed = { s.speed with axle := { s.speed.axle with
          running := some { start := w.start, count := min 65535 (w.count + 1) } } } ∧
        t = { s with speed := t.speed, lines := t.lines }) ∧
    (s.speed.axle.running = none → ∃ t, exec .axlePulse s = .next t ∧ t = { s with lines := t.lines }) ∧
    (∀ w, s.speed.axle.running = some w → s.speed.axle.window ≤ (s.ctl.ms - w.start).toNat →
      ∃ t, exec .axleWindowEnd s = .next t ∧ t.speed.kinds = s.speed.kinds ∧
        t.speed.axle = { s.speed.axle with
          history := (w.count :: s.speed.axle.history).take 2
          vx := if s.speed.axle.pulses = 0 then none
                else some (min 65535 (w.count * s.speed.axle.circumference * 576 /
                  (s.speed.axle.pulses * s.speed.axle.window * 10)))
          running := some { start := s.ctl.ms, count := 0 } } ∧
        t = { s with speed := t.speed, lines := t.lines }) ∧
    ((∀ w, s.speed.axle.running = some w → (s.ctl.ms - w.start).toNat < s.speed.axle.window) →
      ∃ t, exec .axleWindowEnd s = .next t ∧ t = { s with lines := t.lines })

/-- R97, R161: standstill by its three cases, and ENTER_CONFIG by the part state and by standstill. R117: a running
changeover timer stops; an expired one stays expired (the model's choice, log 31). -/
def Obligations.EnterConfigNeedsStandstill : Prop :=
  ∀ (s : State) (f : CommandFrame), LinkTakes s f.target → FramedRight 1#8 f → f.arg = 0#8 →
    let standstill :=
      (s.speed.axle.pulses ≠ 0 ∧ s.speed.axle.history = [0, 0]) ∨
      (s.speed.axle.pulses = 0 ∧ ∀ n, n < 24 → s.kind n = .speed →
        (s.record n).status = .valid ∧ ∃ p, (s.speedKind n).presented = some p ∧ p.p0 = 0#16)
    let entered := ∃ t, exec (.enterConfig f) s = .next t ∧ t.ctl = { s.ctl with part := .config } ∧
      (∀ n, t.record n = { s.record n with timer := none }) ∧
      t.aspect = { s.aspect with select := { s.aspect.select with timer :=
        match s.aspect.select.timer with
        | .running _ => .stopped
        | .stopped => .stopped
        | .expired => .expired } } ∧
      LinkDone s t 0x0E01#16 ∧
      t = { s with ctl := t.ctl, recs := t.recs, aspect := t.aspect, link := t.link, lines := t.lines }
    (s.inService = true → standstill → entered) ∧ (s.ctl.part = .safe → entered) ∧
    (s.inService = true → ¬standstill →
      ∃ t, exec (.enterConfig f) s = .next t ∧ LinkDone s t 0x6E01#16 ∧
        t = { s with link := t.link, lines := t.lines }) ∧
    (s.ctl.part = .config →
      ∃ t, exec (.enterConfig f) s = .next t ∧ LinkDone s t 0x0E01#16 ∧
        t = { s with link := t.link, lines := t.lines })

/-! ### The ACK input -/

/-- R139: the debouncer's moves on the level of the ACK line, and on 30 ms of release; it takes no account of the line in
POWER_UP. R140: after 30 ms of assertion a press is recognized; in RUN it acknowledges the head that waits and has been
head for the settle time and is counted late in every other case; in any other state it is discarded. A command presented
before its 30 ms have passed changes nothing (the model's choice, log 4, 5). -/
def Obligations.AckInputIsDebouncedAndJudged : Prop :=
  (∀ s : State,
     (∃ t, exec .ackLineAsserted s = .next t ∧
       t.msg = { s.msg with
         ackLine := true
         debouncer := if s.ctl.part = .powerUp then s.msg.debouncer
                      else match s.msg.debouncer with
                           | .released => .pressing s.ctl.ms
                           | .pressing m => .pressing m
                           | .pressed => .pressed
                           | .releasing _ => .pressed } ∧
       t = { s with msg := t.msg, lines := t.lines }) ∧
     (∃ t, exec .ackLineReleased s = .next t ∧
       t.msg = { s.msg with
         ackLine := false
         debouncer := if s.ctl.part = .powerUp then s.msg.debouncer
                      else match s.msg.debouncer with
                           | .released => .released
                           | .pressing _ => .released
                           | .pressed => .releasing s.ctl.ms
                           | .releasing m => .releasing m } ∧
       t = { s with msg := t.msg, lines := t.lines }) ∧
     (∀ m, s.msg.debouncer = .releasing m → 30 ≤ (s.ctl.ms - m).toNat →
       ∃ t, exec .ackReleaseSettled s = .next t ∧ t.msg = { s.msg with debouncer := .released } ∧
         t = { s with msg := t.msg, lines := t.lines }) ∧
     ((∀ m, s.msg.debouncer = .releasing m → (s.ctl.ms - m).toNat < 30) →
       ∃ t, exec .ackReleaseSettled s = .next t ∧ t = { s with lines := t.lines })) ∧
  (∀ (s : State) (m : Time), s.msg.debouncer = .pressing m →
     (30 ≤ (s.ctl.ms - m).toNat →
       (∀ h rest, s.ctl.part = .run → s.msg.entries = h :: rest → h.state ≠ .acked →
         (at0 s.cfg.part 5).toNat ≤ (s.ctl.ms - h.headSince).toNat →
         ∃ t, exec .ackPress s = .next t ∧
           t.msg = { (s.msg.ack s.ctl.ms h.code).1 with debouncer := .pressed } ∧
           (∀ n, t.aspectKind n =
             if n < s.aspect.kinds.length ∧ 1120 ≤ h.code ∧ h.code ≤ 1123 ∧ s.kind n = .aspect ∧
               (s.cfg.entry n).system = h.code - 1120 then
               { s.aspectKind n with awaiting := false }
             else s.aspectKind n) ∧
           t = { s with msg := t.msg, aspect := { s.aspect with kinds := t.aspect.kinds }, lines := t.lines }) ∧
       (s.ctl.part = .run →
         (∀ h rest, s.msg.entries = h :: rest →
           h.state = .acked ∨ (s.ctl.ms - h.headSince).toNat < (at0 s.cfg.part 5).toNat) →
         ∃ t, exec .ackPress s = .next t ∧ t.msg = { s.msg with debouncer := .pressed } ∧
           t.status = { s.status with counts := { s.status.counts with
             lateAck := if s.status.counts.lateAck < 255 then s.status.counts.lateAck + 1 else 255 } } ∧
           t = { s with msg := t.msg, status := t.status, lines := t.lines }) ∧
       (s.ctl.part ≠ .run →
         ∃ t, exec .ackPress s = .next t ∧ t.msg = { s.msg with debouncer := .pressed } ∧
           t = { s with msg := t.msg, lines := t.lines })) ∧
     ((s.ctl.ms - m).toNat < 30 → ∃ t, exec .ackPress s = .next t ∧ t = { s with lines := t.lines }))

/-! ### The message list -/

/-- R133: a RAISE of a code that is present. -/
def Obligations.RaiseOfAPresentCodeRaisesItAgain : Prop :=
  ∀ (s : State) (now : Time) (r : RaiseRequest) (e : Entry), ListInv s → e ∈ s.msg.entries → e.code = r.code →
    let m := (s.msg.raise now r).1
    (s.msg.raise now r).2 = .raisedAgain ∧
      ListBecomes s.msg m now
        ({ e with count := if e.count = 255 then 255 else e.count + 1, marker := r.marker,
                  state := if e.needsAck then .unacked else .acked } :: othersOf r.code s.msg.entries) ∧
      m = { s.msg with entries := m.entries } ∧ m.entries.length = s.msg.entries.length

/-- R134, R131: a RAISE of a code that is not present creates an entry, evicts the last entry of a full list for one that
sorts before it, or is dropped; a creation that finds the count at its largest value renumbers the entries first, and
their order stays. -/
def Obligations.RaiseOfANewCodeCreatesEvictsOrDrops : Prop :=
  (∀ (s : State) (now : Time) (r : RaiseRequest), ListInv s → (∀ e ∈ s.msg.entries, e.code ≠ r.code) →
     s.msg.nextOrdinal < 4294967295 →
     let m := (s.msg.raise now r).1
     let created : Entry :=
       { code := r.code, cls := r.cls, source := r.source, needsAck := r.needsAck,
         state := if r.needsAck then .unacked else .acked, marker := r.marker, raiseTime := now,
         ordinal := s.msg.nextOrdinal, count := 1, headSince := now }
     (s.msg.entries.length < 32 → (s.msg.raise now r).2 = .created ∧
       ListBecomes s.msg m now (created :: s.msg.entries) ∧
       m = { s.msg with entries := m.entries, nextOrdinal := s.msg.nextOrdinal + 1 }) ∧
     (∀ last, s.msg.entries.length = 32 → s.msg.entries.getLast? = some last →
       (r.cls < last.cls ∨ (r.cls = last.cls ∧ r.needsAck = true ∧ last.state = .acked) →
         (s.msg.raise now r).2 = .evicted ∧
         ListBecomes s.msg m now (created :: s.msg.entries.dropLast) ∧
         m = { s.msg with entries := m.entries, nextOrdinal := s.msg.nextOrdinal + 1 }) ∧
       (¬(r.cls < last.cls ∨ (r.cls = last.cls ∧ r.needsAck = true ∧ last.state = .acked)) →
         (s.msg.raise now r).2 = .dropped ∧ m = s.msg))) ∧
  (∀ (s : State) (now : Time) (r : RaiseRequest), ListInv s → (∀ e ∈ s.msg.entries, e.code ≠ r.code) →
     s.msg.nextOrdinal = 4294967295 → s.msg.entries.length < 32 →
     let m := (s.msg.raise now r).1
     (s.msg.raise now r).2 = .created ∧ m.nextOrdinal = s.msg.entries.length + 1 ∧
       (othersOf r.code m.entries).map Entry.code = s.msg.entries.map Entry.code ∧
       (∃ e ∈ m.entries, e.code = r.code ∧ e.ordinal = s.msg.entries.length) ∧
       ∀ x ∈ m.entries, x.ordinal ≤ s.msg.entries.length)

/-- R135, R136, R142: a CLEAR and an ACK by the state of the entry with their code; a removed entry goes on top of the
recall stack, which keeps ten. For the codes 1120 to 1123 an unacknowledged entry in either state is removed (log 22). -/
def Obligations.ClearAndAckActByTheEntryState : Prop :=
  (∀ (s : State) (now : Time) (code : Nat), ListInv s →
     let m := (s.msg.clear now code).1
     ((∀ e ∈ s.msg.entries, e.code ≠ code) → (s.msg.clear now code).2 = .absent ∧ m = s.msg) ∧
     ∀ e ∈ s.msg.entries, e.code = code → (s.msg.clear now code).2 = .found ∧
       (e.state = .unacked → m.entries.map Entry.code = s.msg.entries.map Entry.code ∧
         ListBecomes s.msg m now ({ e with state := .clearedUnacked } :: othersOf code s.msg.entries) ∧
         m = { s.msg with entries := m.entries }) ∧
       (e.state = .acked → ListBecomes s.msg m now (othersOf code s.msg.entries) ∧
         m = { s.msg with
           entries := m.entries
           recalls := ({ code := e.code, cls := e.cls, marker := e.marker, raiseTime := e.raiseTime,
                         removeTime := now } :: s.msg.recalls).take 10 }) ∧
       (e.state = .clearedUnacked → m = s.msg)) ∧
  (∀ (s : State) (now : Time) (code : Nat), ListInv s →
     let m := (s.msg.ack now code).1
     let removed := fun e : Entry => ListBecomes s.msg m now (othersOf code s.msg.entries) ∧
       m = { s.msg with
         entries := m.entries
         recalls := ({ code := e.code, cls := e.cls, marker := e.marker, raiseTime := e.raiseTime,
                       removeTime := now } :: s.msg.recalls).take 10 }
     ((∀ e ∈ s.msg.entries, e.code ≠ code) → (s.msg.ack now code).2 = .late ∧ m = s.msg) ∧
     ∀ e ∈ s.msg.entries, e.code = code →
       (e.state = .acked → (s.msg.ack now code).2 = .late ∧ m = s.msg) ∧
       (1120 ≤ code → code ≤ 1123 → e.state ≠ .acked →
         (s.msg.ack now code).2 = .system (code - 1120) ∧ removed e) ∧
       (code < 1120 ∨ 1123 < code → e.state = .unacked → (s.msg.ack now code).2 = .acknowledged ∧
         ListBecomes s.msg m now ({ e with state := .acked } :: othersOf code s.msg.entries) ∧
         m = { s.msg with entries := m.entries }) ∧
       (code < 1120 ∨ 1123 < code → e.state = .clearedUnacked →
         (s.msg.ack now code).2 = .acknowledged ∧ removed e))

/-! ### Posts -/

/-- R29, R126, Table 7.1: a message word written through a ready port reaches the memory and replaces the stage of its
cell; nothing else of the message unit changes. R2, R4, R9: a post is the desk computer's write carried as far as the
port allows (the model's reading of the rows, log 14): its arrival, and where it waits and Table 1.2 gives it the free
port, its grant and its completion. R29: a post that had to wait is written and captured as one serving at its grant (log 13),
and has the effect of the same post through a ready port. -/
def Obligations.MessageWordIsStaged : Prop :=
  (∀ (s : State) (a : Addr) (w : Word) (k : Nat), GrantsUpstream s (.write a w) → s.inService = true →
     s.cfg.classify .upstream a = .post k →
     ∃ u v, exec .arbiterGrant s = .next u ∧ WrittenAt s u (.write a w) a w ∧
       (s.msg.stages.length = 4 → ∀ c, k = 2 * c → c < 4 →
         u.stage c = some { code := w.toNat % 2048, cls := w.toNat / 4096 % 4, needsAck := w.getLsbD 15 } ∧
         (∀ d, d ≠ c → u.stage d = s.stage d) ∧
         u = { s with mem := u.mem, path := u.path, msg := { s.msg with stages := u.msg.stages }, lines := u.lines }) ∧
       exec .upstreamColumnDone u = .next v ∧ v = { u with path := v.path, lines := v.lines } ∧
       exec (.postMessageWord a w) { s with path := { s.path with up := .idle } } = .next v) ∧
  (∀ (s : State) (a : Addr) (w : Word) (c : Nat), s.msg.stages.length = 4 → PortReady s → s.inService = true →
     s.cfg.classify .upstream a = .post (2 * c) → c < 4 →
     ∃ t, exec (.postMessageWord a w) s = .next t ∧ DeskWritten s t a w ∧
       t.stage c = some { code := w.toNat % 2048, cls := w.toNat / 4096 % 4, needsAck := w.getLsbD 15 } ∧
       (∀ d, d ≠ c → t.stage d = s.stage d) ∧
       t = { s with mem := t.mem, path := t.path, msg := { s.msg with stages := t.msg.stages }, lines := t.lines }) ∧
  (∀ (s t : State) (a : Addr) (w : Word), s.path.up = .idle → exec (.upstreamArrival (.write a w)) s = .next t →
     (GrantsUpstream t (.write a w) →
       ∀ u v, exec .arbiterGrant t = .next u → exec .upstreamColumnDone u = .next v →
         exec (.postMessageWord a w) s = .next v) ∧
     (t.path.port.holder ≠ .free ∨ t.winner ≠ .upstream → exec (.postMessageWord a w) s = .next t) ∧
     (∀ m i, w = m ++ (i ++ 1#4 : BitVec 8) → exec (.postRaise a m i) s = exec (.postMessageWord a w) s) ∧
     (∀ m i, w = m ++ (i ++ 2#4 : BitVec 8) → exec (.postClear a m i) s = exec (.postMessageWord a w) s) ∧
     (∀ m i, w = m ++ (i ++ 3#4 : BitVec 8) → exec (.postAck a m i) s = exec (.postMessageWord a w) s) ∧
     (∀ m i x, w = m ++ (i ++ x : BitVec 8) → exec (.badPost a m i x) s = exec (.postMessageWord a w) s))

/-- R127, R128, R134, R135, R136: an action word written through a ready port reaches the memory and empties the stage;
a bad post (an action field of 0 or 4 to 15 among them) is counted and does nothing else, and any other performs its
action with the staged code. A RAISE that evicts or is dropped is counted and noticed (R134). One command carries the
arrival, the grant and the completion of the write (the model's reading of the rows, log 14). -/
def Obligations.ActionWordsPerformOrAreBad : Prop :=
  (∀ (s : State) (a : Addr) (marker : Byte) (ignored : BitVec 4) (c : Nat), s.msg.stages.length = 4 → PortReady s →
     s.inService = true → s.cfg.classify .upstream a = .post (2 * c + 1) → c < 4 →
     let emptied := fun t : State => t.stage c = none ∧ (∀ d, d ≠ c → t.stage d = s.stage d) ∧
       t = { s with mem := t.mem, path := t.path, aspect := { s.aspect with kinds := t.aspect.kinds }, msg := t.msg,
                    status := t.status, lines := t.lines }
     let bad := fun t : State => t.msg = { s.msg with stages := t.msg.stages } ∧ t.aspect = s.aspect ∧
       t.status = { s.status with counts := { s.status.counts with
         badPost := if s.status.counts.badPost < 255 then s.status.counts.badPost + 1 else 255 } }
     (∃ t, exec (.postRaise a marker ignored) s = .next t ∧ DeskWritten s t a (marker ++ (ignored ++ 1#4 : BitVec 8)) ∧
       emptied t ∧
       (s.stage c = none → bad t) ∧
       ∀ st, s.stage c = some st →
         (st.code = 0 ∨ 1023 < st.code ∨ st.cls < (at0 s.cfg.messages c).toNat % 4 → bad t) ∧
         (1 ≤ st.code → st.code ≤ 1023 → (at0 s.cfg.messages c).toNat % 4 ≤ st.cls →
           t.aspect = s.aspect ∧
           let message : RaiseRequest :=
             { code := st.code, cls := st.cls, source := .postCell c, needsAck := st.needsAck, marker := marker }
           t.msg = { (s.msg.raise s.ctl.ms message).1 with stages := t.msg.stages } ∧
           t.status = afterRaise (s.msg.raise s.ctl.ms message).2 s.status)) ∧
     (∃ t, exec (.postClear a marker ignored) s = .next t ∧ DeskWritten s t a (marker ++ (ignored ++ 2#4 : BitVec 8)) ∧
       emptied t ∧
       (s.stage c = none → bad t) ∧
       ∀ st, s.stage c = some st →
         (st.code = 0 ∨ 1023 < st.code → bad t) ∧
         (1 ≤ st.code → st.code ≤ 1023 → t.aspect = s.aspect ∧
           t.msg = { (s.msg.clear s.ctl.ms st.code).1 with stages := t.msg.stages } ∧
           ((∃ e ∈ s.msg.entries, e.code = st.code) → t.status = s.status) ∧
           ((∀ e ∈ s.msg.entries, e.code ≠ st.code) →
             t.status = { s.status with counts := { s.status.counts with
               strayClear := if s.status.counts.strayClear < 255 then s.status.counts.strayClear + 1 else 255 } }))) ∧
     ∃ t, exec (.postAck a marker ignored) s = .next t ∧ DeskWritten s t a (marker ++ (ignored ++ 3#4 : BitVec 8)) ∧
       emptied t ∧
       (s.stage c = none → bad t) ∧
       ∀ st, s.stage c = some st →
         (st.code = 0 ∨ 1125 < st.code → bad t) ∧
         (1 ≤ st.code → st.code ≤ 1125 →
           t.msg = { (s.msg.ack s.ctl.ms st.code).1 with stages := t.msg.stages } ∧
           ((s.msg.ack s.ctl.ms st.code).2 ≠ .late → t.status = s.status) ∧
           ((s.msg.ack s.ctl.ms st.code).2 = .late →
             t.status = { s.status with counts := { s.status.counts with
               lateAck := if s.status.counts.lateAck < 255 then s.status.counts.lateAck + 1 else 255 } }) ∧
           ∀ n, n < s.aspect.kinds.length → (t.aspectKind n).awaiting =
             ((s.aspectKind n).awaiting && !decide ((s.msg.ack s.ctl.ms st.code).2 =
               .system (s.cfg.entry n).system ∧ s.kind n = .aspect)))) ∧
  (∀ (s : State) (a : Addr) (marker : Byte) (ignored action : BitVec 4) (c : Nat), s.msg.stages.length = 4 →
     PortReady s → s.inService = true → s.cfg.classify .upstream a = .post (2 * c + 1) → c < 4 →
     (action = 0#4 ∨ 4 ≤ action.toNat) →
     ∃ t, exec (.badPost a marker ignored action) s = .next t ∧
       DeskWritten s t a (marker ++ (ignored ++ action : BitVec 8)) ∧ t.stage c = none ∧
       (∀ d, d ≠ c → t.stage d = s.stage d) ∧
       t.status = { s.status with counts := { s.status.counts with
         badPost := if s.status.counts.badPost < 255 then s.status.counts.badPost + 1 else 255 } } ∧
       t = { s with mem := t.mem, path := t.path, msg := { s.msg with stages := t.msg.stages }, status := t.status,
                    lines := t.lines })

/-! ### The maintenance link -/

/-- R155, Table 9.1: the control word of a request. R156: the link CRC. R154, R155: an address is acknowledged exactly where the link answers and it is the part's; a probe changes nothing
else, a transfer to an address that is not acknowledged is no request, and a request with bytes that is not framed right
is discarded with CHECK_FAIL, whatever it asks. -/
def Obligations.LinkTakesFramedTransfersAlone : Prop :=
  (∀ (b0 b1 b2 b3 : Byte) (rest : List Byte), let q := requestOf b0 b1 b2 b3 rest
     (q.isRead = true ↔ 128 ≤ b0.toNat) ∧ (q.checkFlag = true ↔ 64 ≤ b0.toNat % 128) ∧ q.count = b0.toNat % 8 + 1 ∧
     q.sectionNo = b1.toNat ∧ q.offset = 256 * b2.toNat + b3.toNat ∧
     q.byteCount = (if q.isRead = true then 4 else 4 + 2 * q.count) + (if q.checkFlag = true then 1 else 0)) ∧
  (∀ bs : List Byte, linkCrc bs = crc8ByRule 0xC3#8 bs) ∧
  (∀ target : BitVec 7, (writeAddressByte target).toNat = 2 * target.toNat ∧
     (readAddressByte target).toNat = 2 * target.toNat + 1) ∧
  (∀ (s : State) (target : BitVec 7),
     (∃ t, exec (.linkAddressProbe target) s = .next t ∧ (t.link.acked = true ↔ LinkTakes s target) ∧
       t = { s with link := { s.link with acked := t.link.acked }, lines := t.lines }) ∧
     (¬LinkTakes s target → ∀ (c : Instr) (x : LinkTransfer) (f : CommandFrame) (code : Byte),
       x.target = target → f.target = target →
       (c = .readRequest x ∨ c = .sectionWrite x ∨ c = .enterConfig f ∨ c = .resume f ∨ c = .store f ∨ c = .load f ∨
         c = .release f ∨ c = .clearRecall f ∨ c = .restart f ∨ c = .badCommand code f) →
       ∃ t, exec c s = .next t ∧ t.link = { s.link with acked := false } ∧
         t = { s with link := t.link, lines := t.lines })) ∧
  (∀ (s : State) (x : LinkTransfer), LinkTakes s x.target → x.bytes ≠ [] → (∀ q, ¬WellFramed x q) →
     (∃ t, exec (.readRequest x) s = .next t ∧ LinkDone s t 0x1000#16 ∧
       t = { s with link := t.link, lines := t.lines }) ∧
     ∃ t, exec (.sectionWrite x) s = .next t ∧ LinkDone s t 0x1000#16 ∧
       t = { s with link := t.link, lines := t.lines })

/-- Table 9.3: the sections and their sizes. R155, R158, R159, R160: a read request that passes its checks loads the reply buffer with the words of its section,
read at one moment, clears no notice and sets the result word but for section 9; one that fails a check sets its result
and empties the reply buffer. -/
def Obligations.ReadRequestLoadsTheReply : Prop :=
  ([0, 1, 2, 3, 4, 5, 6, 8, 9, 14].map sectionSize =
      [some 6, some 120, some 96, some 96, some 132, some 360, some 4, some 32, some 1, some 1] ∧
    ∀ i, i ∉ [0, 1, 2, 3, 4, 5, 6, 8, 9, 14] → sectionSize i = none) ∧
  (∀ c : Sections, (List.range 7).map c.get =
     [c.part, c.regions, c.records, c.speeds, c.aspects, c.substitutes, c.messages]) ∧
  ∀ (s : State) (x : LinkTransfer) (q : LinkRequest), LinkTakes s x.target → WellFramed x q → q.isRead = true →
    (∀ size, sectionSize q.sectionNo = some size → q.sectionNo ≠ 14 → q.offset + q.count ≤ size →
      ∃ t, exec (.readRequest x) s = .next t ∧
        t.link = { s.link with
          job := none, request := [], reply := t.link.reply, replyCheck := q.checkFlag
          result := if q.sectionNo = 9 then s.link.result else BitVec.ofNat 16 (256 * q.sectionNo)
          acked := true } ∧
        t.link.reply.length = q.count ∧
        (∀ i w, t.link.reply[i]? = some w →
          if q.sectionNo = 8 then StatusWordIs s (q.offset + i) w
          else if q.sectionNo = 9 then w = s.link.result
          else w = at0 (s.cfg.get q.sectionNo) (q.offset + i)) ∧
        t = { s with link := t.link, lines := t.lines }) ∧
    (sectionSize q.sectionNo = none ∨ q.sectionNo = 14 →
      ∃ t, exec (.readRequest x) s = .next t ∧ LinkDone s t (BitVec.ofNat 16 (0x2000 + 256 * min q.sectionNo 15)) ∧
        t = { s with link := t.link, lines := t.lines }) ∧
    (∀ size, sectionSize q.sectionNo = some size → q.sectionNo ≠ 14 → size < q.offset + q.count →
      ∃ t, exec (.readRequest x) s = .next t ∧ LinkDone s t (BitVec.ofNat 16 (0x3000 + 256 * q.sectionNo)) ∧
        t = { s with link := t.link, lines := t.lines })

/-- R159: a read transfer sends the reply's words, each high byte first, then the check byte where the reply's check flag
is set, then bytes 0xFF; it leaves the reply as it is. -/
def Obligations.ReadTransferSendsTheReply : Prop :=
  ∀ (s : State) (target : BitVec 7) (count : Nat),
    (LinkTakes s target →
      ∃ t, exec (.readTransfer target count) s = .next t ∧ t.link.out.length = count ∧
        (∀ i, i < count → t.link.out[i]? = some (
          if i < 2 * s.link.reply.length then
            (if i % 2 = 0 then highByte (at0 s.link.reply (i / 2)) else lowByte (at0 s.link.reply (i / 2)))
          else if i = 2 * s.link.reply.length ∧ s.link.reply ≠ [] ∧ s.link.replyCheck = true then
            linkCrc (readAddressByte target :: bytesOf s.link.reply)
          else 0xFF#8)) ∧
        t = { s with link := { s.link with acked := true, out := t.link.out }, lines := t.lines }) ∧
    (¬LinkTakes s target →
      ∃ t, exec (.readTransfer target count) s = .next t ∧
        t = { s with link := { s.link with acked := false, out := [] }, lines := t.lines })

/-- R157, R158, R160: a section write is refused by the first check that fails, and reads and writes nothing; one that
passes writes all its words as one event and no other word. R19, R35, R79, R92, R106, R120, R128, R129: the values a write
is refused for; only the units a write covers are tested for them (the model's reading, log 24). -/
def Obligations.SectionWriteIsAppliedWholeOrRefused : Prop :=
  (List.range 7).map unitSize = [1, 3, 4, 4, 33, 1, 1] ∧
  (∀ (c : Sections) (ws : List Word), (List.range 7).map (fun i => c.put i ws) =
     [{ c with part := ws }, { c with regions := ws }, { c with records := ws }, { c with speeds := ws },
      { c with aspects := ws }, { c with substitutes := ws }, { c with messages := ws }]) ∧
  ∀ (s : State) (x : LinkTransfer) (q : LinkRequest), LinkTakes s x.target → WellFramed x q → q.isRead = false →
    let refused := fun code : Nat => ∃ t, exec (.sectionWrite x) s = .next t ∧
      LinkDone s t (BitVec.ofNat 16 (4096 * code + 256 * min q.sectionNo 15)) ∧
      t = { s with link := t.link, lines := t.lines }
    (sectionSize q.sectionNo = none → refused 2) ∧
    ∀ size, sectionSize q.sectionNo = some size →
      (size < q.offset + q.count → refused 3) ∧
      (q.offset + q.count ≤ size →
        (q.sectionNo = 8 ∨ q.sectionNo = 9 → refused 4) ∧
        (q.sectionNo ≤ 6 → s.inService = true → refused 5) ∧
        (q.sectionNo ≤ 6 → s.inService = false → ∀ after : List Word, after.length = (s.cfg.get q.sectionNo).length →
          (∀ i, at0 after i = if q.offset ≤ i ∧ i < q.offset + q.count ∧ i < after.length then
              at0 q.data (i - q.offset) else at0 (s.cfg.get q.sectionNo) i) →
          ((∃ u, unitSize q.sectionNo * u < q.offset + q.count ∧ q.offset < unitSize q.sectionNo * (u + 1) ∧
              RefusesValue q.sectionNo after u) → refused 12) ∧
          ((∀ u, unitSize q.sectionNo * u < q.offset + q.count → q.offset < unitSize q.sectionNo * (u + 1) →
              ¬RefusesValue q.sectionNo after u) →
            ∃ t, exec (.sectionWrite x) s = .next t ∧ t.cfg = s.cfg.put q.sectionNo after ∧
              LinkDone s t (BitVec.ofNat 16 (256 * q.sectionNo)) ∧
              t = { s with cfg := t.cfg, link := t.link, lines := t.lines })))

/-- R155, R160, R161: a command framed wrong is discarded; one with a code of 0 or above 7 is refused with BAD_COMMAND,
and one with an argument it does not take with BAD_VALUE, before its part state is looked at. R144: CLEAR_RECALL empties
the recall stack in every state in which the link answers, and nothing else. -/
def Obligations.CommandsAreCheckedBeforeTheyAreTaken : Prop :=
  (∀ (s : State) (f : CommandFrame) (code : Byte) (c : Instr), LinkTakes s f.target →
     (c = .enterConfig f ∧ code = 1#8) ∨ (c = .resume f ∧ code = 2#8) ∨ (c = .store f ∧ code = 3#8) ∨
       (c = .load f ∧ code = 4#8) ∨ (c = .release f ∧ code = 5#8) ∨ (c = .clearRecall f ∧ code = 6#8) ∨
       (c = .restart f ∧ code = 7#8) ∨ (c = .badCommand code f ∧ (code = 0#8 ∨ 8 ≤ code.toNat)) →
     let ends := fun result : Nat => ∃ t, exec c s = .next t ∧ LinkDone s t (BitVec.ofNat 16 result) ∧
       t = { s with link := t.link, lines := t.lines }
     (¬FramedRight code f → ends 0x1000) ∧
     (FramedRight code f →
       (code = 0#8 ∨ 8 ≤ code.toNat → ends (0xBE00 + code.toNat)) ∧
       (1 ≤ code.toNat → code.toNat ≤ 7 → code ≠ 5#8 → f.arg ≠ 0#8 → ends (0xCE00 + code.toNat)) ∧
       (code = 5#8 → 23 < f.arg.toNat → ends 0xCE05))) ∧
  (∀ (s : State) (f : CommandFrame), LinkTakes s f.target → FramedRight 6#8 f → f.arg = 0#8 →
     ∃ t, exec (.clearRecall f) s = .next t ∧ t.msg = { s.msg with recalls := [] } ∧ LinkDone s t 0x0E06#16 ∧
       t = { s with msg := t.msg, link := t.link, lines := t.lines })

/-- R154, R157, R165, R169, R170: a STORE taken in CONFIG or SAFE makes the image invalid and the link busy; at its end (the
words it failed to take are the operand, log 11; the step that makes the image invalid comes at the beginning, log 29)
the image holds the configuration as it stood at the beginning and is valid, or, where a word failed, is invalid. R171: a
LOAD taken there makes the link busy; at its end a valid image's sections are copied into the working configuration, and
an invalid one leaves it as it was. R169: the order of the image's words and its CRC-16, by its shifts and polynomial. -/
def Obligations.StoreAndLoadMoveTheConfiguration : Prop :=
  (∀ c : Sections, c.toWords =
     c.part ++ c.regions ++ c.records ++ c.speeds ++ c.aspects ++ c.substitutes ++ c.messages) ∧
  (∀ ws : List Word, imageCrc ws = crc16ByRule ws) ∧
  (∀ (s : State) (f : CommandFrame), LinkTakes s f.target → FramedRight 3#8 f → f.arg = 0#8 → ShapeInv s →
     (s.ctl.part = .run ∨ s.ctl.part = .retain →
       ∃ t, exec (.store f) s = .next t ∧ LinkDone s t 0x5E03#16 ∧
         t = { s with link := t.link, lines := t.lines }) ∧
     (s.ctl.part = .config ∨ s.ctl.part = .safe →
       ∃ t, exec (.store f) s = .next t ∧ (∀ a, ¬LinkTakes t a) ∧ imageValid t.image = false ∧
         t.link.result = s.link.result ∧ t.link.reply = s.link.reply ∧
         t = { s with image := t.image, link := t.link, lines := t.lines } ∧
         (∀ faults : List (Nat × Word), (∀ x ∈ faults, at0 (imageOf s.cfg) x.1 = x.2) →
           ∃ u, exec (.storeDone faults) t = .next u ∧ u.link.job = none ∧ u.link.result = 0x0E03#16 ∧
             u.image.length = 816 ∧ at0 u.image 0 = 0x3720#16 ∧ (u.image.drop 1).take 814 = s.cfg.toWords ∧
             at0 u.image 815 = imageCrc (u.image.take 815) ∧ imageSections u.image = s.cfg ∧
             u = { t with image := u.image, link := u.link, lines := u.lines }) ∧
         ∀ i w, i < 816 → at0 (imageOf s.cfg) i ≠ w →
           ∃ u, exec (.storeDone [(i, w)]) t = .next u ∧ u.link.job = none ∧ u.link.result = 0x9E03#16 ∧
             imageValid u.image = false ∧ u = { t with image := u.image, link := u.link, lines := u.lines })) ∧
  (∀ (s : State) (f : CommandFrame), LinkTakes s f.target → FramedRight 4#8 f → f.arg = 0#8 →
     (s.ctl.part = .run ∨ s.ctl.part = .retain →
       ∃ t, exec (.load f) s = .next t ∧ LinkDone s t 0x5E04#16 ∧
         t = { s with link := t.link, lines := t.lines }) ∧
     (s.ctl.part = .config ∨ s.ctl.part = .safe →
       ∃ t u, exec (.load f) s = .next t ∧ (∀ a, ¬LinkTakes t a) ∧ t = { s with link := t.link, lines := t.lines } ∧
         exec .loadDone t = .next u ∧ u.link.job = none ∧ u.link.reply = [] ∧
         (imageValid s.image = false → u.link.result = 0xAE04#16 ∧
           u = { t with link := u.link, lines := u.lines }) ∧
         (imageValid s.image = true → s.image.length = 816 → ∀ c : Sections, c.shaped →
           c.toWords = (s.image.drop 1).take 814 →
           u.link.result = 0x0E04#16 ∧ u = { t with cfg := c, link := u.link, lines := u.lines })))

/-! ### Matching -/

/-- R19, R35, R37, Tables 2.1, 3.1 and 3.2: the fields of the elements and of the record entries, and the input count and
window length of each kind. R21: an element matches an address by its match type. R22, R23, R24: outside the copy areas of the held records the
element of lowest index that matches the address and applies to the port decides, with the offset from its operand A;
with none the address is unmatched; and an address in a copy area is COPY whatever the table says. -/
def Obligations.LowestMatchingElementDecides : Prop :=
  (∀ (c : Sections) (i : Nat), RegionIs c i (c.region i)) ∧
  (∀ (c : Sections) (n : Nat), RecordEntryIs c n (c.entry n)) ∧
  (∀ (e : Region) (a : Addr),
     (e.matchType = .off → e.hits a = false) ∧
     (e.matchType = .range → (e.hits a = true ↔ e.opA.toNat ≤ a.toNat ∧ a.toNat ≤ e.opB.toNat)) ∧
     (e.matchType = .pair → (e.hits a = true ↔ a = e.opA ∨ a = e.opB)) ∧
     (e.matchType = .masked → (e.hits a = true ↔ ∀ i, i < 17 → e.opB.getLsbD i = true →
       a.getLsbD i = e.opA.getLsbD i))) ∧
  (∀ (c : Sections) (p : ReqPort) (a : Addr),
     let inCopy := ∃ n, n < 24 ∧ ∃ b, (b = (c.entry n).copyA ∨ b = (c.entry n).copyB) ∧
       b.toNat ≤ a.toNat ∧ a.toNat < b.toNat + (c.entry n).length
     let applies := fun i => (c.region i).hits a = true ∧
       ((c.region i).ports = .both ∨ ((c.region i).ports = .upstream ∧ p = .upstream) ∨
         ((c.region i).ports = .scan ∧ p = .scan))
     (inCopy → c.classify p a = .copy) ∧
     (¬inCopy → (∀ i, i < 40 → ¬applies i) → c.classify p a = .unmatched) ∧
     ∀ i, ¬inCopy → i < 40 → applies i → (∀ j, j < i → ¬applies j) →
       ((c.region i).action = .pass → c.classify p a = .pass) ∧
       ((c.region i).action = .protect → c.classify p a = .protect) ∧
       ((c.region i).action = .record → c.classify p a = .record (c.region i).record (a - (c.region i).opA).toNat) ∧
       ((c.region i).action = .post → c.classify p a = .post (a - (c.region i).opA).toNat) ∧
       ((c.region i).action = .slot → c.classify p a = .slot (a - (c.region i).opA).toNat) ∧
       ((c.region i).action = .recalled → c.classify p a = .recalled (a - (c.region i).opA).toNat) ∧
       ((c.region i).action = .status → c.classify p a = .status (a - (c.region i).opA).toNat))
end

