-- ==== Sys2Proof/Laws/State.lean ====
section
/-! SUPPORT. One lemma for each field of the state under each named update, true by `rfl`: no later proof unfolds a
record update. -/

namespace Sys2Proof.Machine

variable (s : State)

/-! ### The updates of one field -/

@[simp] theorem State.withCtl_pending (x : Control) : (s.withCtl x).pending = s.pending := rfl
@[simp] theorem State.withCtl_ctl (x : Control) : (s.withCtl x).ctl = x := rfl
@[simp] theorem State.withCtl_cfg (x : Control) : (s.withCtl x).cfg = s.cfg := rfl
@[simp] theorem State.withCtl_image (x : Control) : (s.withCtl x).image = s.image := rfl
@[simp] theorem State.withCtl_mem (x : Control) : (s.withCtl x).mem = s.mem := rfl
@[simp] theorem State.withCtl_path (x : Control) : (s.withCtl x).path = s.path := rfl
@[simp] theorem State.withCtl_recs (x : Control) : (s.withCtl x).recs = s.recs := rfl
@[simp] theorem State.withCtl_speed (x : Control) : (s.withCtl x).speed = s.speed := rfl
@[simp] theorem State.withCtl_aspect (x : Control) : (s.withCtl x).aspect = s.aspect := rfl
@[simp] theorem State.withCtl_msg (x : Control) : (s.withCtl x).msg = s.msg := rfl
@[simp] theorem State.withCtl_status (x : Control) : (s.withCtl x).status = s.status := rfl
@[simp] theorem State.withCtl_link (x : Control) : (s.withCtl x).link = s.link := rfl
@[simp] theorem State.withCtl_lines (x : Control) : (s.withCtl x).lines = s.lines := rfl
@[simp] theorem State.withCtl_freeCount (x : Control) : (s.withCtl x).freeCount = s.freeCount := rfl

@[simp] theorem State.withCfg_pending (x : Sections) : (s.withCfg x).pending = s.pending := rfl
@[simp] theorem State.withCfg_ctl (x : Sections) : (s.withCfg x).ctl = s.ctl := rfl
@[simp] theorem State.withCfg_cfg (x : Sections) : (s.withCfg x).cfg = x := rfl
@[simp] theorem State.withCfg_image (x : Sections) : (s.withCfg x).image = s.image := rfl
@[simp] theorem State.withCfg_mem (x : Sections) : (s.withCfg x).mem = s.mem := rfl
@[simp] theorem State.withCfg_path (x : Sections) : (s.withCfg x).path = s.path := rfl
@[simp] theorem State.withCfg_recs (x : Sections) : (s.withCfg x).recs = s.recs := rfl
@[simp] theorem State.withCfg_speed (x : Sections) : (s.withCfg x).speed = s.speed := rfl
@[simp] theorem State.withCfg_aspect (x : Sections) : (s.withCfg x).aspect = s.aspect := rfl
@[simp] theorem State.withCfg_msg (x : Sections) : (s.withCfg x).msg = s.msg := rfl
@[simp] theorem State.withCfg_status (x : Sections) : (s.withCfg x).status = s.status := rfl
@[simp] theorem State.withCfg_link (x : Sections) : (s.withCfg x).link = s.link := rfl
@[simp] theorem State.withCfg_lines (x : Sections) : (s.withCfg x).lines = s.lines := rfl
@[simp] theorem State.withCfg_freeCount (x : Sections) : (s.withCfg x).freeCount = s.freeCount := rfl

@[simp] theorem State.withImage_pending (x : List Word) : (s.withImage x).pending = s.pending := rfl
@[simp] theorem State.withImage_ctl (x : List Word) : (s.withImage x).ctl = s.ctl := rfl
@[simp] theorem State.withImage_cfg (x : List Word) : (s.withImage x).cfg = s.cfg := rfl
@[simp] theorem State.withImage_image (x : List Word) : (s.withImage x).image = x := rfl
@[simp] theorem State.withImage_mem (x : List Word) : (s.withImage x).mem = s.mem := rfl
@[simp] theorem State.withImage_path (x : List Word) : (s.withImage x).path = s.path := rfl
@[simp] theorem State.withImage_recs (x : List Word) : (s.withImage x).recs = s.recs := rfl
@[simp] theorem State.withImage_speed (x : List Word) : (s.withImage x).speed = s.speed := rfl
@[simp] theorem State.withImage_aspect (x : List Word) : (s.withImage x).aspect = s.aspect := rfl
@[simp] theorem State.withImage_msg (x : List Word) : (s.withImage x).msg = s.msg := rfl
@[simp] theorem State.withImage_status (x : List Word) : (s.withImage x).status = s.status := rfl
@[simp] theorem State.withImage_link (x : List Word) : (s.withImage x).link = s.link := rfl
@[simp] theorem State.withImage_lines (x : List Word) : (s.withImage x).lines = s.lines := rfl
@[simp] theorem State.withImage_freeCount (x : List Word) : (s.withImage x).freeCount = s.freeCount := rfl

@[simp] theorem State.withMem_pending (x : Memory) : (s.withMem x).pending = s.pending := rfl
@[simp] theorem State.withMem_ctl (x : Memory) : (s.withMem x).ctl = s.ctl := rfl
@[simp] theorem State.withMem_cfg (x : Memory) : (s.withMem x).cfg = s.cfg := rfl
@[simp] theorem State.withMem_image (x : Memory) : (s.withMem x).image = s.image := rfl
@[simp] theorem State.withMem_mem (x : Memory) : (s.withMem x).mem = x := rfl
@[simp] theorem State.withMem_path (x : Memory) : (s.withMem x).path = s.path := rfl
@[simp] theorem State.withMem_recs (x : Memory) : (s.withMem x).recs = s.recs := rfl
@[simp] theorem State.withMem_speed (x : Memory) : (s.withMem x).speed = s.speed := rfl
@[simp] theorem State.withMem_aspect (x : Memory) : (s.withMem x).aspect = s.aspect := rfl
@[simp] theorem State.withMem_msg (x : Memory) : (s.withMem x).msg = s.msg := rfl
@[simp] theorem State.withMem_status (x : Memory) : (s.withMem x).status = s.status := rfl
@[simp] theorem State.withMem_link (x : Memory) : (s.withMem x).link = s.link := rfl
@[simp] theorem State.withMem_lines (x : Memory) : (s.withMem x).lines = s.lines := rfl
@[simp] theorem State.withMem_freeCount (x : Memory) : (s.withMem x).freeCount = s.freeCount := rfl

@[simp] theorem State.withPath_pending (x : Path) : (s.withPath x).pending = s.pending := rfl
@[simp] theorem State.withPath_ctl (x : Path) : (s.withPath x).ctl = s.ctl := rfl
@[simp] theorem State.withPath_cfg (x : Path) : (s.withPath x).cfg = s.cfg := rfl
@[simp] theorem State.withPath_image (x : Path) : (s.withPath x).image = s.image := rfl
@[simp] theorem State.withPath_mem (x : Path) : (s.withPath x).mem = s.mem := rfl
@[simp] theorem State.withPath_path (x : Path) : (s.withPath x).path = x := rfl
@[simp] theorem State.withPath_recs (x : Path) : (s.withPath x).recs = s.recs := rfl
@[simp] theorem State.withPath_speed (x : Path) : (s.withPath x).speed = s.speed := rfl
@[simp] theorem State.withPath_aspect (x : Path) : (s.withPath x).aspect = s.aspect := rfl
@[simp] theorem State.withPath_msg (x : Path) : (s.withPath x).msg = s.msg := rfl
@[simp] theorem State.withPath_status (x : Path) : (s.withPath x).status = s.status := rfl
@[simp] theorem State.withPath_link (x : Path) : (s.withPath x).link = s.link := rfl
@[simp] theorem State.withPath_lines (x : Path) : (s.withPath x).lines = s.lines := rfl
@[simp] theorem State.withPath_freeCount (x : Path) : (s.withPath x).freeCount = s.freeCount := rfl

@[simp] theorem State.withRecs_pending (x : List RecordState) : (s.withRecs x).pending = s.pending := rfl
@[simp] theorem State.withRecs_ctl (x : List RecordState) : (s.withRecs x).ctl = s.ctl := rfl
@[simp] theorem State.withRecs_cfg (x : List RecordState) : (s.withRecs x).cfg = s.cfg := rfl
@[simp] theorem State.withRecs_image (x : List RecordState) : (s.withRecs x).image = s.image := rfl
@[simp] theorem State.withRecs_mem (x : List RecordState) : (s.withRecs x).mem = s.mem := rfl
@[simp] theorem State.withRecs_path (x : List RecordState) : (s.withRecs x).path = s.path := rfl
@[simp] theorem State.withRecs_recs (x : List RecordState) : (s.withRecs x).recs = x := rfl
@[simp] theorem State.withRecs_speed (x : List RecordState) : (s.withRecs x).speed = s.speed := rfl
@[simp] theorem State.withRecs_aspect (x : List RecordState) : (s.withRecs x).aspect = s.aspect := rfl
@[simp] theorem State.withRecs_msg (x : List RecordState) : (s.withRecs x).msg = s.msg := rfl
@[simp] theorem State.withRecs_status (x : List RecordState) : (s.withRecs x).status = s.status := rfl
@[simp] theorem State.withRecs_link (x : List RecordState) : (s.withRecs x).link = s.link := rfl
@[simp] theorem State.withRecs_lines (x : List RecordState) : (s.withRecs x).lines = s.lines := rfl
@[simp] theorem State.withRecs_freeCount (x : List RecordState) : (s.withRecs x).freeCount = s.freeCount := rfl

@[simp] theorem State.withSpeed_pending (x : SpeedUnit) : (s.withSpeed x).pending = s.pending := rfl
@[simp] theorem State.withSpeed_ctl (x : SpeedUnit) : (s.withSpeed x).ctl = s.ctl := rfl
@[simp] theorem State.withSpeed_cfg (x : SpeedUnit) : (s.withSpeed x).cfg = s.cfg := rfl
@[simp] theorem State.withSpeed_image (x : SpeedUnit) : (s.withSpeed x).image = s.image := rfl
@[simp] theorem State.withSpeed_mem (x : SpeedUnit) : (s.withSpeed x).mem = s.mem := rfl
@[simp] theorem State.withSpeed_path (x : SpeedUnit) : (s.withSpeed x).path = s.path := rfl
@[simp] theorem State.withSpeed_recs (x : SpeedUnit) : (s.withSpeed x).recs = s.recs := rfl
@[simp] theorem State.withSpeed_speed (x : SpeedUnit) : (s.withSpeed x).speed = x := rfl
@[simp] theorem State.withSpeed_aspect (x : SpeedUnit) : (s.withSpeed x).aspect = s.aspect := rfl
@[simp] theorem State.withSpeed_msg (x : SpeedUnit) : (s.withSpeed x).msg = s.msg := rfl
@[simp] theorem State.withSpeed_status (x : SpeedUnit) : (s.withSpeed x).status = s.status := rfl
@[simp] theorem State.withSpeed_link (x : SpeedUnit) : (s.withSpeed x).link = s.link := rfl
@[simp] theorem State.withSpeed_lines (x : SpeedUnit) : (s.withSpeed x).lines = s.lines := rfl
@[simp] theorem State.withSpeed_freeCount (x : SpeedUnit) : (s.withSpeed x).freeCount = s.freeCount := rfl

@[simp] theorem State.withAspect_pending (x : AspectUnit) : (s.withAspect x).pending = s.pending := rfl
@[simp] theorem State.withAspect_ctl (x : AspectUnit) : (s.withAspect x).ctl = s.ctl := rfl
@[simp] theorem State.withAspect_cfg (x : AspectUnit) : (s.withAspect x).cfg = s.cfg := rfl
@[simp] theorem State.withAspect_image (x : AspectUnit) : (s.withAspect x).image = s.image := rfl
@[simp] theorem State.withAspect_mem (x : AspectUnit) : (s.withAspect x).mem = s.mem := rfl
@[simp] theorem State.withAspect_path (x : AspectUnit) : (s.withAspect x).path = s.path := rfl
@[simp] theorem State.withAspect_recs (x : AspectUnit) : (s.withAspect x).recs = s.recs := rfl
@[simp] theorem State.withAspect_speed (x : AspectUnit) : (s.withAspect x).speed = s.speed := rfl
@[simp] theorem State.withAspect_aspect (x : AspectUnit) : (s.withAspect x).aspect = x := rfl
@[simp] theorem State.withAspect_msg (x : AspectUnit) : (s.withAspect x).msg = s.msg := rfl
@[simp] theorem State.withAspect_status (x : AspectUnit) : (s.withAspect x).status = s.status := rfl
@[simp] theorem State.withAspect_link (x : AspectUnit) : (s.withAspect x).link = s.link := rfl
@[simp] theorem State.withAspect_lines (x : AspectUnit) : (s.withAspect x).lines = s.lines := rfl
@[simp] theorem State.withAspect_freeCount (x : AspectUnit) : (s.withAspect x).freeCount = s.freeCount := rfl

@[simp] theorem State.withMsg_pending (x : MessageUnit) : (s.withMsg x).pending = s.pending := rfl
@[simp] theorem State.withMsg_ctl (x : MessageUnit) : (s.withMsg x).ctl = s.ctl := rfl
@[simp] theorem State.withMsg_cfg (x : MessageUnit) : (s.withMsg x).cfg = s.cfg := rfl
@[simp] theorem State.withMsg_image (x : MessageUnit) : (s.withMsg x).image = s.image := rfl
@[simp] theorem State.withMsg_mem (x : MessageUnit) : (s.withMsg x).mem = s.mem := rfl
@[simp] theorem State.withMsg_path (x : MessageUnit) : (s.withMsg x).path = s.path := rfl
@[simp] theorem State.withMsg_recs (x : MessageUnit) : (s.withMsg x).recs = s.recs := rfl
@[simp] theorem State.withMsg_speed (x : MessageUnit) : (s.withMsg x).speed = s.speed := rfl
@[simp] theorem State.withMsg_aspect (x : MessageUnit) : (s.withMsg x).aspect = s.aspect := rfl
@[simp] theorem State.withMsg_msg (x : MessageUnit) : (s.withMsg x).msg = x := rfl
@[simp] theorem State.withMsg_status (x : MessageUnit) : (s.withMsg x).status = s.status := rfl
@[simp] theorem State.withMsg_link (x : MessageUnit) : (s.withMsg x).link = s.link := rfl
@[simp] theorem State.withMsg_lines (x : MessageUnit) : (s.withMsg x).lines = s.lines := rfl
@[simp] theorem State.withMsg_freeCount (x : MessageUnit) : (s.withMsg x).freeCount = s.freeCount := rfl

@[simp] theorem State.withStatus_pending (x : StatusUnit) : (s.withStatus x).pending = s.pending := rfl
@[simp] theorem State.withStatus_ctl (x : StatusUnit) : (s.withStatus x).ctl = s.ctl := rfl
@[simp] theorem State.withStatus_cfg (x : StatusUnit) : (s.withStatus x).cfg = s.cfg := rfl
@[simp] theorem State.withStatus_image (x : StatusUnit) : (s.withStatus x).image = s.image := rfl
@[simp] theorem State.withStatus_mem (x : StatusUnit) : (s.withStatus x).mem = s.mem := rfl
@[simp] theorem State.withStatus_path (x : StatusUnit) : (s.withStatus x).path = s.path := rfl
@[simp] theorem State.withStatus_recs (x : StatusUnit) : (s.withStatus x).recs = s.recs := rfl
@[simp] theorem State.withStatus_speed (x : StatusUnit) : (s.withStatus x).speed = s.speed := rfl
@[simp] theorem State.withStatus_aspect (x : StatusUnit) : (s.withStatus x).aspect = s.aspect := rfl
@[simp] theorem State.withStatus_msg (x : StatusUnit) : (s.withStatus x).msg = s.msg := rfl
@[simp] theorem State.withStatus_status (x : StatusUnit) : (s.withStatus x).status = x := rfl
@[simp] theorem State.withStatus_link (x : StatusUnit) : (s.withStatus x).link = s.link := rfl
@[simp] theorem State.withStatus_lines (x : StatusUnit) : (s.withStatus x).lines = s.lines := rfl
@[simp] theorem State.withStatus_freeCount (x : StatusUnit) : (s.withStatus x).freeCount = s.freeCount := rfl

@[simp] theorem State.withLink_pending (x : Link) : (s.withLink x).pending = s.pending := rfl
@[simp] theorem State.withLink_ctl (x : Link) : (s.withLink x).ctl = s.ctl := rfl
@[simp] theorem State.withLink_cfg (x : Link) : (s.withLink x).cfg = s.cfg := rfl
@[simp] theorem State.withLink_image (x : Link) : (s.withLink x).image = s.image := rfl
@[simp] theorem State.withLink_mem (x : Link) : (s.withLink x).mem = s.mem := rfl
@[simp] theorem State.withLink_path (x : Link) : (s.withLink x).path = s.path := rfl
@[simp] theorem State.withLink_recs (x : Link) : (s.withLink x).recs = s.recs := rfl
@[simp] theorem State.withLink_speed (x : Link) : (s.withLink x).speed = s.speed := rfl
@[simp] theorem State.withLink_aspect (x : Link) : (s.withLink x).aspect = s.aspect := rfl
@[simp] theorem State.withLink_msg (x : Link) : (s.withLink x).msg = s.msg := rfl
@[simp] theorem State.withLink_status (x : Link) : (s.withLink x).status = s.status := rfl
@[simp] theorem State.withLink_link (x : Link) : (s.withLink x).link = x := rfl
@[simp] theorem State.withLink_lines (x : Link) : (s.withLink x).lines = s.lines := rfl
@[simp] theorem State.withLink_freeCount (x : Link) : (s.withLink x).freeCount = s.freeCount := rfl

@[simp] theorem State.withLines_pending (x : Lines) : (s.withLines x).pending = s.pending := rfl
@[simp] theorem State.withLines_ctl (x : Lines) : (s.withLines x).ctl = s.ctl := rfl
@[simp] theorem State.withLines_cfg (x : Lines) : (s.withLines x).cfg = s.cfg := rfl
@[simp] theorem State.withLines_image (x : Lines) : (s.withLines x).image = s.image := rfl
@[simp] theorem State.withLines_mem (x : Lines) : (s.withLines x).mem = s.mem := rfl
@[simp] theorem State.withLines_path (x : Lines) : (s.withLines x).path = s.path := rfl
@[simp] theorem State.withLines_recs (x : Lines) : (s.withLines x).recs = s.recs := rfl
@[simp] theorem State.withLines_speed (x : Lines) : (s.withLines x).speed = s.speed := rfl
@[simp] theorem State.withLines_aspect (x : Lines) : (s.withLines x).aspect = s.aspect := rfl
@[simp] theorem State.withLines_msg (x : Lines) : (s.withLines x).msg = s.msg := rfl
@[simp] theorem State.withLines_status (x : Lines) : (s.withLines x).status = s.status := rfl
@[simp] theorem State.withLines_link (x : Lines) : (s.withLines x).link = s.link := rfl
@[simp] theorem State.withLines_lines (x : Lines) : (s.withLines x).lines = x := rfl
@[simp] theorem State.withLines_freeCount (x : Lines) : (s.withLines x).freeCount = s.freeCount := rfl

@[simp] theorem State.withFreeCount_pending (x : Nat) : (s.withFreeCount x).pending = s.pending := rfl
@[simp] theorem State.withFreeCount_ctl (x : Nat) : (s.withFreeCount x).ctl = s.ctl := rfl
@[simp] theorem State.withFreeCount_cfg (x : Nat) : (s.withFreeCount x).cfg = s.cfg := rfl
@[simp] theorem State.withFreeCount_image (x : Nat) : (s.withFreeCount x).image = s.image := rfl
@[simp] theorem State.withFreeCount_mem (x : Nat) : (s.withFreeCount x).mem = s.mem := rfl
@[simp] theorem State.withFreeCount_path (x : Nat) : (s.withFreeCount x).path = s.path := rfl
@[simp] theorem State.withFreeCount_recs (x : Nat) : (s.withFreeCount x).recs = s.recs := rfl
@[simp] theorem State.withFreeCount_speed (x : Nat) : (s.withFreeCount x).speed = s.speed := rfl
@[simp] theorem State.withFreeCount_aspect (x : Nat) : (s.withFreeCount x).aspect = s.aspect := rfl
@[simp] theorem State.withFreeCount_msg (x : Nat) : (s.withFreeCount x).msg = s.msg := rfl
@[simp] theorem State.withFreeCount_status (x : Nat) : (s.withFreeCount x).status = s.status := rfl
@[simp] theorem State.withFreeCount_link (x : Nat) : (s.withFreeCount x).link = s.link := rfl
@[simp] theorem State.withFreeCount_lines (x : Nat) : (s.withFreeCount x).lines = s.lines := rfl
@[simp] theorem State.withFreeCount_freeCount (x : Nat) : (s.withFreeCount x).freeCount = x := rfl

/-! ### The updates of one part of a field -/

@[simp] theorem State.setRecord_pending (n : Nat) (r : RecordState) : (s.setRecord n r).pending = s.pending := rfl
@[simp] theorem State.setRecord_ctl (n : Nat) (r : RecordState) : (s.setRecord n r).ctl = s.ctl := rfl
@[simp] theorem State.setRecord_cfg (n : Nat) (r : RecordState) : (s.setRecord n r).cfg = s.cfg := rfl
@[simp] theorem State.setRecord_image (n : Nat) (r : RecordState) : (s.setRecord n r).image = s.image := rfl
@[simp] theorem State.setRecord_mem (n : Nat) (r : RecordState) : (s.setRecord n r).mem = s.mem := rfl
@[simp] theorem State.setRecord_path (n : Nat) (r : RecordState) : (s.setRecord n r).path = s.path := rfl
@[simp] theorem State.setRecord_recs (n : Nat) (r : RecordState) : (s.setRecord n r).recs = s.recs.set n r := rfl
@[simp] theorem State.setRecord_speed (n : Nat) (r : RecordState) : (s.setRecord n r).speed = s.speed := rfl
@[simp] theorem State.setRecord_aspect (n : Nat) (r : RecordState) : (s.setRecord n r).aspect = s.aspect := rfl
@[simp] theorem State.setRecord_msg (n : Nat) (r : RecordState) : (s.setRecord n r).msg = s.msg := rfl
@[simp] theorem State.setRecord_status (n : Nat) (r : RecordState) : (s.setRecord n r).status = s.status := rfl
@[simp] theorem State.setRecord_link (n : Nat) (r : RecordState) : (s.setRecord n r).link = s.link := rfl
@[simp] theorem State.setRecord_lines (n : Nat) (r : RecordState) : (s.setRecord n r).lines = s.lines := rfl
@[simp] theorem State.setRecord_freeCount (n : Nat) (r : RecordState) :
    (s.setRecord n r).freeCount = s.freeCount := rfl

@[simp] theorem State.setSpeedKind_pending (n : Nat) (k : SpeedKind) : (s.setSpeedKind n k).pending = s.pending := rfl
@[simp] theorem State.setSpeedKind_ctl (n : Nat) (k : SpeedKind) : (s.setSpeedKind n k).ctl = s.ctl := rfl
@[simp] theorem State.setSpeedKind_cfg (n : Nat) (k : SpeedKind) : (s.setSpeedKind n k).cfg = s.cfg := rfl
@[simp] theorem State.setSpeedKind_image (n : Nat) (k : SpeedKind) : (s.setSpeedKind n k).image = s.image := rfl
@[simp] theorem State.setSpeedKind_mem (n : Nat) (k : SpeedKind) : (s.setSpeedKind n k).mem = s.mem := rfl
@[simp] theorem State.setSpeedKind_path (n : Nat) (k : SpeedKind) : (s.setSpeedKind n k).path = s.path := rfl
@[simp] theorem State.setSpeedKind_recs (n : Nat) (k : SpeedKind) : (s.setSpeedKind n k).recs = s.recs := rfl
@[simp] theorem State.setSpeedKind_speed (n : Nat) (k : SpeedKind) :
    (s.setSpeedKind n k).speed = { s.speed with kinds := s.speed.kinds.set n k } := rfl
@[simp] theorem State.setSpeedKind_aspect (n : Nat) (k : SpeedKind) : (s.setSpeedKind n k).aspect = s.aspect := rfl
@[simp] theorem State.setSpeedKind_msg (n : Nat) (k : SpeedKind) : (s.setSpeedKind n k).msg = s.msg := rfl
@[simp] theorem State.setSpeedKind_status (n : Nat) (k : SpeedKind) : (s.setSpeedKind n k).status = s.status := rfl
@[simp] theorem State.setSpeedKind_link (n : Nat) (k : SpeedKind) : (s.setSpeedKind n k).link = s.link := rfl
@[simp] theorem State.setSpeedKind_lines (n : Nat) (k : SpeedKind) : (s.setSpeedKind n k).lines = s.lines := rfl
@[simp] theorem State.setSpeedKind_freeCount (n : Nat) (k : SpeedKind) :
    (s.setSpeedKind n k).freeCount = s.freeCount := rfl

@[simp] theorem State.setAspectKind_pending (n : Nat) (k : AspectKind) :
    (s.setAspectKind n k).pending = s.pending := rfl
@[simp] theorem State.setAspectKind_ctl (n : Nat) (k : AspectKind) : (s.setAspectKind n k).ctl = s.ctl := rfl
@[simp] theorem State.setAspectKind_cfg (n : Nat) (k : AspectKind) : (s.setAspectKind n k).cfg = s.cfg := rfl
@[simp] theorem State.setAspectKind_image (n : Nat) (k : AspectKind) : (s.setAspectKind n k).image = s.image := rfl
@[simp] theorem State.setAspectKind_mem (n : Nat) (k : AspectKind) : (s.setAspectKind n k).mem = s.mem := rfl
@[simp] theorem State.setAspectKind_path (n : Nat) (k : AspectKind) : (s.setAspectKind n k).path = s.path := rfl
@[simp] theorem State.setAspectKind_recs (n : Nat) (k : AspectKind) : (s.setAspectKind n k).recs = s.recs := rfl
@[simp] theorem State.setAspectKind_speed (n : Nat) (k : AspectKind) : (s.setAspectKind n k).speed = s.speed := rfl
@[simp] theorem State.setAspectKind_aspect (n : Nat) (k : AspectKind) :
    (s.setAspectKind n k).aspect = { s.aspect with kinds := s.aspect.kinds.set n k } := rfl
@[simp] theorem State.setAspectKind_msg (n : Nat) (k : AspectKind) : (s.setAspectKind n k).msg = s.msg := rfl
@[simp] theorem State.setAspectKind_status (n : Nat) (k : AspectKind) : (s.setAspectKind n k).status = s.status := rfl
@[simp] theorem State.setAspectKind_link (n : Nat) (k : AspectKind) : (s.setAspectKind n k).link = s.link := rfl
@[simp] theorem State.setAspectKind_lines (n : Nat) (k : AspectKind) : (s.setAspectKind n k).lines = s.lines := rfl
@[simp] theorem State.setAspectKind_freeCount (n : Nat) (k : AspectKind) :
    (s.setAspectKind n k).freeCount = s.freeCount := rfl

@[simp] theorem State.setSelection_pending (x : Selection) : (s.setSelection x).pending = s.pending := rfl
@[simp] theorem State.setSelection_ctl (x : Selection) : (s.setSelection x).ctl = s.ctl := rfl
@[simp] theorem State.setSelection_cfg (x : Selection) : (s.setSelection x).cfg = s.cfg := rfl
@[simp] theorem State.setSelection_image (x : Selection) : (s.setSelection x).image = s.image := rfl
@[simp] theorem State.setSelection_mem (x : Selection) : (s.setSelection x).mem = s.mem := rfl
@[simp] theorem State.setSelection_path (x : Selection) : (s.setSelection x).path = s.path := rfl
@[simp] theorem State.setSelection_recs (x : Selection) : (s.setSelection x).recs = s.recs := rfl
@[simp] theorem State.setSelection_speed (x : Selection) : (s.setSelection x).speed = s.speed := rfl
@[simp] theorem State.setSelection_aspect (x : Selection) :
    (s.setSelection x).aspect = { s.aspect with select := x } := rfl
@[simp] theorem State.setSelection_msg (x : Selection) : (s.setSelection x).msg = s.msg := rfl
@[simp] theorem State.setSelection_status (x : Selection) : (s.setSelection x).status = s.status := rfl
@[simp] theorem State.setSelection_link (x : Selection) : (s.setSelection x).link = s.link := rfl
@[simp] theorem State.setSelection_lines (x : Selection) : (s.setSelection x).lines = s.lines := rfl
@[simp] theorem State.setSelection_freeCount (x : Selection) : (s.setSelection x).freeCount = s.freeCount := rfl

@[simp] theorem State.setPart_pending (p : PartState) : (s.setPart p).pending = s.pending := rfl
@[simp] theorem State.setPart_ctl (p : PartState) : (s.setPart p).ctl = { s.ctl with part := p } := rfl
@[simp] theorem State.setPart_cfg (p : PartState) : (s.setPart p).cfg = s.cfg := rfl
@[simp] theorem State.setPart_image (p : PartState) : (s.setPart p).image = s.image := rfl
@[simp] theorem State.setPart_mem (p : PartState) : (s.setPart p).mem = s.mem := rfl
@[simp] theorem State.setPart_path (p : PartState) : (s.setPart p).path = s.path := rfl
@[simp] theorem State.setPart_recs (p : PartState) : (s.setPart p).recs = s.recs := rfl
@[simp] theorem State.setPart_speed (p : PartState) : (s.setPart p).speed = s.speed := rfl
@[simp] theorem State.setPart_aspect (p : PartState) : (s.setPart p).aspect = s.aspect := rfl
@[simp] theorem State.setPart_msg (p : PartState) : (s.setPart p).msg = s.msg := rfl
@[simp] theorem State.setPart_status (p : PartState) : (s.setPart p).status = s.status := rfl
@[simp] theorem State.setPart_link (p : PartState) : (s.setPart p).link = s.link := rfl
@[simp] theorem State.setPart_lines (p : PartState) : (s.setPart p).lines = s.lines := rfl
@[simp] theorem State.setPart_freeCount (p : PartState) : (s.setPart p).freeCount = s.freeCount := rfl

@[simp] theorem State.notify_pending (x : Notice) : (s.notify x).pending = s.pending := rfl
@[simp] theorem State.notify_ctl (x : Notice) : (s.notify x).ctl = s.ctl := rfl
@[simp] theorem State.notify_cfg (x : Notice) : (s.notify x).cfg = s.cfg := rfl
@[simp] theorem State.notify_image (x : Notice) : (s.notify x).image = s.image := rfl
@[simp] theorem State.notify_mem (x : Notice) : (s.notify x).mem = s.mem := rfl
@[simp] theorem State.notify_path (x : Notice) : (s.notify x).path = s.path := rfl
@[simp] theorem State.notify_recs (x : Notice) : (s.notify x).recs = s.recs := rfl
@[simp] theorem State.notify_speed (x : Notice) : (s.notify x).speed = s.speed := rfl
@[simp] theorem State.notify_aspect (x : Notice) : (s.notify x).aspect = s.aspect := rfl
@[simp] theorem State.notify_msg (x : Notice) : (s.notify x).msg = s.msg := rfl
@[simp] theorem State.notify_status (x : Notice) :
    (s.notify x).status = { s.status with notices := s.status.notices.add x } := rfl
@[simp] theorem State.notify_link (x : Notice) : (s.notify x).link = s.link := rfl
@[simp] theorem State.notify_lines (x : Notice) : (s.notify x).lines = s.lines := rfl
@[simp] theorem State.notify_freeCount (x : Notice) : (s.notify x).freeCount = s.freeCount := rfl

@[simp] theorem State.withPort_pending (p : Port) : (s.withPort p).pending = s.pending := rfl
@[simp] theorem State.withPort_ctl (p : Port) : (s.withPort p).ctl = s.ctl := rfl
@[simp] theorem State.withPort_cfg (p : Port) : (s.withPort p).cfg = s.cfg := rfl
@[simp] theorem State.withPort_image (p : Port) : (s.withPort p).image = s.image := rfl
@[simp] theorem State.withPort_mem (p : Port) : (s.withPort p).mem = s.mem := rfl
@[simp] theorem State.withPort_path (p : Port) : (s.withPort p).path = { s.path with port := p } := rfl
@[simp] theorem State.withPort_recs (p : Port) : (s.withPort p).recs = s.recs := rfl
@[simp] theorem State.withPort_speed (p : Port) : (s.withPort p).speed = s.speed := rfl
@[simp] theorem State.withPort_aspect (p : Port) : (s.withPort p).aspect = s.aspect := rfl
@[simp] theorem State.withPort_msg (p : Port) : (s.withPort p).msg = s.msg := rfl
@[simp] theorem State.withPort_status (p : Port) : (s.withPort p).status = s.status := rfl
@[simp] theorem State.withPort_link (p : Port) : (s.withPort p).link = s.link := rfl
@[simp] theorem State.withPort_lines (p : Port) : (s.withPort p).lines = s.lines := rfl
@[simp] theorem State.withPort_freeCount (p : Port) : (s.withPort p).freeCount = s.freeCount := rfl

@[simp] theorem State.withUp_pending (u : Upstream) : (s.withUp u).pending = s.pending := rfl
@[simp] theorem State.withUp_ctl (u : Upstream) : (s.withUp u).ctl = s.ctl := rfl
@[simp] theorem State.withUp_cfg (u : Upstream) : (s.withUp u).cfg = s.cfg := rfl
@[simp] theorem State.withUp_image (u : Upstream) : (s.withUp u).image = s.image := rfl
@[simp] theorem State.withUp_mem (u : Upstream) : (s.withUp u).mem = s.mem := rfl
@[simp] theorem State.withUp_path (u : Upstream) : (s.withUp u).path = { s.path with up := u } := rfl
@[simp] theorem State.withUp_recs (u : Upstream) : (s.withUp u).recs = s.recs := rfl
@[simp] theorem State.withUp_speed (u : Upstream) : (s.withUp u).speed = s.speed := rfl
@[simp] theorem State.withUp_aspect (u : Upstream) : (s.withUp u).aspect = s.aspect := rfl
@[simp] theorem State.withUp_msg (u : Upstream) : (s.withUp u).msg = s.msg := rfl
@[simp] theorem State.withUp_status (u : Upstream) : (s.withUp u).status = s.status := rfl
@[simp] theorem State.withUp_link (u : Upstream) : (s.withUp u).link = s.link := rfl
@[simp] theorem State.withUp_lines (u : Upstream) : (s.withUp u).lines = s.lines := rfl
@[simp] theorem State.withUp_freeCount (u : Upstream) : (s.withUp u).freeCount = s.freeCount := rfl

@[simp] theorem State.withScan_pending (x : Scan) : (s.withScan x).pending = s.pending := rfl
@[simp] theorem State.withScan_ctl (x : Scan) : (s.withScan x).ctl = s.ctl := rfl
@[simp] theorem State.withScan_cfg (x : Scan) : (s.withScan x).cfg = s.cfg := rfl
@[simp] theorem State.withScan_image (x : Scan) : (s.withScan x).image = s.image := rfl
@[simp] theorem State.withScan_mem (x : Scan) : (s.withScan x).mem = s.mem := rfl
@[simp] theorem State.withScan_path (x : Scan) : (s.withScan x).path = { s.path with scan := x } := rfl
@[simp] theorem State.withScan_recs (x : Scan) : (s.withScan x).recs = s.recs := rfl
@[simp] theorem State.withScan_speed (x : Scan) : (s.withScan x).speed = s.speed := rfl
@[simp] theorem State.withScan_aspect (x : Scan) : (s.withScan x).aspect = s.aspect := rfl
@[simp] theorem State.withScan_msg (x : Scan) : (s.withScan x).msg = s.msg := rfl
@[simp] theorem State.withScan_status (x : Scan) : (s.withScan x).status = s.status := rfl
@[simp] theorem State.withScan_link (x : Scan) : (s.withScan x).link = s.link := rfl
@[simp] theorem State.withScan_lines (x : Scan) : (s.withScan x).lines = s.lines := rfl
@[simp] theorem State.withScan_freeCount (x : Scan) : (s.withScan x).freeCount = s.freeCount := rfl

@[simp] theorem State.withRefresh_pending (r : RefreshUnit) : (s.withRefresh r).pending = s.pending := rfl
@[simp] theorem State.withRefresh_ctl (r : RefreshUnit) : (s.withRefresh r).ctl = s.ctl := rfl
@[simp] theorem State.withRefresh_cfg (r : RefreshUnit) : (s.withRefresh r).cfg = s.cfg := rfl
@[simp] theorem State.withRefresh_image (r : RefreshUnit) : (s.withRefresh r).image = s.image := rfl
@[simp] theorem State.withRefresh_mem (r : RefreshUnit) : (s.withRefresh r).mem = s.mem := rfl
@[simp] theorem State.withRefresh_path (r : RefreshUnit) :
    (s.withRefresh r).path = { s.path with refresh := r } := rfl
@[simp] theorem State.withRefresh_recs (r : RefreshUnit) : (s.withRefresh r).recs = s.recs := rfl
@[simp] theorem State.withRefresh_speed (r : RefreshUnit) : (s.withRefresh r).speed = s.speed := rfl
@[simp] theorem State.withRefresh_aspect (r : RefreshUnit) : (s.withRefresh r).aspect = s.aspect := rfl
@[simp] theorem State.withRefresh_msg (r : RefreshUnit) : (s.withRefresh r).msg = s.msg := rfl
@[simp] theorem State.withRefresh_status (r : RefreshUnit) : (s.withRefresh r).status = s.status := rfl
@[simp] theorem State.withRefresh_link (r : RefreshUnit) : (s.withRefresh r).link = s.link := rfl
@[simp] theorem State.withRefresh_lines (r : RefreshUnit) : (s.withRefresh r).lines = s.lines := rfl
@[simp] theorem State.withRefresh_freeCount (r : RefreshUnit) : (s.withRefresh r).freeCount = s.freeCount := rfl

@[simp] theorem State.setStage_pending (c : Nat) (x : Option Stage) : (s.setStage c x).pending = s.pending := rfl
@[simp] theorem State.setStage_ctl (c : Nat) (x : Option Stage) : (s.setStage c x).ctl = s.ctl := rfl
@[simp] theorem State.setStage_cfg (c : Nat) (x : Option Stage) : (s.setStage c x).cfg = s.cfg := rfl
@[simp] theorem State.setStage_image (c : Nat) (x : Option Stage) : (s.setStage c x).image = s.image := rfl
@[simp] theorem State.setStage_mem (c : Nat) (x : Option Stage) : (s.setStage c x).mem = s.mem := rfl
@[simp] theorem State.setStage_path (c : Nat) (x : Option Stage) : (s.setStage c x).path = s.path := rfl
@[simp] theorem State.setStage_recs (c : Nat) (x : Option Stage) : (s.setStage c x).recs = s.recs := rfl
@[simp] theorem State.setStage_speed (c : Nat) (x : Option Stage) : (s.setStage c x).speed = s.speed := rfl
@[simp] theorem State.setStage_aspect (c : Nat) (x : Option Stage) : (s.setStage c x).aspect = s.aspect := rfl
@[simp] theorem State.setStage_msg (c : Nat) (x : Option Stage) :
    (s.setStage c x).msg = { s.msg with stages := s.msg.stages.set c x } := rfl
@[simp] theorem State.setStage_status (c : Nat) (x : Option Stage) : (s.setStage c x).status = s.status := rfl
@[simp] theorem State.setStage_link (c : Nat) (x : Option Stage) : (s.setStage c x).link = s.link := rfl
@[simp] theorem State.setStage_lines (c : Nat) (x : Option Stage) : (s.setStage c x).lines = s.lines := rfl
@[simp] theorem State.setStage_freeCount (c : Nat) (x : Option Stage) :
    (s.setStage c x).freeCount = s.freeCount := rfl

@[simp] theorem State.withPending_pending (cs : List Instr) : (s.withPending cs).pending = cs := rfl
@[simp] theorem State.withPending_ctl (cs : List Instr) : (s.withPending cs).ctl = s.ctl := rfl
@[simp] theorem State.withPending_cfg (cs : List Instr) : (s.withPending cs).cfg = s.cfg := rfl
@[simp] theorem State.withPending_image (cs : List Instr) : (s.withPending cs).image = s.image := rfl
@[simp] theorem State.withPending_mem (cs : List Instr) : (s.withPending cs).mem = s.mem := rfl
@[simp] theorem State.withPending_path (cs : List Instr) : (s.withPending cs).path = s.path := rfl
@[simp] theorem State.withPending_recs (cs : List Instr) : (s.withPending cs).recs = s.recs := rfl
@[simp] theorem State.withPending_speed (cs : List Instr) : (s.withPending cs).speed = s.speed := rfl
@[simp] theorem State.withPending_aspect (cs : List Instr) : (s.withPending cs).aspect = s.aspect := rfl
@[simp] theorem State.withPending_msg (cs : List Instr) : (s.withPending cs).msg = s.msg := rfl
@[simp] theorem State.withPending_status (cs : List Instr) : (s.withPending cs).status = s.status := rfl
@[simp] theorem State.withPending_link (cs : List Instr) : (s.withPending cs).link = s.link := rfl
@[simp] theorem State.withPending_lines (cs : List Instr) : (s.withPending cs).lines = s.lines := rfl
@[simp] theorem State.withPending_freeCount (cs : List Instr) : (s.withPending cs).freeCount = s.freeCount := rfl

@[simp] theorem State.countOverflow_pending : (s.countOverflow).pending = s.pending := rfl
@[simp] theorem State.countOverflow_ctl : (s.countOverflow).ctl = s.ctl := rfl
@[simp] theorem State.countOverflow_cfg : (s.countOverflow).cfg = s.cfg := rfl
@[simp] theorem State.countOverflow_image : (s.countOverflow).image = s.image := rfl
@[simp] theorem State.countOverflow_mem : (s.countOverflow).mem = s.mem := rfl
@[simp] theorem State.countOverflow_path : (s.countOverflow).path = s.path := rfl
@[simp] theorem State.countOverflow_recs : (s.countOverflow).recs = s.recs := rfl
@[simp] theorem State.countOverflow_speed : (s.countOverflow).speed = s.speed := rfl
@[simp] theorem State.countOverflow_aspect : (s.countOverflow).aspect = s.aspect := rfl
@[simp] theorem State.countOverflow_msg : (s.countOverflow).msg = s.msg := rfl
@[simp] theorem State.countOverflow_status :
    (s.countOverflow).status = { s.status with counts := { s.status.counts with overflow := countUp s.status.counts.overflow } } := rfl
@[simp] theorem State.countOverflow_link : (s.countOverflow).link = s.link := rfl
@[simp] theorem State.countOverflow_lines : (s.countOverflow).lines = s.lines := rfl
@[simp] theorem State.countOverflow_freeCount : (s.countOverflow).freeCount = s.freeCount := rfl

@[simp] theorem State.countLateAck_pending : (s.countLateAck).pending = s.pending := rfl
@[simp] theorem State.countLateAck_ctl : (s.countLateAck).ctl = s.ctl := rfl
@[simp] theorem State.countLateAck_cfg : (s.countLateAck).cfg = s.cfg := rfl
@[simp] theorem State.countLateAck_image : (s.countLateAck).image = s.image := rfl
@[simp] theorem State.countLateAck_mem : (s.countLateAck).mem = s.mem := rfl
@[simp] theorem State.countLateAck_path : (s.countLateAck).path = s.path := rfl
@[simp] theorem State.countLateAck_recs : (s.countLateAck).recs = s.recs := rfl
@[simp] theorem State.countLateAck_speed : (s.countLateAck).speed = s.speed := rfl
@[simp] theorem State.countLateAck_aspect : (s.countLateAck).aspect = s.aspect := rfl
@[simp] theorem State.countLateAck_msg : (s.countLateAck).msg = s.msg := rfl
@[simp] theorem State.countLateAck_status :
    (s.countLateAck).status = { s.status with counts := { s.status.counts with lateAck := countUp s.status.counts.lateAck } } := rfl
@[simp] theorem State.countLateAck_link : (s.countLateAck).link = s.link := rfl
@[simp] theorem State.countLateAck_lines : (s.countLateAck).lines = s.lines := rfl
@[simp] theorem State.countLateAck_freeCount : (s.countLateAck).freeCount = s.freeCount := rfl

@[simp] theorem State.countBadPost_pending : (s.countBadPost).pending = s.pending := rfl
@[simp] theorem State.countBadPost_ctl : (s.countBadPost).ctl = s.ctl := rfl
@[simp] theorem State.countBadPost_cfg : (s.countBadPost).cfg = s.cfg := rfl
@[simp] theorem State.countBadPost_image : (s.countBadPost).image = s.image := rfl
@[simp] theorem State.countBadPost_mem : (s.countBadPost).mem = s.mem := rfl
@[simp] theorem State.countBadPost_path : (s.countBadPost).path = s.path := rfl
@[simp] theorem State.countBadPost_recs : (s.countBadPost).recs = s.recs := rfl
@[simp] theorem State.countBadPost_speed : (s.countBadPost).speed = s.speed := rfl
@[simp] theorem State.countBadPost_aspect : (s.countBadPost).aspect = s.aspect := rfl
@[simp] theorem State.countBadPost_msg : (s.countBadPost).msg = s.msg := rfl
@[simp] theorem State.countBadPost_status :
    (s.countBadPost).status = { s.status with counts := { s.status.counts with badPost := countUp s.status.counts.badPost } } := rfl
@[simp] theorem State.countBadPost_link : (s.countBadPost).link = s.link := rfl
@[simp] theorem State.countBadPost_lines : (s.countBadPost).lines = s.lines := rfl
@[simp] theorem State.countBadPost_freeCount : (s.countBadPost).freeCount = s.freeCount := rfl

@[simp] theorem State.countStrayClear_pending : (s.countStrayClear).pending = s.pending := rfl
@[simp] theorem State.countStrayClear_ctl : (s.countStrayClear).ctl = s.ctl := rfl
@[simp] theorem State.countStrayClear_cfg : (s.countStrayClear).cfg = s.cfg := rfl
@[simp] theorem State.countStrayClear_image : (s.countStrayClear).image = s.image := rfl
@[simp] theorem State.countStrayClear_mem : (s.countStrayClear).mem = s.mem := rfl
@[simp] theorem State.countStrayClear_path : (s.countStrayClear).path = s.path := rfl
@[simp] theorem State.countStrayClear_recs : (s.countStrayClear).recs = s.recs := rfl
@[simp] theorem State.countStrayClear_speed : (s.countStrayClear).speed = s.speed := rfl
@[simp] theorem State.countStrayClear_aspect : (s.countStrayClear).aspect = s.aspect := rfl
@[simp] theorem State.countStrayClear_msg : (s.countStrayClear).msg = s.msg := rfl
@[simp] theorem State.countStrayClear_status :
    (s.countStrayClear).status = { s.status with counts := { s.status.counts with strayClear := countUp s.status.counts.strayClear } } := rfl
@[simp] theorem State.countStrayClear_link : (s.countStrayClear).link = s.link := rfl
@[simp] theorem State.countStrayClear_lines : (s.countStrayClear).lines = s.lines := rfl
@[simp] theorem State.countStrayClear_freeCount : (s.countStrayClear).freeCount = s.freeCount := rfl

@[simp] theorem State.countCopyWrite_pending : (s.countCopyWrite).pending = s.pending := rfl
@[simp] theorem State.countCopyWrite_ctl : (s.countCopyWrite).ctl = s.ctl := rfl
@[simp] theorem State.countCopyWrite_cfg : (s.countCopyWrite).cfg = s.cfg := rfl
@[simp] theorem State.countCopyWrite_image : (s.countCopyWrite).image = s.image := rfl
@[simp] theorem State.countCopyWrite_mem : (s.countCopyWrite).mem = s.mem := rfl
@[simp] theorem State.countCopyWrite_path : (s.countCopyWrite).path = s.path := rfl
@[simp] theorem State.countCopyWrite_recs : (s.countCopyWrite).recs = s.recs := rfl
@[simp] theorem State.countCopyWrite_speed : (s.countCopyWrite).speed = s.speed := rfl
@[simp] theorem State.countCopyWrite_aspect : (s.countCopyWrite).aspect = s.aspect := rfl
@[simp] theorem State.countCopyWrite_msg : (s.countCopyWrite).msg = s.msg := rfl
@[simp] theorem State.countCopyWrite_status :
    (s.countCopyWrite).status = { s.status with counts := { s.status.counts with copyWrite := countUp s.status.counts.copyWrite } } := rfl
@[simp] theorem State.countCopyWrite_link : (s.countCopyWrite).link = s.link := rfl
@[simp] theorem State.countCopyWrite_lines : (s.countCopyWrite).lines = s.lines := rfl
@[simp] theorem State.countCopyWrite_freeCount : (s.countCopyWrite).freeCount = s.freeCount := rfl

/-! ### The lines are driven -/

@[simp] theorem State.driveLines_pending : s.driveLines.pending = s.pending := rfl
@[simp] theorem State.driveLines_ctl : s.driveLines.ctl = s.ctl := rfl
@[simp] theorem State.driveLines_cfg : s.driveLines.cfg = s.cfg := rfl
@[simp] theorem State.driveLines_image : s.driveLines.image = s.image := rfl
@[simp] theorem State.driveLines_mem : s.driveLines.mem = s.mem := rfl
@[simp] theorem State.driveLines_path : s.driveLines.path = s.path := rfl
@[simp] theorem State.driveLines_recs : s.driveLines.recs = s.recs := rfl
@[simp] theorem State.driveLines_speed : s.driveLines.speed = s.speed := rfl
@[simp] theorem State.driveLines_aspect : s.driveLines.aspect = s.aspect := rfl
@[simp] theorem State.driveLines_msg : s.driveLines.msg = s.msg := rfl
@[simp] theorem State.driveLines_status : s.driveLines.status = s.status := rfl
@[simp] theorem State.driveLines_link : s.driveLines.link = s.link := rfl
@[simp] theorem State.driveLines_lines : s.driveLines.lines = s.linesFor := rfl
@[simp] theorem State.driveLines_freeCount : s.driveLines.freeCount = s.freeCount := rfl

end Sys2Proof.Machine
end

