-- ==== Sys2Proof/Laws/Messages.lean ====
section
/-! SUPPORT. What the message unit's operations can do: placing an entry, the fields each request leaves alone, and
the requests of one event. -/

namespace Sys2Proof.Machine

/-! ### Placing an entry -/

theorem placeEntry_perm (e : Entry) (es : List Entry) : (placeEntry e es).Perm (e :: es) := by
  induction es with
  | nil => exact List.Perm.refl _
  | cons y ys ih =>
    simp only [placeEntry]
    split
    · exact List.Perm.refl _
    · exact (List.Perm.cons y ih).trans (List.Perm.swap e y ys)

@[simp] theorem mem_placeEntry (e x : Entry) (es : List Entry) : x ∈ placeEntry e es ↔ x = e ∨ x ∈ es := by
  rw [(placeEntry_perm e es).mem_iff]
  simp

@[simp] theorem length_placeEntry (e : Entry) (es : List Entry) : (placeEntry e es).length = es.length + 1 := by
  rw [(placeEntry_perm e es).length_eq]
  simp

theorem before_trans {x y z : Entry} (h1 : x.before y = true) (h2 : y.before z = true) : x.before z = true := by
  simp only [Entry.before, Bool.or_eq_true, Bool.and_eq_true, decide_eq_true_eq, beq_iff_eq] at *
  omega

/-- Two entries with different ordinals stand in presentation order one way or the other. -/
theorem before_total {x y : Entry} (h : x.ordinal ≠ y.ordinal) (hn : x.before y = false) : y.before x = true := by
  rw [Bool.eq_false_iff] at hn
  simp only [Entry.before, Ne, Bool.or_eq_true, Bool.and_eq_true, decide_eq_true_eq, beq_iff_eq] at *
  omega

/-- An entry with an ordinal of its own, placed in a list in presentation order, leaves it in order (R131). -/
theorem pairwise_placeEntry (e : Entry) (es : List Entry) (ho : ∀ x ∈ es, x.ordinal ≠ e.ordinal)
    (h : es.Pairwise fun x y => x.before y = true) :
    (placeEntry e es).Pairwise fun x y => x.before y = true := by
  induction es with
  | nil => simp [placeEntry]
  | cons y ys ih =>
    rw [List.pairwise_cons] at h
    simp only [placeEntry]
    split
    · rename_i hb
      rw [List.pairwise_cons, List.pairwise_cons]
      refine ⟨?_, h.1, h.2⟩
      intro z hz
      rcases List.mem_cons.1 hz with rfl | hz
      · exact hb
      · exact before_trans hb (h.1 z hz)
    · rename_i hb
      rw [List.pairwise_cons]
      refine ⟨?_, ih (fun x hx => ho x (List.mem_cons_of_mem _ hx)) h.2⟩
      intro z hz
      rcases (mem_placeEntry e z ys).1 hz with rfl | hz
      · exact before_total (Ne.symm (ho y (List.mem_cons_self ..))) (by simpa using hb)
      · exact h.1 z hz

/-! ### Marking the head (R132) -/

/-- Only the head-since time of the head can differ. -/
theorem markHead_cases (now : Time) (before after : List Entry) :
    markHead now before after = after ∨
      ∃ h t, after = h :: t ∧ markHead now before after = { h with headSince := now } :: t := by
  cases after with
  | nil => exact Or.inl rfl
  | cons h t =>
    simp only [markHead]
    split
    · exact Or.inl rfl
    · exact Or.inr ⟨h, t, rfl, rfl⟩

@[simp] theorem length_markHead (now : Time) (b es : List Entry) : (markHead now b es).length = es.length := by
  rcases markHead_cases now b es with h | ⟨x, t, rfl, h⟩ <;> simp [h]

/-! ### What an operation of the unit leaves alone -/

/-- RAISE, CLEAR and ACK change the entries, the ordinal count and the recall stack alone. -/
def MessageUnit.SameBeside (m m' : MessageUnit) : Prop :=
  m' = { m with entries := m'.entries, nextOrdinal := m'.nextOrdinal, recalls := m'.recalls }

theorem MessageUnit.raise_frame (m : MessageUnit) (now : Time) (r : RaiseRequest) :
    m.SameBeside (m.raise now r).1 := by
  unfold MessageUnit.SameBeside MessageUnit.raise
  split
  · rfl
  · split
    · simp only [MessageUnit.createIn, MessageUnit.withList, MessageUnit.roomForOrdinal]
      split <;> rfl
    · split
      · simp only [MessageUnit.createIn, MessageUnit.withList, MessageUnit.roomForOrdinal]
        split <;> rfl
      · rfl

theorem MessageUnit.clear_frame (m : MessageUnit) (now : Time) (code : Nat) :
    m.SameBeside (m.clear now code).1 := by
  unfold MessageUnit.SameBeside MessageUnit.clear
  split
  · rfl
  · split <;> rfl

theorem MessageUnit.ack_frame (m : MessageUnit) (now : Time) (code : Nat) :
    m.SameBeside (m.ack now code).1 := by
  unfold MessageUnit.SameBeside MessageUnit.ack
  split
  · rfl
  · split
    · rfl
    · split <;> rfl
    · split <;> rfl

/-! ### Requests on the state -/

/-- A RAISE changes the message unit as the unit's RAISE does. -/
@[simp] theorem State.raise_msg (s : State) (r : RaiseRequest) : (s.raise r).1.msg = (s.msg.raise s.now r).1 := by
  cases h : (s.msg.raise s.now r).2 <;> simp [State.raise, h]

@[simp] theorem State.raise_outcome (s : State) (r : RaiseRequest) : (s.raise r).2 = (s.msg.raise s.now r).2 := by
  cases h : (s.msg.raise s.now r).2 <;> simp [State.raise, h]

/-- A RAISE changes the message unit and the status unit alone. -/
theorem State.raise_frame (s : State) (r : RaiseRequest) :
    (s.raise r).1 = { s with msg := (s.msg.raise s.now r).1, status := (s.raise r).1.status } := by
  cases h : (s.msg.raise s.now r).2 <;> simp only [State.raise, h] <;> rfl

theorem State.raise_status (s : State) (r : RaiseRequest) :
    (s.raise r).1.status =
      if (s.msg.raise s.now r).2 = .evicted ∨ (s.msg.raise s.now r).2 = .dropped then
        { notices := { s.status.notices with listOverflow := true }
          counts := { s.status.counts with overflow := countUp s.status.counts.overflow } }
      else s.status := by
  cases h : (s.msg.raise s.now r).2 <;> simp [State.raise, h, Notices.add]

theorem State.condClear_frame (s : State) (code : Nat) :
    s.condClear code = { s with msg := (s.msg.clear s.now code).1 } := rfl

/-- What a request of the part can change: the message unit, the status unit, the awaiting flags of the ASPECT
records and the count of free choices. -/
def State.OnlyMessages (s t : State) : Prop :=
  t = { s with msg := t.msg, status := t.status, aspect := { s.aspect with kinds := t.aspect.kinds },
               freeCount := t.freeCount } ∧
    s.msg.SameBeside t.msg ∧ t.aspect.kinds.length = s.aspect.kinds.length

theorem MessageUnit.SameBeside.refl (m : MessageUnit) : m.SameBeside m := rfl

theorem MessageUnit.SameBeside.trans {a b c : MessageUnit} (h1 : a.SameBeside b) (h2 : b.SameBeside c) :
    a.SameBeside c := by
  unfold MessageUnit.SameBeside at *
  rw [h2, h1]

theorem State.OnlyMessages.refl (s : State) : s.OnlyMessages s := ⟨rfl, rfl, rfl⟩

theorem State.OnlyMessages.trans {a b c : State} (h1 : a.OnlyMessages b) (h2 : b.OnlyMessages c) :
    a.OnlyMessages c := by
  obtain ⟨e1, m1, l1⟩ := h1
  obtain ⟨e2, m2, l2⟩ := h2
  exact ⟨by rw [e2, e1], m1.trans m2, l2.trans l1⟩

theorem State.raise_only (s : State) (r : RaiseRequest) : s.OnlyMessages (s.raise r).1 :=
  ⟨by rw [State.raise_frame], by simpa using MessageUnit.raise_frame s.msg s.now r, by rw [State.raise_frame]⟩

theorem State.condClear_only (s : State) (code : Nat) : s.OnlyMessages (s.condClear code) :=
  ⟨rfl, MessageUnit.clear_frame s.msg s.now code, rfl⟩

theorem State.awaitIf_only (s : State) (b : Bool) (n : Nat) : s.OnlyMessages (s.awaitIf b n) := by
  unfold State.awaitIf
  split
  · exact ⟨rfl, rfl, by simp⟩
  · exact State.OnlyMessages.refl s

theorem State.takeOne_only (s : State) (r : PartRequest) : s.OnlyMessages (s.takeOne r).1 := by
  cases r with
  | raise r aw =>
    cases aw with
    | none => exact State.raise_only s r
    | some n => exact (State.raise_only s r).trans (State.awaitIf_only _ _ n)
  | condRaise r =>
    simp only [State.takeOne]
    split
    · exact State.raise_only s r
    · exact State.OnlyMessages.refl s
  | condClear code => exact State.condClear_only s code
  | overrun r => exact State.raise_only s r

theorem State.choose_only (s : State) (k : Nat) : s.OnlyMessages (s.choose k).2 := ⟨rfl, rfl, rfl⟩

theorem takeAll_only (f : Nat) : ∀ (rs : List PartRequest) (s : State), s.OnlyMessages (takeAll f rs s) := by
  induction f with
  | zero => intro rs s; exact State.OnlyMessages.refl s
  | succ f ih =>
    intro rs s
    match rs with
    | [] => exact State.OnlyMessages.refl s
    | [r] => exact (State.takeOne_only s r).trans (ih _ _)
    | r :: r' :: rest =>
      exact ((State.choose_only s _).trans (State.takeOne_only _ _)).trans (ih _ _)

/-- The requests of one event change nothing but what messages change. -/
theorem State.takeRequests_only (s : State) (rs : List PartRequest) : s.OnlyMessages (s.takeRequests rs) :=
  takeAll_only _ rs s

@[simp] theorem State.takeRequests_nil (s : State) : s.takeRequests [] = s := rfl

/-- One request that is followed by no other is taken, without a free choice. -/
theorem State.takeRequests_one (s : State) (r : PartRequest) (h : (s.takeOne r).2 = []) :
    s.takeRequests [r] = (s.takeOne r).1 := by
  simp [State.takeRequests, takeAll, h]

@[simp] theorem State.takeRequests_condClear (s : State) (code : Nat) :
    s.takeRequests [.condClear code] = s.condClear code := State.takeRequests_one s _ rfl

@[simp] theorem State.takeRequests_raise (s : State) (r : RaiseRequest) :
    s.takeRequests [.raise r none] = (s.raise r).1 := State.takeRequests_one s _ rfl

theorem State.takeRequests_condRaise (s : State) (r : RaiseRequest) :
    s.takeRequests [.condRaise r] = if (findEntry r.code s.msg.entries).isNone then (s.raise r).1 else s := by
  rw [State.takeRequests_one]
  · simp only [State.takeOne]
    split <;> rfl
  · simp only [State.takeOne]
    split <;> rfl

/-- Two requests that are followed by no other are taken in one order or the other (R138). -/
theorem State.takeRequests_two (s : State) (a b : PartRequest) (ha : ∀ s : State, (s.takeOne a).2 = [])
    (hb : ∀ s : State, (s.takeOne b).2 = []) :
    s.takeRequests [a, b] = (((s.withFreeCount (s.freeCount + 1)).takeOne a).1.takeOne b).1 ∨
      s.takeRequests [a, b] = (((s.withFreeCount (s.freeCount + 1)).takeOne b).1.takeOne a).1 := by
  have h2 : Config.freeChoice s.freeCount % 2 = 0 ∨ Config.freeChoice s.freeCount % 2 = 1 := by omega
  rcases h2 with h | h
  · left
    simp [State.takeRequests, takeAll, State.choose, h, ha, hb]
  · right
    simp [State.takeRequests, takeAll, State.choose, h, ha, hb]

/-! ### The order of the requests of one event (R73, R138) -/

/-- No request reads the count of free choices. -/
theorem State.takeOne_withFreeCount (s : State) (k : Nat) (r : PartRequest) :
    ((s.withFreeCount k).takeOne r).1 = (s.takeOne r).1.withFreeCount k := by
  have hr : ∀ q, ((s.withFreeCount k).raise q).1 = (s.raise q).1.withFreeCount k := by
    intro q
    simp only [State.raise, State.now, State.withFreeCount]
    split <;> rfl
  have ho : ∀ q, ((s.withFreeCount k).raise q).2 = (s.raise q).2 := fun q => by
    rw [State.raise_outcome, State.raise_outcome]; rfl
  cases r with
  | raise q aw =>
    cases aw with
    | none => exact hr q
    | some n =>
      simp only [State.takeOne, hr, ho, State.awaitIf]
      split <;> rfl
  | condRaise q =>
    simp only [State.takeOne]
    rw [show (s.withFreeCount k).msg = s.msg from rfl]
    split
    · exact hr q
    · rfl
  | condClear code => rfl
  | overrun q => exact hr q

theorem foldl_takeOne_withFreeCount (qs : List PartRequest) : ∀ (s : State) (k : Nat),
    qs.foldl (fun s r => (s.takeOne r).1) (s.withFreeCount k) =
      (qs.foldl (fun s r => (s.takeOne r).1) s).withFreeCount k := by
  induction qs with
  | nil => intro s k; rfl
  | cons q qs ih =>
    intro s k
    simp only [List.foldl_cons, State.takeOne_withFreeCount, ih]

/-- Requests that are followed by no other are each taken once, in some order. -/
theorem takeAll_order (f : Nat) : ∀ (rs : List PartRequest) (s : State), rs.length ≤ f →
    (∀ r ∈ rs, ∀ s : State, (s.takeOne r).2 = []) →
    ∃ (qs : List PartRequest) (k : Nat), qs.Perm rs ∧ takeAll f rs s = (qs.foldl (fun s r => (s.takeOne r).1) s).withFreeCount k := by
  induction f with
  | zero =>
    intro rs s hl _
    have : rs = [] := List.length_eq_zero_iff.1 (by omega)
    subst this
    exact ⟨[], s.freeCount, List.Perm.refl _, rfl⟩
  | succ f ih =>
    intro rs s hl h
    match rs, hl, h with
    | [], _, _ => exact ⟨[], s.freeCount, List.Perm.refl _, rfl⟩
    | [r], _, h =>
      refine ⟨[r], (s.takeOne r).1.freeCount, List.Perm.refl _, ?_⟩
      simp only [takeAll, h r (List.mem_cons_self ..)]
      cases f <;> rfl
    | r :: r' :: rest, hl, h =>
      have hc : (s.choose (r :: r' :: rest).length).1 < (r :: r' :: rest).length :=
        Nat.mod_lt _ (by simp)
      simp only [takeAll]
      generalize hi : (s.choose (r :: r' :: rest).length).1 = i at hc ⊢
      have hg : (r :: r' :: rest).getD i r = (r :: r' :: rest)[i] := by
        simp [List.getD, List.getElem?_eq_getElem hc]
      rw [hg, h _ (List.getElem_mem hc), List.append_nil]
      have hlen : ((r :: r' :: rest).eraseIdx i).length ≤ f := by
        rw [List.length_eraseIdx_of_lt hc]; simp at hl ⊢; omega
      obtain ⟨qs, k, hp, e⟩ := ih ((r :: r' :: rest).eraseIdx i)
        ((s.choose (r :: r' :: rest).length).2.takeOne (r :: r' :: rest)[i]).1 hlen
        (fun x hx => h x (List.mem_of_mem_eraseIdx hx))
      refine ⟨(r :: r' :: rest)[i] :: qs, k,
        (List.Perm.cons _ hp).trans (List.getElem_cons_eraseIdx_perm hc), ?_⟩
      rw [e, List.foldl_cons]
      simp only [State.choose, State.takeOne_withFreeCount, foldl_takeOne_withFreeCount]
      rfl

/-- The requests of one event, where none is followed by another: each is taken once, in some order. -/
theorem State.takeRequests_order (s : State) (rs : List PartRequest)
    (h : ∀ r ∈ rs, ∀ s : State, (s.takeOne r).2 = []) :
    ∃ (qs : List PartRequest) (k : Nat), qs.Perm rs ∧ s.takeRequests rs = (qs.foldl (fun s r => (s.takeOne r).1) s).withFreeCount k :=
  takeAll_order _ rs s (by omega) h

/-! ### A press of the ACK line among the requests (R137, R140) -/

theorem divideRequests_only (rs : List PartRequest) : ∀ s : State, s.OnlyMessages (divideRequests rs s).1 := by
  induction rs with
  | nil => exact State.OnlyMessages.refl
  | cons r rest ih =>
    intro s
    simp only [divideRequests]
    split <;> exact (State.choose_only s 2).trans (ih _)

/-- No request is lost and none is taken twice. -/
theorem divideRequests_perm (rs : List PartRequest) :
    ∀ s : State, ((divideRequests rs s).2.1 ++ (divideRequests rs s).2.2).Perm rs := by
  induction rs with
  | nil => intro s; exact List.Perm.refl _
  | cons r rest ih =>
    intro s
    simp only [divideRequests]
    split
    · exact List.Perm.cons r (ih _)
    · exact List.perm_middle.trans (List.Perm.cons r (ih _))

/-- What a press among the requests of the part can change: what the requests can, and the debouncer. -/
def State.OnlyMessagesAndPress (s t : State) : Prop :=
  t = { s with msg := { s.msg with entries := t.msg.entries, nextOrdinal := t.msg.nextOrdinal,
                                   recalls := t.msg.recalls, debouncer := t.msg.debouncer },
               status := t.status, aspect := { s.aspect with kinds := t.aspect.kinds }, freeCount := t.freeCount } ∧
    t.aspect.kinds.length = s.aspect.kinds.length

theorem State.OnlyMessages.andPress {s t : State} (h : s.OnlyMessages t) : s.OnlyMessagesAndPress t := by
  obtain ⟨e, m, l⟩ := h
  unfold MessageUnit.SameBeside at m
  refine ⟨?_, l⟩
  have m' : t.msg = { s.msg with entries := t.msg.entries, nextOrdinal := t.msg.nextOrdinal,
                                 recalls := t.msg.recalls, debouncer := t.msg.debouncer } := by rw [m]
  rw [← m']; exact e

theorem State.OnlyMessagesAndPress.trans {a b c : State} (h1 : a.OnlyMessagesAndPress b)
    (h2 : b.OnlyMessagesAndPress c) : a.OnlyMessagesAndPress c := by
  obtain ⟨e1, l1⟩ := h1
  obtain ⟨e2, l2⟩ := h2
  exact ⟨by rw [e2, e1], l2.trans l1⟩

/-- An ACK changes the message unit as the unit's ACK does, the late-acknowledgement count and the awaiting flags. -/
theorem State.acknowledge_only (s : State) (code : Nat) : s.OnlyMessages (s.acknowledge code) := by
  have hm := MessageUnit.ack_frame s.msg s.now code
  cases h : (s.msg.ack s.now code).2 <;> simp only [State.acknowledge, h]
  · exact ⟨rfl, hm, by simp [State.systemAcknowledged]⟩
  · exact ⟨rfl, hm, rfl⟩
  · exact ⟨rfl, rfl, rfl⟩

/-- A recognized press (R140). -/
theorem State.press_only (s : State) : s.OnlyMessagesAndPress s.press := by
  have h1 : s.OnlyMessagesAndPress (s.withMsg { s.msg with debouncer := .pressed }) := ⟨rfl, rfl⟩
  have late : ∀ x : State, x.OnlyMessages x.countLateAck := fun x => ⟨rfl, rfl, rfl⟩
  unfold State.press
  dsimp only
  split
  · refine h1.trans (State.OnlyMessages.andPress ?_)
    unfold State.judgePress
    split
    · exact late _
    · split
      · exact State.acknowledge_only _ _
      · exact late _
  · exact h1

/-- The requests of one event with a press between two of them. -/
theorem State.takeAround_press_only (s : State) (rs : List PartRequest) (first last : PartRequest) :
    s.OnlyMessagesAndPress (s.takeAround rs first State.press last) :=
  ((((divideRequests_only rs s).trans (State.takeRequests_only _ _)).andPress).trans (State.press_only _)).trans
    (State.takeRequests_only _ _).andPress

end Sys2Proof.Machine
end

