-- ==== Sys2Proof/Laws/Records.lean ====
section
/-! SUPPORT. What the record engine's events can change, before their requests are taken: one record, its kind state,
the selection state and the notices. -/

namespace Sys2Proof.Machine

/-! ### One record among the others -/

theorem getD_set_ne {α : Type} (l : List α) (n m : Nat) (x d : α) (h : m ≠ n) :
    (l.set n x).getD m d = l.getD m d := by
  simp [List.getD_eq_getElem?_getD, List.getElem?_set_ne (Ne.symm h)]

theorem getD_set_self {α : Type} (l : List α) (n : Nat) (x d : α) (h : n < l.length) :
    (l.set n x).getD n d = x := by
  simp [List.getD_eq_getElem?_getD, h]

@[simp] theorem State.record_setRecord_ne (s : State) (n m : Nat) (r : RecordState) (h : m ≠ n) :
    (s.setRecord n r).record m = s.record m := getD_set_ne _ _ _ _ _ h

theorem State.record_setRecord_self (s : State) (n : Nat) (r : RecordState) (h : n < s.recs.length) :
    (s.setRecord n r).record n = r := getD_set_self _ _ _ _ h

@[simp] theorem State.speedKind_setSpeedKind_ne (s : State) (n m : Nat) (k : SpeedKind) (h : m ≠ n) :
    (s.setSpeedKind n k).speedKind m = s.speedKind m := getD_set_ne _ _ _ _ _ h

theorem State.speedKind_setSpeedKind_self (s : State) (n : Nat) (k : SpeedKind) (h : n < s.speed.kinds.length) :
    (s.setSpeedKind n k).speedKind n = k := getD_set_self _ _ _ _ h

@[simp] theorem State.aspectKind_setAspectKind_ne (s : State) (n m : Nat) (k : AspectKind) (h : m ≠ n) :
    (s.setAspectKind n k).aspectKind m = s.aspectKind m := getD_set_ne _ _ _ _ _ h

theorem State.aspectKind_setAspectKind_self (s : State) (n : Nat) (k : AspectKind)
    (h : n < s.aspect.kinds.length) : (s.setAspectKind n k).aspectKind n = k := getD_set_self _ _ _ _ h

/-- A notice once set stays set. -/
def Notices.within (x y : Notices) : Prop :=
  (x.leftValid = true → y.leftValid = true) ∧ (x.refusal = true → y.refusal = true) ∧
    (x.barred = true → y.barred = true) ∧ (x.listOverflow = true → y.listOverflow = true) ∧
    (x.overrun = true → y.overrun = true) ∧ (x.copyWrite = true → y.copyWrite = true)

theorem Notices.within_refl (x : Notices) : x.within x := ⟨id, id, id, id, id, id⟩

theorem Notices.within_trans {x y z : Notices} (h1 : x.within y) (h2 : y.within z) : x.within z :=
  ⟨h2.1 ∘ h1.1, h2.2.1 ∘ h1.2.1, h2.2.2.1 ∘ h1.2.2.1, h2.2.2.2.1 ∘ h1.2.2.2.1, h2.2.2.2.2.1 ∘ h1.2.2.2.2.1,
    h2.2.2.2.2.2 ∘ h1.2.2.2.2.2⟩

theorem Notices.within_add (x : Notices) (n : Notice) : x.within (x.add n) := by
  cases n <;> simp [Notices.within, Notices.add]

/-- What an event at record `n` can change before its requests are taken. -/
structure State.OnlyRecord (s t : State) (n : Nat) : Prop where
  rest : t = { s with recs := t.recs, speed := { s.speed with kinds := t.speed.kinds }, aspect := t.aspect,
                      status := { s.status with notices := t.status.notices } }
  records : ∀ m, m ≠ n → t.record m = s.record m
  speeds : ∀ m, m ≠ n → t.speedKind m = s.speedKind m
  aspects : ∀ m, m ≠ n → t.aspectKind m = s.aspectKind m
  recsLength : t.recs.length = s.recs.length
  speedsLength : t.speed.kinds.length = s.speed.kinds.length
  aspectsLength : t.aspect.kinds.length = s.aspect.kinds.length
  notices : s.status.notices.within t.status.notices

namespace State.OnlyRecord

theorem refl (s : State) (n : Nat) : s.OnlyRecord s n :=
  ⟨rfl, fun _ _ => rfl, fun _ _ => rfl, fun _ _ => rfl, rfl, rfl, rfl, Notices.within_refl _⟩

theorem trans {a b c : State} {n : Nat} (h1 : a.OnlyRecord b n) (h2 : b.OnlyRecord c n) : a.OnlyRecord c n where
  rest := by
    have e1 := h1.rest
    have e2 := h2.rest
    rw [e2, e1]
  records m hm := (h2.records m hm).trans (h1.records m hm)
  speeds m hm := (h2.speeds m hm).trans (h1.speeds m hm)
  aspects m hm := (h2.aspects m hm).trans (h1.aspects m hm)
  recsLength := h2.recsLength.trans h1.recsLength
  speedsLength := h2.speedsLength.trans h1.speedsLength
  aspectsLength := h2.aspectsLength.trans h1.aspectsLength
  notices := Notices.within_trans h1.notices h2.notices

end State.OnlyRecord

/-! ### The operations -/

theorem State.setRecord_only (s : State) (n : Nat) (r : RecordState) : s.OnlyRecord (s.setRecord n r) n :=
  ⟨rfl, fun m hm => s.record_setRecord_ne n m r hm, fun _ _ => rfl, fun _ _ => rfl, by simp, rfl, rfl,
    Notices.within_refl _⟩

theorem State.setSpeedKind_only (s : State) (n : Nat) (k : SpeedKind) : s.OnlyRecord (s.setSpeedKind n k) n :=
  ⟨rfl, fun _ _ => rfl, fun m hm => s.speedKind_setSpeedKind_ne n m k hm, fun _ _ => rfl, rfl, by simp, rfl,
    Notices.within_refl _⟩

theorem State.setAspectKind_only (s : State) (n : Nat) (k : AspectKind) : s.OnlyRecord (s.setAspectKind n k) n :=
  ⟨rfl, fun _ _ => rfl, fun _ _ => rfl, fun m hm => s.aspectKind_setAspectKind_ne n m k hm, rfl, rfl, by simp,
    Notices.within_refl _⟩

theorem State.setSelection_only (s : State) (n : Nat) (x : Selection) : s.OnlyRecord (s.setSelection x) n :=
  ⟨rfl, fun _ _ => rfl, fun _ _ => rfl, fun _ _ => rfl, rfl, rfl, rfl, Notices.within_refl _⟩

theorem State.notify_only (s : State) (n : Nat) (x : Notice) : s.OnlyRecord (s.notify x) n :=
  ⟨rfl, fun _ _ => rfl, fun _ _ => rfl, fun _ _ => rfl, rfl, rfl, rfl, Notices.within_add _ _⟩

theorem State.notifyIf_only (s : State) (n : Nat) (b : Bool) (x : Notice) : s.OnlyRecord (s.notifyIf b x) n := by
  unfold State.notifyIf
  split
  · exact s.notify_only n x
  · exact State.OnlyRecord.refl s n

theorem State.discardKind_only (s : State) (n : Nat) : s.OnlyRecord (s.discardKind n) n := by
  unfold State.discardKind
  split
  · exact s.setSpeedKind_only n _
  · exact s.setAspectKind_only n _
  all_goals exact State.OnlyRecord.refl s n

theorem State.startTimer_only (s : State) (n : Nat) : s.OnlyRecord (s.startTimer n) n := s.setRecord_only n _

theorem State.enterStale_only (s : State) (n : Nat) : s.OnlyRecord (s.enterStale n) n :=
  (s.setRecord_only n _).trans (State.discardKind_only _ n)

theorem State.expire_only (s : State) (n : Nat) : s.OnlyRecord (s.expire n).1 n := by
  unfold State.expire
  split
  · exact ((s.enterStale_only n).trans (State.notify_only _ n _)).trans (State.startTimer_only _ n)
  · exact ((s.enterStale_only n).trans (State.notify_only _ n _)).trans (State.startTimer_only _ n)
  · exact s.startTimer_only n
  · exact (s.enterStale_only n).trans (State.startTimer_only _ n)
  · exact State.OnlyRecord.refl s n

theorem State.overrunRecord_only (s : State) (n : Nat) : s.OnlyRecord (s.overrunRecord n).1 n := by
  unfold State.overrunRecord
  split
  · split
    · exact (s.enterStale_only n).trans (State.notify_only _ n _)
    · exact s.enterStale_only n
    all_goals exact State.OnlyRecord.refl s n
  · exact State.OnlyRecord.refl s n

theorem State.completeChangeover_only (s : State) (n : Nat) : s.OnlyRecord (s.completeChangeover n).1 n := by
  unfold State.completeChangeover
  simp only
  split
  · exact s.setSelection_only n _
  · exact State.OnlyRecord.refl s n

theorem State.enterValid_only (s : State) (n : Nat) : s.OnlyRecord (s.enterValid n).1 n := by
  unfold State.enterValid
  simp only
  split
  · exact (s.setRecord_only n _).trans (State.completeChangeover_only _ n)
  all_goals exact s.setRecord_only n _

theorem State.acceptStatus_only (s : State) (n : Nat) : s.OnlyRecord (s.acceptStatus n).1 n := by
  unfold State.acceptStatus
  simp only
  split
  · exact s.enterValid_only n
  · exact State.OnlyRecord.refl s n
  · split
    · exact s.enterValid_only n
    · exact s.setRecord_only n _
  · split
    · exact s.enterValid_only n
    · exact s.setRecord_only n _
  · exact State.OnlyRecord.refl s n

theorem State.bar_only (s : State) (n : Nat) : s.OnlyRecord (s.bar n).1 n :=
  (((s.setRecord_only n _).trans (State.notify_only _ n _)).trans (State.notifyIf_only _ n _ _)).trans
    (State.discardKind_only _ n)

theorem State.refuseStatus_only (s : State) (n : Nat) : s.OnlyRecord (s.refuseStatus n).1 n := by
  unfold State.refuseStatus
  simp only
  split
  · exact s.bar_only n
  · split
    · exact s.enterStale_only n
    all_goals exact State.OnlyRecord.refl s n

theorem State.refuse_only (s : State) (n : Nat) (why : Reason) : s.OnlyRecord (s.refuse n why).1 n := by
  have h : ∀ u : State, u.OnlyRecord (u.refuseAspect n) n := by
    intro u
    unfold State.refuseAspect
    split
    · exact u.setAspectKind_only n _
    · exact State.OnlyRecord.refl u n
  exact (((s.setRecord_only n _).trans (State.notify_only _ n _)).trans (h _)).trans (State.refuseStatus_only _ n)

theorem State.acceptKind_only (s : State) (n : Nat) (words : List Word) :
    s.OnlyRecord (s.acceptKind n words).1 n := by
  unfold State.acceptKind
  split
  · exact s.setSpeedKind_only n _
  · unfold State.acceptAspect
    simp only
    split
    · exact State.OnlyRecord.refl s n
    · exact s.setAspectKind_only n _
  · unfold State.acceptSelect State.selectSystem
    simp only
    split
    · exact s.setSelection_only n _
    · split
      · exact s.setSelection_only n _
      · split
        · exact s.setSelection_only n _
        · exact s.setSelection_only n _
  all_goals exact State.OnlyRecord.refl s n

theorem State.accept_only (s : State) (n : Nat) (seq : Byte) (words : List Word) :
    s.OnlyRecord (s.accept n seq words).1 n :=
  (((s.setRecord_only n _).trans (State.acceptKind_only _ n words)).trans (State.acceptStatus_only _ n)).trans
    (State.startTimer_only _ n)

theorem State.close_only (s : State) (n : Nat) (crc : Byte) (words : List Word) (w : Word) :
    s.OnlyRecord (s.close n crc words w).1 n := by
  unfold State.close
  split
  · exact s.refuse_only n _
  · exact s.accept_only n _ _

/-- The engine's step for a served window write touches record `n` alone (R40). -/
theorem State.writeStep_only (s : State) (n k : Nat) (w : Word) : s.OnlyRecord (s.writeStep n k w).1 n := by
  unfold State.writeStep
  split
  · exact s.setRecord_only n _
  · split
    · exact s.refuse_only n _
    · split
      · exact s.refuse_only n _
      · split
        · exact s.close_only n _ _ _
        · exact s.setRecord_only n _

theorem State.releaseRecord_only (s : State) (n : Nat) : s.OnlyRecord (s.releaseRecord n).1 n :=
  (s.setRecord_only n _).trans (State.startTimer_only _ n)

end Sys2Proof.Machine
end

