-- ==== Sys2Proof/Laws/Exec.lean ====
section
/-! SUPPORT. Every meaning ends in `complete`: a command answers a next state whose lines are driven; the bytes of a
command and the request they are parsed as. -/

namespace Sys2Proof.Machine

/-- Every command answers a next state, its lines driven last. -/
theorem exec_drives (c : Instr) (s : State) : ∃ u : State, exec c s = .next u.driveLines := by
  cases c <;>
    simp only [exec, execPowerOn, execSupplyDip, execResetLine, execPowerUpEnd, execMemoryInitPauseEnd,
      execInitialRefreshDone, execStartupLoadDone, execDeskOnInputChange, execDeskOnFilterChange,
      execMillisecondTick, execRefreshTick, execArbiterGrant, execRefreshDone, execUpstreamColumnDone,
      execUpstreamArrival, execScanBurstArrival, execScanWord, execFreshnessExpiry, execChangeoverTimerExpiry,
      execAxlePulse, execAxleWindowEnd, execAckLineAsserted, execAckLineReleased, execAckPress,
      execAckReleaseSettled, execPostMessageWord, execPostRaise, execPostClear, execPostAck, execBadPost,
      execStatusWord0Read, execLinkAddressProbe, execReadRequest, execReadTransfer, execSectionWrite,
      execEnterConfig, execResume, execStore, execStoreDone, execLoad, execLoadDone, execRelease, execClearRecall,
      execRestart, execBadCommand, execResetLineReleased, execSupplyGoodAfterDip, complete] <;>
    first
      | exact ⟨_, rfl⟩
      | (repeat' split) <;> exact ⟨_, rfl⟩

/-! ### Command frames (R155, R161) -/

/-- The request a command's bytes carry. -/
def commandRequest (code : Byte) (f : CommandFrame) : LinkRequest :=
  { isRead := false, checkFlag := f.checkFlag, sectionNo := 14, offset := 0, count := 1,
    data := wordsOf [code, f.arg] }

theorem requestOf_command (code : Byte) (f : CommandFrame) :
    requestOf ((0#1 ++ BitVec.ofBool f.checkFlag ++ f.ignored ++ 0#3 : BitVec 8)) 14#8 0#8 0#8
      (code :: f.arg :: f.tail) = commandRequest code f := by
  have h : ∀ (b : Bool) (i : BitVec 3),
      BitVec.msb (0#1 ++ BitVec.ofBool b ++ i ++ 0#3 : BitVec 8) = false ∧
      BitVec.getLsbD (0#1 ++ BitVec.ofBool b ++ i ++ 0#3 : BitVec 8) 6 = b ∧
      (0#1 ++ BitVec.ofBool b ++ i ++ 0#3 : BitVec 8).toNat % 8 = 0 := by
    decide
  obtain ⟨h1, h2, h3⟩ := h f.checkFlag f.ignored
  simp only [requestOf, commandRequest, h1, h2, h3]
  simp [wordsOf]

/-- A command is executed exactly where it is framed right (R155). -/
theorem parseRequest_command (code : Byte) (f : CommandFrame) :
    parseRequest f.target (commandBytes code f) =
      if f.tail.length = (if f.checkFlag then 1 else 0) ∧
          (f.checkFlag = true → f.tail =
            [linkCrc (writeAddressByte f.target :: commandBytes code { f with tail := [] })]) then
        some (commandRequest code f)
      else none := by
  have hq := requestOf_command code f
  unfold parseRequest commandBytes
  generalize ((0#1 ++ BitVec.ofBool f.checkFlag ++ f.ignored ++ 0#3 : BitVec 8)) = b0 at hq ⊢
  simp only [hq]
  obtain ⟨target, flag, ignored, arg, tail⟩ := f
  cases flag
  · cases tail <;> simp [commandRequest, LinkRequest.byteCount]
  · match tail with
    | [] => simp [commandRequest, LinkRequest.byteCount]
    | [b] =>
      by_cases h : linkCrc [writeAddressByte target, b0, 14#8, 0#8, 0#8, code, arg] = b
      · simp [commandRequest, LinkRequest.byteCount, h]
      · simp [commandRequest, LinkRequest.byteCount, h, Ne.symm h]
    | b :: b' :: t => simp [commandRequest, LinkRequest.byteCount]

end Sys2Proof.Machine
end

