-- ==== Sys2Proof/Laws/Image.lean ====
section
/-! SUPPORT. The configuration image (R169): the image of a configuration of the right shape is valid and holds it. -/

namespace Sys2Proof.Machine

theorem Sections.toWords_length (c : Sections) (h : c.shaped) : c.toWords.length = 814 := by
  obtain ⟨h0, h1, h2, h3, h4, h5, h6⟩ := h
  simp [Sections.toWords, h0, h1, h2, h3, h4, h5, h6]

theorem imageOf_length (c : Sections) (h : c.shaped) : (imageOf c).length = 816 := by
  simp [imageOf, c.toWords_length h]

theorem imageOf_words (c : Sections) (h : c.shaped) : ((imageOf c).drop 1).take 814 = c.toWords := by
  simp [imageOf, c.toWords_length h]

theorem imageOf_take (c : Sections) (h : c.shaped) : (imageOf c).take 815 = Config.imageFormat :: c.toWords := by
  simp [imageOf, c.toWords_length h]

theorem imageOf_crc (c : Sections) (h : c.shaped) : at0 (imageOf c) 815 = imageCrc ((imageOf c).take 815) := by
  rw [imageOf_take c h]
  simp [at0, imageOf, List.getD, c.toWords_length h]

theorem imageValid_imageOf (c : Sections) (h : c.shaped) : imageValid (imageOf c) = true := by
  unfold imageValid
  rw [imageOf_crc c h]
  simp [at0, imageOf]

theorem sectionsOfWords_toWords (c : Sections) (h : c.shaped) (rest : List Word) :
    sectionsOfWords (c.toWords ++ rest) = c := by
  obtain ⟨h0, h1, h2, h3, h4, h5, h6⟩ := h
  cases c
  simp only [sectionsOfWords, Sections.toWords] at *
  simp [List.drop_append, h0, h1, h2, h3, h4, h5, h6, List.drop_of_length_le]

theorem imageSections_imageOf (c : Sections) (h : c.shaped) : imageSections (imageOf c) = c := by
  show sectionsOfWords (c.toWords ++ _) = c
  exact sectionsOfWords_toWords c h _

end Sys2Proof.Machine
end

