-- ==== Sys2Proof/Laws/Memory.lean ====
section
/-! SUPPORT. The indication memory: a read after a write, and the canonical form kept by every operation. -/

namespace Sys2Proof.Machine

theorem lookupCell_insertCell (a b : Nat) (w : Word) (cells : List (Nat × Word)) :
    lookupCell b (insertCell a w cells) = if b = a then some w else lookupCell b cells := by
  induction cells with
  | nil => simp [insertCell, lookupCell]
  | cons x rest ih =>
    obtain ⟨c, v⟩ := x
    simp only [insertCell]
    split
    · simp [lookupCell]
    · split
      · subst_vars
        by_cases h : b = c <;> simp [lookupCell, h]
      · simp only [lookupCell, ih]
        split_ifs <;> simp_all

/-- A read after a write: the word written at its address, what was read before at any other. -/
theorem Memory.read_write (m : Memory) (a x : Addr) (w : Word) :
    (m.write a w).read x = if x = a then w else m.read x := by
  simp only [Memory.read, Memory.write, lookupCell_insertCell, BitVec.toNat_inj]
  split <;> simp

@[simp] theorem Memory.read_write_same (m : Memory) (a : Addr) (w : Word) : (m.write a w).read a = w := by
  simp [Memory.read_write]

theorem Memory.read_write_other (m : Memory) (a x : Addr) (w : Word) (h : x ≠ a) :
    (m.write a w).read x = m.read x := by
  simp [Memory.read_write, h]

@[simp] theorem Memory.write_epoch (m : Memory) (a : Addr) (w : Word) : (m.write a w).epoch = m.epoch := rfl

/-- Addresses that rise from a lower bound `b` on, none above the last address. -/
theorem risingFrom_insertCell (a : Nat) (w : Word) (ha : a ≤ Config.lastAddress) (cells : List (Nat × Word)) :
    ∀ b : Option Nat, (∀ c, b = some c → c < a) → risingFrom b cells = true →
      risingFrom b (insertCell a w cells) = true := by
  induction cells with
  | nil =>
    intro b hb _
    cases b with
    | none => simp [insertCell, risingFrom, ha]
    | some c => simp [insertCell, risingFrom, ha, hb c rfl]
  | cons x rest ih =>
    obtain ⟨c, v⟩ := x
    intro b hb h
    simp only [insertCell]
    split
    · rename_i hac
      cases b with
      | none => simp_all [risingFrom]
      | some d => simp_all [risingFrom]
    · split
      · subst_vars
        cases b <;> simp_all [risingFrom]
      · rename_i h1 h2
        have hca : c < a := by omega
        cases b with
        | none =>
          simp only [risingFrom, Bool.and_eq_true, decide_eq_true_eq] at h ⊢
          exact ⟨h.1, ih (some c) (by intro d hd; cases hd; exact hca) h.2⟩
        | some d =>
          simp only [risingFrom, Bool.and_eq_true, decide_eq_true_eq] at h ⊢
          exact ⟨h.1, ih (some c) (by intro e he; cases he; exact hca) h.2⟩

/-- A column write keeps the canonical form. -/
theorem Memory.write_wf (m : Memory) (a : Addr) (w : Word) (h : m.wf = true) : (m.write a w).wf = true := by
  have : a.toNat ≤ Config.lastAddress := by
    have := a.isLt
    simp only [Config.lastAddress]
    omega
  exact risingFrom_insertCell a.toNat w this m.cells none (by simp) h

@[simp] theorem Memory.forget_wf (m : Memory) : m.forget.wf = true := rfl

@[simp] theorem State.reset_mem_wf : State.reset.mem.wf = true := rfl

end Sys2Proof.Machine
end

