-- ==== Sys2Proof/Laws/Path.lean ====
section
/-! SUPPORT. The memory path: the disposition of a transaction by part state, an arrival, a grant, and the service of a
granted transaction by its disposition. -/

namespace Sys2Proof.Machine

/-! ### Dispositions (R3, R15) -/

theorem State.inService_iff (s : State) : s.inService = true ↔ s.ctl.part = .run ∨ s.ctl.part = .retain := by
  simp [State.inService, State.part]

theorem State.disposition_read (s : State) (a : Addr) (h : s.inService = true) :
    s.disposition (.read a) = s.decideRead a (s.cfg.classify .upstream a) := by
  rcases (State.inService_iff s).1 h with h | h <;> simp [State.disposition, State.part, h]

theorem State.disposition_write (s : State) (a : Addr) (w : Word) (h : s.inService = true) :
    s.disposition (.write a w) = s.decideWrite a (s.cfg.classify .upstream a) := by
  rcases (State.inService_iff s).1 h with h | h <;> simp [State.disposition, State.part, h]

theorem State.disposition_out (s : State) (r : UpstreamRequest) (h : s.ctl.part = .config ∨ s.ctl.part = .safe) :
    s.disposition r = .memory (requestAddr r) := by
  rcases h with h | h <;> simp [State.disposition, State.part, h]

/-- The disposition looks at the part state, the tables, the records, their kinds, the list and the pins alone. -/
theorem State.disposition_withPath (s : State) (p : Path) (r : UpstreamRequest) (h : p.scan = s.path.scan) :
    (s.withPath p).disposition r = s.disposition r := by
  have hp : ∀ n, (s.withPath p).pinned n = s.pinned n := by
    intro n
    simp only [State.pinned, State.withPath_path, h]
  have hw : ∀ a c, (s.withPath p).decideWrite a c = s.decideWrite a c := by
    intro a c
    cases c <;> simp only [State.decideWrite, State.decideWindowWrite, hp] <;> rfl
  simp only [State.disposition, hw]
  rfl

/-! ### Arrivals (R2, R3) -/

theorem State.arrive_idle (s : State) (r : UpstreamRequest) (h : s.path.up = .idle) : s.arrive r = s.dispose r := by
  simp [State.arrive, h]

theorem State.arrive_held (s : State) (r : UpstreamRequest) (h : s.path.up ≠ .idle) : s.arrive r = s := by
  unfold State.arrive
  split <;> first | rfl | contradiction

/-! ### Grants (R4, R9, R10) -/

/-- The state right after the port is granted to the upstream transaction. -/
def State.upstreamGranted (s : State) : State :=
  s.withPath { s.path with port := { holder := .upstream, openRow := none, ops := [] }, alternate := false }

theorem winner_upstream (s : State) (r : UpstreamRequest) (h : GrantsUpstream s r) : s.winner = .upstream := by
  obtain ⟨hu, -, hd, ha⟩ := h
  have hw : s.upWaits = true := by simp [State.upWaits, hu]
  have : ¬ 4 ≤ s.path.refresh.debt := by omega
  rcases ha with h | h <;> simp [State.winner, this, hw, h]

/-- A grant to the upstream transaction `r` serves it by its disposition at the grant. -/
theorem arbitrate_upstream (s : State) (r : UpstreamRequest) (h : GrantsUpstream s r) :
    s.arbitrate = s.upstreamGranted.serveGranted r := by
  have hw := winner_upstream s r h
  obtain ⟨hu, hp, -, -⟩ := h
  simp only [State.arbitrate, hp, hw, State.grantUpstream, hu]
  rfl

@[simp] theorem State.upstreamGranted_disposition (s : State) (r : UpstreamRequest) :
    s.upstreamGranted.disposition r = s.disposition r := s.disposition_withPath _ r rfl

@[simp] theorem State.upstreamGranted_inService (s : State) : s.upstreamGranted.inService = s.inService := rfl

/-- The state after the column write of a granted WRITE. -/
def State.written (s : State) (r : UpstreamRequest) (a : Addr) (w : Word) : State :=
  (s.withPath { s.path with port := servedPort a (.columnWrite a w), alternate := false,
                            up := .serving r none }).withMem (s.mem.write a w)

theorem serveMemory_write (s : State) (x : Addr) (a : Addr) (w : Word) :
    s.upstreamGranted.serveMemory (.write x w) a = s.written (.write x w) a w := rfl

theorem serveMemory_read (s : State) (x a : Addr) :
    s.upstreamGranted.serveMemory (.read x) a =
      s.withPath { s.path with port := servedPort a (.columnRead a), alternate := false,
                               up := .serving (.read x) (some (s.mem.read a)) } := rfl

theorem writtenAt_written (s : State) (r : UpstreamRequest) (a : Addr) (w : Word) :
    WrittenAt s (s.written r a w) r a w := ⟨fun x => Memory.read_write s.mem a x w, rfl⟩

/-- A served window write is written to the back copy and is one event with the engine's step (R40). -/
theorem arbitrate_windowWrite (s : State) (a : Addr) (w : Word) (n k : Nat) (h : ServesWindowWrite s a w n k) :
    s.arbitrate =
      Event.finish ((s.written (.write a w) (s.copyAddr n (s.record n).front.other k) w).writeStep n k w) := by
  obtain ⟨hg, hs, hc, -, hb, hp, hk, hi⟩ := h
  have hd : s.disposition (.write a w) = .memoryRecord (s.backAddr n k) n k := by
    rw [s.disposition_write a w hs, hc]
    have h1 : ¬ (s.cfg.entry n).inputs < k := by omega
    have h2 : (s.cfg.entry n).held = true := by
      simpa [RecordEntry.held, State.kind] using hk
    simp [State.decideWrite, State.decideWindowWrite, hb, hp, h1, h2]
  rw [arbitrate_upstream s _ hg]
  simp only [State.serveGranted, State.upstreamGranted_disposition, hd, requestData]
  rfl

/-! ### A refresh overrun (R13, R137) -/

/-- With no press due the requests of an overrun are taken as those of any other event. -/
theorem overrunMessages_noPress (e : Event) (h : e.1.pressDue = false) :
    overrunMessages e = Event.finish (e.1, e.2 ++ [.overrun overrunRaise]) := by
  simp [overrunMessages, h]

/-- The requests of an overrun change nothing but what messages and a press change. -/
theorem overrunMessages_only (e : Event) : e.1.OnlyMessagesAndPress (overrunMessages e) := by
  unfold overrunMessages
  split
  · dsimp only
    split
    · exact (State.choose_only e.1 2).andPress.trans (State.takeAround_press_only _ _ _ _)
    · exact ((State.choose_only e.1 2).trans (State.takeRequests_only _ _)).andPress
  · exact (State.takeRequests_only _ _).andPress

/-! ### The wait line (R2, R18) -/

theorem State.waitCondition_iff (s : State) : s.waitCondition = true ↔ WaitHeld s := by
  simp [State.waitCondition, WaitHeld, State.startingUp, State.part, bne_iff_ne, or_assoc]

/-- A full reset leaves no transaction at the upstream port, and keeps the wait line toward one that it cut off. -/
@[simp] theorem State.fullReset_cutOff (s : State) (c : ResetCause) :
    (s.fullReset c).path.cutOff = s.waitCondition := rfl

end Sys2Proof.Machine
end

