-- ==== Sys2Proof/Tests/Slice0.lean ====
section
/-! SUPPORT. Tests of the model on single steps, and the witnesses that the hypotheses of the statements can be met.
Expected values come from the rules and worked tables of spec/. -/

open Sys2Proof Sys2Proof.Machine

namespace Sys2Proof.Tests

-- Many small kernel checks at once would each take a thread of their own.
set_option Elab.async false

/-! ### States to test on -/

/-- A configuration that passes the consistency check: record 0 ASPECT of system 0 (confirmation count 1), record 1
ASPECT of system 1 (confirmation count 2), record 2 SELECT, record 3 SPEED, record 4 PLAIN with two input words, and
one window of each class. -/
def deskCfg : Sections :=
  { Sections.reset with
    regions := overwrite (List.replicate 120 0#16) 0
      [0x4200#16, 5000#16, 5004#16, 0x4201#16, 5010#16, 5014#16, 0x4202#16, 5020#16, 5024#16,
       0x4203#16, 5030#16, 5036#16, 0x4204#16, 5040#16, 5042#16, 0x4300#16, 6000#16, 6007#16,
       0x4400#16, 6008#16, 6011#16, 0x4500#16, 6016#16, 6055#16, 0x4600#16, 6056#16, 6087#16,
       0x4100#16, 7000#16, 7000#16, 0x8000#16, 7001#16, 7002#16]
    records := overwrite (List.replicate 96 0#16) 0
      [0x4004#16, 20000#16, 20010#16, 0x0A24#16, 0x4080#16, 20020#16, 20030#16, 0x0A24#16,
       0x6000#16, 20040#16, 20050#16, 0x0A24#16, 0x2000#16, 20060#16, 20070#16, 0x0A44#16,
       0x8400#16, 20080#16, 20090#16, 0x0A44#16]
    aspects := overwrite (overwrite Sections.reset.aspects 0 [0xA2F0#16, 0x2040#16, 0x8002#16, 0x2141#16, 0x0009#16])
      33 [0xC2F1#16, 0x0546#16, 0x0006#16, 0x0748#16, 0x000B#16] }

/-- The part in a part state under `deskCfg`, at 5000 ms, with DESK_ON high and refresh running. -/
def desk (p : PartState) : State :=
  { State.reset with
    cfg := deskCfg
    ctl := { Control.reset with part := p, deskOnInput := true, deskLevel := true, ms := 5000#32 }
    path := { Path.reset with refresh := { row := 16#10, debt := 0, armed := true, ticking := true } } }

/-- RUN with an upstream transaction that waits for the free port. -/
def claims (r : UpstreamRequest) : State := (desk .run).withUp (.claiming r)

/-- A record with a display status, a write state and a last accepted sequence of 16. -/
def rec1 (st : Status) (w : WriteState) : RecordState :=
  { RecordState.reset with
    status := st, write := w, lastSeq := some 16#8, progress := if st = .recovering then 1 else 0
    timer := if st = .barred then none else some 6000#32 }

/-- The open version of record `n` with these input words. -/
def openWith (n : Nat) (ws : List Word) : WriteState := .opened ws.length (crc8 (recordCrcStart n) (bytesOf ws)) ws

/-- The check word that closes a version with sequence number 17. -/
def checkWord (n : Nat) (ws : List Word) : Word :=
  wordOf 17#8 (crc8 (recordCrcStart n) (bytesOf ws ++ [17#8]))

/-- RUN with the complete version `ws` of record `n` open and its check word waiting at the free port. -/
def closing (n : Nat) (a : Addr) (st : Status) (ws : List Word) : State :=
  (claims (.write a (checkWord n ws))).setRecord n (rec1 st (openWith n ws))

def entryOf (code cls : Nat) (needsAck : Bool) (st : EntryState) (ordinal : Nat) : Entry :=
  { code := code, cls := cls, source := .postCell 0, needsAck := needsAck, state := st, marker := 0#8,
    raiseTime := 1000#32, ordinal := ordinal, count := 1, headSince := 1000#32 }

def raiseOf (code cls : Nat) (needsAck : Bool) : RaiseRequest :=
  { code := code, cls := cls, source := .postCell 1, needsAck := needsAck, marker := 9#8 }

/-- The state with a message list. -/
def listing (s : State) (es : List Entry) (next : Nat) : State :=
  s.withMsg { s.msg with entries := es, nextOrdinal := next }

/-- Thirty-two class 2 entries that need no acknowledgement. -/
def fullList : List Entry := (List.range 32).map fun i => entryOf (100 + i) 2 false .acked i

/-- A burst in service. -/
def burst (phase : BurstPhase) (next : Addr) (left : Nat) (pins : List Snapshot) : Scan :=
  .active { next := next, left := left, phase := phase, pins := pins }

/-- A command frame with no check byte, and one with the check flag and its check byte. -/
def frame (arg : Byte) : CommandFrame := { target := 0x2C#7, checkFlag := false, ignored := 0#3, arg := arg, tail := [] }
def checkedFrame (code arg : Byte) : CommandFrame :=
  { target := 0x2C#7, checkFlag := true, ignored := 5#3, arg := arg,
    tail := [linkCrc (writeAddressByte 0x2C#7 :: commandBytes code
      { target := 0x2C#7, checkFlag := true, ignored := 5#3, arg := arg, tail := [] })] }

/-- The state a command answers with, for tests of one step. -/
def after (c : Instr) (s : State) : State :=
  match exec c s with
  | .next t => t
  | .fault _ => s
  | .refused _ => s

/-! ### Well-formedness: an ill-formed term for each check -/

theorem test_scanCountAbove128_refused : (Instr.scanBurstArrival 0#17 129#8).wellFormed = false := by decide
theorem test_scanCount128_ok : (Instr.scanBurstArrival 0#17 128#8).wellFormed = true := by decide
theorem test_expiryOfRecord24_refused : (Instr.freshnessExpiry 24).wellFormed = false := by decide
theorem test_badPostWithAction3_refused : (Instr.badPost 0#17 0#8 0#4 3#4).wellFormed = false := by decide
theorem test_readRequestOfWriteByte_refused :
    (Instr.readRequest { target := 0x2C#7, bytes := [0#8, 0#8, 0#8, 0#8] }).wellFormed = false := by decide
theorem test_emptySectionWrite_refused :
    (Instr.sectionWrite { target := 0x2C#7, bytes := [] }).wellFormed = false := by decide
theorem test_sectionWriteOfCommand_refused :
    (Instr.sectionWrite { target := 0x2C#7, bytes := [0#8, 14#8, 0#8, 0#8, 1#8, 0#8] }).wellFormed = false := by decide
theorem test_storeDoneFault816_refused : (Instr.storeDone [(816, 0#16)]).wellFormed = false := by decide
theorem test_badCommand7_refused : (Instr.badCommand 7#8 (frame 0#8)).wellFormed = false := by decide

/-- spec/opcode_table.json gives no row any bits. -/
theorem test_noWordSpellsACommand : decodeTableWord 16 0 = none := by decide

/-! ### Functions, against the worked values of spec/ -/

/-- R44, the versions of Table 3.4: record 2 with word 1 and sequences 5 and 6. -/
theorem test_recordCrc_table34 :
    crc8 (recordCrcStart 2) [0x00#8, 0x01#8, 0x05#8] = 0x28#8 ∧
      crc8 (recordCrcStart 2) [0x00#8, 0x01#8, 0x06#8] = 0x0F#8 := by decide +kernel

/-- R156, the worked read request. -/
theorem test_linkCrc_worked : linkCrc [0x58#8, 0xC0#8, 0x09#8, 0x00#8, 0x00#8] = 0x26#8 := by decide +kernel

/-- Section 5.3: permitted speed 1280 steps, warning margin 32, intervention margin 80 steps. -/
theorem test_supervision_bounds :
    [1280, 1281, 1312, 1313, 1360, 1361].map (fun v => supervision
      { scaleEnd := 200, slewLimit := 2, hysteresis := 3, warnAbs := 2, warnProp := 20, intAbs := 5, intProp := 40,
        tolAbs := 3, tolProp := 50, runLength := 2 } v 1280 65535) = [1, 3, 3, 4, 4, 5] := by decide +kernel

/-- R23, R24: window offset, implicit copy area, unmatched address. -/
theorem test_classify :
    deskCfg.classify .upstream 5031#17 = .record 3 1 ∧ deskCfg.classify .upstream 20064#17 = .copy ∧
      deskCfg.classify .scan 7000#17 = .protect ∧ deskCfg.classify .scan 9000#17 = .unmatched ∧
      deskCfg.classify .upstream 7002#17 = .pass ∧ deskCfg.classify .upstream 6007#17 = .post 7 := by decide +kernel

/-- Tables 2.1, 3.1, 3.2 and 6.1: element 9, entries 0 and 3, and entries of both aspect tables of `deskCfg`. -/
theorem test_tables :
    deskCfg.region 9 = { matchType := .range, ports := .both, action := .protect, opA := 7000#17, opB := 7000#17, record := 0 } ∧
    deskCfg.entry 0 = { kind := .aspect, inputField := 0, system := 0, copyA := 20000#17, copyB := 20010#17, staleClass := 0,
                        staleNeedsAck := true, freshness := 10, recovery := 1, refusalLimit := 2 } ∧
    ((deskCfg.entry 3).inputs = 3 ∧ (deskCfg.entry 3).length = 7) ∧
    deskCfg.findAspect 0 0x21 = some { code := 0x21, symbol := 0x41, onEntry := false, rank := 9 } ∧
    deskCfg.confirmCount 1 = 2 := by decide +kernel

/-- The CRCs by their rules and the model's, on a few words. -/
theorem test_crcByRule : crc8ByRule 0xFD#8 [0x00#8, 0x01#8, 0x05#8] = 0x28#8 ∧
    imageCrc [0x3720#16, 0x00FF#16, 0x8001#16] = crc16ByRule [0x3720#16, 0x00FF#16, 0x8001#16] := by decide +kernel

theorem test_deskCfg_consistent : deskCfg.check = none := by decide +kernel
theorem test_resetCfg_withoutRecords_consistent : Sections.reset.check = none := by decide +kernel

/-! ### Single steps -/

/-- R162: a RESTART is a full reset with its cause. -/
theorem test_restart : (after (.restart (frame 0#8)) (desk .run)).ctl.part = .powerUp ∧
    (after (.restart (frame 0#8)) (desk .run)).ctl.cause = .linkRestart := by decide +kernel

/-- R24: a write into a copy area is dropped, counted and noticed, and ATTN goes high. -/
theorem test_copyWrite :
    (after (.upstreamArrival (.write 20003#17 7#16)) (desk .run)).status.counts.copyWrite = 1 ∧
      (after (.upstreamArrival (.write 20003#17 7#16)) (desk .run)).lines.attn = true := by decide +kernel

/-- R85, R86: the record's previous speed of 160 steps climbs by one step in 10 ms at a limit of 1 km/h per second. -/
theorem test_slew_minimumStep :
    slewed (deskCfg.speedSettings 3) (some { slewed := 160, displayed := 10, time := 4990#32 }) 200 5000#32 = 161 := by
  decide +kernel

/-- R97: with no axle measurement and a SPEED record not VALID there is no standstill. -/
theorem test_noStandstill : (after (.enterConfig (frame 0#8)) (desk .run)).link.result = 0x6E01#16 := by decide +kernel

/-- R134: a class 1 message takes the place of the last of a full list. -/
theorem test_eviction :
    ((listing (desk .run) fullList 32).raise (raiseOf 7 1 true)).2 = .evicted ∧
      ((listing (desk .run) fullList 32).raise (raiseOf 7 1 true)).1.status.counts.overflow = 1 := by decide +kernel

/-- R127: a RAISE from a cell with an empty stage is a bad post. -/
theorem test_raiseWithEmptyStage :
    (after (.postRaise 6001#17 7#8 0#4) (desk .run)).status.counts.badPost = 1 := by decide +kernel

/-- R159: a read transfer with an empty reply buffer sends 0xFF bytes. -/
theorem test_emptyReply : (after (.readTransfer 0x2C#7 2) (desk .run)).link.out = [0xFF#8, 0xFF#8] := by decide +kernel

/-! ### Witnesses: the hypotheses of the statements can be met

Each theorem names the statement whose hypotheses it meets, with a state and operands for each clause. -/

/-- The shape of a state that differs from `desk p` in nothing the invariant reads. -/
theorem shape_of (s : State) (h : s.cfg = deskCfg) (hi : s.image.length = 816) (hr : s.recs.length = 24)
    (hs : s.speed.kinds.length = 24) (ha : s.aspect.kinds.length = 24) (hm : s.msg.stages.length = 4)
    (hj : s.link.job = none) : ShapeInv s := by
  refine ⟨?_, hi, hr, hs, ha, hm, fun j e => ?_⟩
  · rw [h]; unfold Sections.shaped; decide +kernel
  · rw [hj] at e; cases e

/-- A busy part in service: a VALID SPEED and a STALE ASPECT record, an active changeover, a message, a burst. -/
def busy : State :=
  let s := (((desk .run).setRecord 3 (rec1 .valid (openWith 3 [160#16]))).setRecord 1 (rec1 .stale .closed)).setSpeedKind 3
    { SpeedKind.reset with presented := some { p0 := 10#16, p1 := 0#16, p2 := 250#16, cls := 4 } }
  let s := s.setSelection { inForce := some 0, requested := some 1, changeover := true, timer := .running 9000#32 }
  let s := (listing s [entryOf 300 1 true .unacked 4, entryOf 301 2 false .acked 3] 5).withScan
    (burst .runningFree 6008#17 2 [])
  { s with pending := [.refreshTick], mem := { epoch := 1, cells := [(5, 7#16), (131071, 8#16)] } }

theorem test_busyState_meetsInvariants : busy.mem.wf = true ∧ ShapeInv busy ∧ JobInv busy ∧ PortInv busy ∧
    ListInv busy ∧ RecordsInv busy ∧ SelectionInv busy ∧ PresentedInv busy ∧ ∃ t, step busy = .next t := by
  refine ⟨by decide +kernel, ?_, ?_, ?_, ?_, ?_, ?_, ?_, ⟨_, rfl⟩⟩
  · exact shape_of _ rfl (by decide +kernel) (by decide +kernel) (by decide +kernel) (by decide +kernel)
      (by decide +kernel) rfl
  · intro h; exact absurd rfl h
  · refine ⟨?_, ?_, by decide +kernel, by decide +kernel, ?_, ?_⟩
    · exact ⟨fun h => absurd h (by decide +kernel), fun h => h.elim⟩
    · exact ⟨fun h => absurd h (by decide +kernel), fun h => absurd h (show ¬BurstPhase.runningFree = .holdingPort by decide)⟩
    · intro b h; cases h; decide
    · intro a h; cases h
  · unfold ListInv; decide +kernel
  · refine ⟨fun n hn => ?_, fun h => absurd h (by decide +kernel)⟩
    have : n = 3 ∨ n = 1 ∨ busy.record n = RecordState.reset := by revert n; decide +kernel
    rcases this with rfl | rfl | h
    · refine ⟨by decide +kernel, by decide +kernel, by decide +kernel, fun a b c h => ?_⟩
      have e : (busy.record 3).write = .opened 1 (crc8 (recordCrcStart 3) (bytesOf [160#16])) [160#16] := by decide +kernel
      rw [e] at h; cases h; decide +kernel
    · refine ⟨by decide +kernel, by decide +kernel, by decide +kernel, fun a b c h => ?_⟩
      have e : (busy.record 1).write = .closed := by decide +kernel
      rw [e] at h; cases h
    · rw [h]; exact ⟨by decide, by decide, by decide, fun a b c h => by cases h⟩
  · exact ⟨by decide +kernel, fun h => absurd h (by decide +kernel), fun _ => ⟨0, 1, by decide +kernel⟩⟩
  · intro _ n hn hv
    have : n = 3 := by revert n; decide +kernel
    subst this
    exact ⟨fun _ => by decide +kernel, fun h => absurd h (by decide +kernel), fun h => absurd h (by decide +kernel)⟩

theorem test_witness_StepRunsFrontCommand : busy.pending = [.refreshTick] ∧ State.reset.pending = [] ∧
    ∃ t, exec .refreshTick busy = .next t := ⟨rfl, rfl, _, rfl⟩

theorem test_witness_AttnFollowsTheNoticeSet :
    ∃ t, exec (.upstreamArrival (.write 20003#17 7#16)) (desk .run) = .next t ∧ t.lines.attn = true :=
  ⟨_, rfl, by decide +kernel⟩

/-- R18: the wait line stays asserted toward a request that a full reset cuts off, and toward none where no request was
presented; it is released when the held state of R16 ends. -/
theorem test_cutOffRequestKeepsWait :
    (after .powerOn (claims (.read 0#17))).lines.wait = true ∧ (after .powerOn (desk .run)).lines.wait = false ∧
    (after .startupLoadDone ((desk .load).withPath { (desk .load).path with cutOff := true })).lines.wait = false := by
  decide +kernel

/-- The desk in RUN while a burst that has passed word 0 of record 4 pins it. -/
def pinning : State :=
  ((desk .run).setRecord 4 (rec1 .valid .closed)).withScan (burst .holdingPort 5041#17 2
    [{ index := 4, front := .a, status := .valid, presented := none }])

theorem test_witness_ShownCopiesAreNeverWritten : ShapeInv pinning ∧ pinning.inService = true ∧
    pinning.cfg.check = none ∧ pinning.pinned 4 = true ∧ 2 < (pinning.cfg.entry 4).length ∧
    ∃ t, exec .scanWord pinning = .next t ∧ t.mem.epoch = pinning.mem.epoch :=
  ⟨shape_of _ rfl (by decide +kernel) (by decide +kernel) (by decide +kernel) (by decide +kernel) (by decide +kernel) rfl,
    by decide +kernel, by decide +kernel, by decide +kernel, by decide +kernel, _, rfl, by decide +kernel⟩

/-- From EMPTY, from STALE with recovery count 1, and from RECOVERING one short of recovery count 2. -/
theorem test_witness_RecordsBecomeValidByAcceptanceAlone :
    (∃ t, exec .arbiterGrant (closing 4 5042#17 .empty [7#16, 8#16]) = .next t ∧ (t.record 4).status = .valid) ∧
    (∃ t, exec .arbiterGrant (closing 2 5021#17 .stale [1#16]) = .next t ∧ (t.record 2).status = .valid) ∧
    ∃ t, exec .arbiterGrant (closing 4 5042#17 .recovering [7#16, 8#16]) = .next t ∧ (t.record 4).status = .valid :=
  ⟨⟨_, rfl, by decide +kernel⟩, ⟨_, rfl, by decide +kernel⟩, ⟨_, rfl, by decide +kernel⟩⟩

/-- The desk in RUN with record 4 BARRED. -/
def barred : State := (desk .run).setRecord 4 (rec1 .barred .closed)

theorem test_witness_BarredRecordsStay : RecordsInv barred ∧ (barred.record 4).status = .barred ∧
    (∃ t, exec (.release (frame 4#8)) barred = .next t ∧ (t.record 4).status = .empty) ∧
    ∃ t, exec .refreshTick barred = .next t := by
  refine ⟨⟨fun n hn => ?_, fun h => absurd h (by decide +kernel)⟩, by decide +kernel, ⟨_, rfl, by decide +kernel⟩, _, rfl⟩
  have : n = 4 ∨ barred.record n = RecordState.reset := by revert n; decide +kernel
  rcases this with rfl | h
  · refine ⟨by decide +kernel, by decide +kernel, by decide +kernel, fun a b c h => ?_⟩
    have e : (barred.record 4).write = .closed := by decide +kernel
    rw [e] at h; cases h
  · rw [h]; exact ⟨by decide, by decide, by decide, fun a b c h => by cases h⟩

/-- ASPECT record `n` VALID with a shown aspect of this rank and code and a pending upgrade, its next version open. -/
def showing (n : Nat) (a : Addr) (ws : List Word) (old : Option Shown) (up : Option PendingUpgrade) : State :=
  (closing n a .valid ws).setAspectKind n { shown := old, upgrade := up, awaiting := false }

/-- Confirmation count 1, and confirmation count 2 with one acceptance before. -/
theorem test_witness_ShownRankRisesOnlyWhenConfirmed :
    (∃ t, exec .arbiterGrant (showing 0 5002#17 [0x21#16, 0#16] (some ⟨0x20, 2, 0x40, false⟩) none) = .next t ∧
      (t.aspectKind 0).shown = some ⟨0x21, 9, 0x41, false⟩) ∧
    ∃ t, exec .arbiterGrant (showing 1 5012#17 [7#16, 1#16] (some ⟨5, 6, 0x46, false⟩) (some ⟨7, 1⟩)) = .next t ∧
      (t.aspectKind 1).shown = some ⟨7, 11, 0x48, true⟩ :=
  ⟨⟨_, rfl, by decide +kernel⟩, ⟨_, rfl, by decide +kernel⟩⟩

/-- Notices set and counts at 255, and the command that raises one of them. -/
def noticed : State :=
  (desk .run).withStatus { notices := { leftValid := true, refusal := true, barred := true, listOverflow := true,
                                        overrun := true, copyWrite := true }
                           counts := { overflow := 255, lateAck := 255, badPost := 255, strayClear := 255,
                                       copyWrite := 255 } }

theorem test_witness_NoticesAndCountsAreKept :
    (Instr.badPost 6001#17 0#8 0#4 0#4).wellFormed = true ∧ (∀ a, noticed.path.up ≠ .heldForPin (.read a)) ∧
    (∀ f, Instr.badPost 6001#17 0#8 0#4 0#4 ≠ .resume f) ∧ (∀ f, Instr.badPost 6001#17 0#8 0#4 0#4 ≠ .restart f) ∧
    (∀ a, Instr.badPost 6001#17 0#8 0#4 0#4 ≠ .upstreamArrival (.read a)) ∧
    (∀ a, Instr.badPost 6001#17 0#8 0#4 0#4 ≠ .statusWord0Read a) ∧
    noticed.status.notices.copyWrite = true ∧ noticed.status.counts.badPost ≤ 255 ∧
    ∃ t, exec (.badPost 6001#17 0#8 0#4 0#4) noticed = .next t :=
  ⟨rfl, nofun, nofun, nofun, nofun, nofun, rfl, Nat.le_refl _, _, rfl⟩

/-- The grant of a WRITE that waits keeps the notices. -/
theorem test_witness_GrantOfAWriteKeepsNotices :
    (∀ a, (noticed.withUp (.claiming (.write 7001#17 5#16))).path.up ≠ .claiming (.read a)) ∧
    ∃ t, exec .arbiterGrant (noticed.withUp (.claiming (.write 7001#17 5#16))) = .next t ∧
      t.status.notices.copyWrite = true := ⟨nofun, _, rfl, by decide +kernel⟩

/-- The link takes a command with and without a check byte, in RUN and in SAFE. -/
theorem test_witness_LinkTakesCommands :
    LinkTakes (desk .run) (frame 0#8).target ∧ LinkTakes (desk .safe) (checkedFrame 7#8 0#8).target ∧
    FramedRight 7#8 (frame 0#8) ∧ FramedRight 7#8 (checkedFrame 7#8 0#8) ∧ (checkedFrame 7#8 0#8).arg = 0#8 := by
  unfold LinkTakes FramedRight; decide +kernel

/-- A STORE in progress, and none; a request presented at the upstream port, one cut off before, and none. -/
theorem test_witness_WhatAFullResetFinds :
    ((desk .config).withLink { (desk .config).link with job := some (.store deskCfg) }).link.job =
      some (.store deskCfg) ∧
    (∀ c, (desk .config).link.job ≠ some (.store c)) ∧ WaitHeld (claims (.read 0#17)) ∧
    WaitHeld ((desk .load).withPath { (desk .load).path with cutOff := true }) ∧ ¬WaitHeld (desk .run) := by
  refine ⟨rfl, nofun, ?_⟩; unfold WaitHeld; decide +kernel

theorem test_witness_PowerUpAndMemoryInitialization :
    (State.reset.ctl.part = .powerUp ∧ State.reset.ctl.supplyGood = true ∧ State.reset.ctl.resetAsserted = false) ∧
    (desk .run).ctl.part ≠ .powerUp ∧
    ((desk .memoryInit).ctl.part = .memoryInit ∧ (desk .memoryInit).ctl.init = .pausing) ∧
    ∀ k, k = 0 ∨ k = 14 ∨ k = 15 →
      ((desk .memoryInit).withCtl { (desk .memoryInit).ctl with init := .refreshing k }).ctl.init = .refreshing k :=
  ⟨⟨rfl, rfl, rfl⟩, by decide, ⟨rfl, rfl⟩, fun _ _ => rfl⟩

/-- LOAD with an image that no STORE has written, with the image of a configuration, and with that of one that
fails test 2 of the consistency check. -/
def loading (c : Sections) : State := (desk .load).withImage (imageOf c)
def badCfg : Sections := { deskCfg with regions := deskCfg.regions.set 12 0#16 }

theorem deskCfg_shaped : deskCfg.shaped := by unfold Sections.shaped; decide +kernel
theorem badCfg_shaped : badCfg.shaped := by unfold Sections.shaped; decide +kernel

theorem test_witness_StartupLoadEndsInRunOrSafe :
    ((desk .load).image.length = 816 ∧ at0 (desk .load).image 0 ≠ 0x3720#16) ∧
    (∀ c, c = deskCfg ∨ c = badCfg → (loading c).image.length = 816 ∧ at0 (loading c).image 0 = 0x3720#16 ∧
      at0 (loading c).image 815 = imageCrc ((loading c).image.take 815) ∧
      c.toWords = ((loading c).image.drop 1).take 814 ∧ c.shaped) ∧
    deskCfg.check = none ∧ badCfg.check = some 2 ∧ (∀ r, (desk .load).path.up ≠ .heldAtStart r) ∧
    ∀ a n, (desk .load).path.scan ≠ .heldAtStart a n := by
  refine ⟨by decide +kernel, fun c h => ?_, by decide +kernel, by decide +kernel, nofun, nofun⟩
  have hc : c.shaped := by
    rcases h with rfl | rfl
    · exact deskCfg_shaped
    · exact badCfg_shaped
  exact ⟨imageOf_length c hc, rfl, imageOf_crc c hc, (imageOf_words c hc).symm, hc⟩

/-- LOAD with a read and a burst held. -/
def holding (s : State) : State :=
  s.withPath { s.path with up := .heldAtStart (.read 7001#17), scan := .heldAtStart 7000#17 4#8 }

/-- LOAD with the image of `deskCfg` and DESK_ON low. -/
def loadingLow : State := (loading deskCfg).withCtl { (desk .load).ctl with deskLevel := false }

/-- Traffic held into SAFE, and traffic held into RETAIN. -/
theorem test_witness_HeldTrafficIsTakenUpOnLeavingLoad :
    (∃ a, exec .startupLoadDone (desk .load) = .next a ∧ a.ctl.part = .safe) ∧
    (∃ a, exec .startupLoadDone loadingLow = .next a ∧ a.ctl.part = .retain) ∧
    upstreamArrivals (holding (desk .load)) ++ burstArrivals (holding (desk .load)) ≠ [] := by
  refine ⟨⟨_, rfl, by decide +kernel⟩, ?_, by decide +kernel⟩
  have e : loadingLow.startupLoad = loadingLow.enterRun := by
    unfold State.startupLoad
    rw [if_pos (show imageValid loadingLow.image = true from imageValid_imageOf _ deskCfg_shaped)]
    rw [show imageSections loadingLow.image = loadingLow.cfg from imageSections_imageOf _ deskCfg_shaped]
    simp only [show (loadingLow.withCfg loadingLow.cfg).cfg.check = none from test_deskCfg_consistent]
    rfl
  refine ⟨loadingLow.startupLoad.releaseHeld.driveLines, rfl, ?_⟩
  rw [e]; decide +kernel

theorem test_witness_ResumeChecksAndEntersRun : (desk .config).cfg.check = none ∧
    ((desk .config).withCfg badCfg).cfg.check = some 2 ∧ (desk .safe).ctl.part ≠ .config ∧
    LinkTakes (desk .config) (frame 0#8).target := by
  refine ⟨by decide +kernel, by decide +kernel, by decide, ?_⟩
  unfold LinkTakes; decide +kernel

/-- Table 10.2: a configuration for each code, by its first failing test. -/
theorem test_checkCodes :
    [{ deskCfg with regions := deskCfg.regions.set 14 5041#16 },
     badCfg,
     { deskCfg with records := deskCfg.records.set 17 20000#16 },
     { deskCfg with aspects := deskCfg.aspects.set 0 0x22F0#16 },
     { deskCfg with regions := deskCfg.regions.set 6 0#16
                    records := overwrite deskCfg.records 8 [0#16, 0#16, 0#16, 0#16] },
     { deskCfg with aspects := deskCfg.aspects.set 3 0x2041#16 },
     { deskCfg with speeds := deskCfg.speeds.set 13 0x0021#16 },
     { deskCfg with regions := deskCfg.regions.set 24 0x6600#16 }].map Sections.check =
      [some 1, some 2, some 3, some 4, some 5, some 6, some 7, some 8] := by decide +kernel

/-- `badCfg` fails test 2 of Table 10.2 and not test 7. -/
theorem test_witness_CheckFails : CheckFails badCfg 2 ∧ ¬CheckFails badCfg 7 := by
  refine ⟨⟨4, by decide, by decide +kernel, Or.inl ?_⟩, ?_⟩
  · unfold IsRecordElement; decide +kernel
  · rintro ⟨n, hn, h⟩; revert n; decide +kernel

/-- The filter at 100 ms and at 99 ms of difference. -/
theorem test_witness_CounterRisesAndDeskKeyIsFiltered :
    100 ≤ ((desk .run).ctl.ms - 4900#32).toNat ∧ ((desk .run).ctl.ms - 4901#32).toNat < 100 := by decide

/-- RUN with a refresh debt. -/
def owing (s : State) (debt : Nat) : State := s.withPath { s.path with refresh := { s.path.refresh with debt := debt } }

theorem test_witness_RefreshTicks :
    ((owing (desk .run) 8).path.refresh.ticking = true ∧ (owing (desk .run) 8).path.refresh.debt = 8) ∧
    ((owing (desk .config) 7).path.refresh.debt = 7 ∧ (owing (desk .config) 7).path.refresh.armed = true ∧
      (owing (desk .config) 7).inService = false) ∧
    State.reset.path.refresh.ticking = false ∧
    ((owing busy 7).recs.length = 24 ∧ (owing busy 7).inService = true ∧ (owing busy 7).path.refresh.ticking = true ∧
      (owing busy 7).path.refresh.debt = 7 ∧ (owing busy 7).path.refresh.armed = true) := by decide +kernel

theorem shape_desk : ShapeInv (desk .run) :=
  shape_of _ rfl (by decide +kernel) (by decide +kernel) (by decide +kernel) (by decide +kernel) (by decide +kernel) rfl

/-- An overrun tick due on a VALID and a RECOVERING record with no press due and a list with room: the list does not hold
the RECOVERING record's message, and it does. -/
def falling (es : List Entry) : State :=
  owing (listing (((desk .run).setRecord 3 (rec1 .valid .closed)).setRecord 4 (rec1 .recovering .closed)) es 5) 7

theorem test_witness_RefreshOverrun : ∀ es, es = [] ∨ es = [entryOf 1028 2 true .unacked 3] →
    ShapeInv (falling es) ∧ (falling es).inService = true ∧ (falling es).path.refresh.ticking = true ∧
    (falling es).path.refresh.debt = 7 ∧ (falling es).path.refresh.armed = true ∧ ListInv (falling es) ∧
    (∀ m, (falling es).msg.debouncer ≠ .pressing m) ∧ (falling es).msg.entries.length + 24 < 32 ∧
    ((falling es).record 3).status = .valid ∧ ((falling es).record 4).status = .recovering ∧
    (falling es).kind 3 ≠ .none ∧ (falling es).kind 4 ≠ .none := by
  rintro es (rfl | rfl) <;>
  · refine ⟨shape_of _ rfl shape_desk.2.1 (by decide +kernel) shape_desk.2.2.2.1 shape_desk.2.2.2.2.1
      shape_desk.2.2.2.2.2.1 rfl, ?_⟩
    unfold ListInv
    exact ⟨by decide +kernel, by decide +kernel, by decide +kernel, by decide +kernel, by decide +kernel, nofun,
      by decide +kernel, by decide +kernel, by decide +kernel, by decide +kernel, by decide +kernel⟩

/-- An overrun tick and a press both due, with the overrun message at the head for 4 s and no record to fall. -/
def pressedAtOverrun : State :=
  let s := owing (listing (desk .run) [entryOf 1125 0 true .clearedUnacked 3] 5) 7
  s.withMsg { s.msg with debouncer := .pressing 4970#32 }

theorem test_witness_PressAtTheOverrun : ShapeInv pressedAtOverrun ∧ ListInv pressedAtOverrun ∧
    pressedAtOverrun.ctl.part = .run ∧ 30 ≤ (pressedAtOverrun.ctl.ms - 4970#32).toNat ∧
    (at0 pressedAtOverrun.cfg.part 5).toNat ≤ (pressedAtOverrun.ctl.ms - 1000#32).toNat ∧
    ∀ n, n < 24 → (pressedAtOverrun.record n).status = .empty := by
  refine ⟨shape_of _ rfl shape_desk.2.1 shape_desk.2.2.1 shape_desk.2.2.2.1 shape_desk.2.2.2.2.1
    shape_desk.2.2.2.2.2.1 rfl, ?_⟩
  unfold ListInv; decide +kernel

/-- R137: a press taken between the raise of 1125 and its clear acknowledges it, and the clear removes the entry and
pushes it. -/
theorem test_pressBetweenRaiseAndClear :
    let r : RaiseRequest := { code := 1125, cls := 0, source := .interposer, needsAck := true, marker := 0#8 }
    let t := pressedAtOverrun.takeAround [] (.raise r none) State.press (.condClear 1125)
    t.msg.entries = [] ∧ t.msg.recalls.map RecallEntry.code = [1125] ∧ t.msg.debouncer = .pressed := by decide +kernel

/-- RUN with a burst and a read that wait for the free port. -/
def contest (alternate : Bool) (debt : Nat) : State :=
  let s := owing (claims (.read 9000#17)) debt
  s.withPath { s.path with scan := burst .claiming 9000#17 2 [], alternate := alternate }

theorem test_witness_ArbiterGrantsInTheOrderOfTheTable :
    ((contest true 4).path.port.holder = .free ∧ 4 ≤ (contest true 4).path.refresh.debt) ∧
    ((contest true 3).path.refresh.debt < 4 ∧ (contest true 3).path.alternate = true ∧
      (contest true 3).path.up = .claiming (.read 9000#17)) ∧
    ((contest false 3).path.alternate = false ∧ (contest false 3).path.scan = burst .claiming 9000#17 2 []) ∧
    ((owing (desk .run) 1).path.port.holder = .free ∧ 1 ≤ (owing (desk .run) 1).path.refresh.debt ∧
      (∀ r, (owing (desk .run) 1).path.up ≠ .claiming r) ∧
      ∀ b, (owing (desk .run) 1).path.scan = .active b → b.phase ≠ .claiming) ∧
    (∃ t, exec .arbiterGrant (contest false 3) = .next t ∧ t.path.alternate ≠ (contest false 3).path.alternate) ∧
    (∃ t, exec .arbiterGrant (owing (desk .run) 1) = .next t ∧ t.path.port.holder = .refresh) ∧
    ∃ t, exec .powerOn (contest true 3) = .next t ∧ t.path.alternate ≠ (contest true 3).path.alternate := by
  refine ⟨by decide +kernel, by decide +kernel, by decide +kernel, ⟨by decide, by decide, nofun, nofun⟩,
    ⟨_, rfl, by decide +kernel⟩, ⟨_, rfl, by decide +kernel⟩, ⟨_, rfl, by decide +kernel⟩⟩

theorem test_witness_Arrivals :
    (State.reset.path.up = .idle ∧ State.reset.ctl.part = .powerUp) ∧
    ((desk .config).path.up = .idle ∧ (desk .config).ctl.part = .config) ∧
    (claims (.read 0#17)).path.up ≠ .idle ∧ (desk .retain).inService = true := by decide +kernel

/-- RUN with a full recall stack. -/
def recalling : State :=
  let e : RecallEntry := { code := 7, cls := 1, marker := 0#8, raiseTime := 0#32, removeTime := 0#32 }
  (desk .run).withMsg { (desk .run).msg with recalls := List.replicate 10 e }

/-- One address of each class, with the offsets at the ends of their ranges. -/
theorem test_witness_ArrivingByClass :
    (desk .run).cfg.classify .upstream 7001#17 = .pass ∧ (desk .run).cfg.classify .upstream 9000#17 = .unmatched ∧
    (desk .run).cfg.classify .upstream 7000#17 = .protect ∧ (desk .run).cfg.classify .upstream 20000#17 = .copy ∧
    (desk .run).cfg.classify .upstream 6007#17 = .post 7 ∧ (desk .run).cfg.classify .upstream 6011#17 = .slot 3 ∧
    (desk .run).cfg.classify .upstream 6055#17 = .recalled 39 ∧ (desk .run).cfg.classify .upstream 6057#17 = .status 1 ∧
    (desk .run).cfg.classify .upstream 6087#17 = .status 31 ∧ 3 / 4 < (at0 (desk .run).cfg.part 4).toNat ∧
    busy.msg.entries[3 / 4]? ≠ none ∧ (desk .run).msg.entries[3 / 4]? = none ∧
    (desk .run).msg.recalls[39 / 4]? = none ∧
    recalling.msg.recalls[39 / 4]? ≠ none := by decide +kernel

/-- Windows: the last memory word and the first presented word of a VALID record, a record not VALID, a BARRED and
a pinned one. -/
theorem test_witness_ArrivingAtAWindow :
    (busy.cfg.classify .upstream 5033#17 = .record 3 3 ∧ (busy.record 3).status = .valid ∧
      (busy.cfg.entry 3).inputs = 3 ∧ (busy.cfg.entry 3).length = 7) ∧
    (busy.cfg.classify .upstream 5034#17 = .record 3 4 ∧ busy.presented 3 = some [10#16, 0#16, 250#16]) ∧
    ((desk .run).record 4).status ≠ .valid ∧ (barred.record 4).status = .barred ∧ barred.kind 4 ≠ .none ∧
    (pinning.pinned 4 = true ∧ (pinning.record 4).status ≠ .barred ∧
      pinning.cfg.classify .upstream 5040#17 = .record 4 0) ∧
    busy.pinned 3 = false := by decide +kernel

theorem test_witness_StatusWordZero : noticed.inService = true ∧ noticed.path.up = .idle ∧
    noticed.cfg.classify .upstream 6056#17 = .status 0 := by decide +kernel

theorem test_witness_GrantedTransactions :
    (GrantsUpstream (claims (.write 7001#17 5#16)) (.write 7001#17 5#16) ∧
      (claims (.write 7001#17 5#16)).cfg.classify .upstream 7001#17 = .pass) ∧
    (GrantsUpstream ((desk .config).withUp (.claiming (.read 131071#17))) (.read 131071#17) ∧
      ((desk .config).withUp (.claiming (.read 131071#17))).ctl.part = .config) ∧
    ∀ a, a = 7000#17 ∨ a = 20000#17 ∨ a = 6000#17 ∨ a = 6007#17 →
      GrantsUpstream (claims (.read a)) (.read a) ∧ (claims (.read a)).inService = true ∧
      ((claims (.read a)).cfg.classify .upstream a = .protect ∨ (claims (.read a)).cfg.classify .upstream a = .copy ∨
        (claims (.read a)).cfg.classify .upstream a = .post 0 ∨
        (claims (.read a)).cfg.classify .upstream a = .post 7) := by
  unfold GrantsUpstream
  refine ⟨by decide +kernel, by decide +kernel, ?_⟩
  rintro a (rfl | rfl | rfl | rfl) <;> decide +kernel

/-- A read of a record not VALID and of a VALID one, a write to a BARRED and to a pinned one. -/
theorem test_witness_GrantDecidesAgain :
    (GrantsUpstream (claims (.read 5042#17)) (.read 5042#17) ∧
      (claims (.read 5042#17)).cfg.classify .upstream 5042#17 = .record 4 2 ∧ (claims (.read 5042#17)).kind 4 ≠ .none ∧
      2 < ((claims (.read 5042#17)).cfg.entry 4).length ∧ ((claims (.read 5042#17)).record 4).status ≠ .valid) ∧
    (GrantsUpstream (busy.withUp (.claiming (.read 5033#17))) (.read 5033#17) ∧ (busy.record 3).status = .valid) ∧
    (GrantsUpstream (barred.withUp (.claiming (.write 5042#17 1#16))) (.write 5042#17 1#16) ∧
      (barred.record 4).status = .barred) ∧
    (GrantsUpstream ((pinning.withScan (burst .runningFree 5041#17 2 pinning.path.scan.pins)).withUp
        (.claiming (.write 5040#17 1#16))) (.write 5040#17 1#16) ∧
      (pinning.withScan (burst .runningFree 5041#17 2 pinning.path.scan.pins)).pinned 4 = true) := by
  unfold GrantsUpstream; decide +kernel

theorem test_witness_ScanBursts :
    (State.reset.path.scan = .idle ∧ State.reset.ctl.part = .powerUp) ∧
    ((desk .retain).path.scan = .idle ∧ (desk .retain).ctl.part = .retain) ∧
    ((desk .run).path.scan = .idle ∧ (desk .run).ctl.part = .run) ∧ pinning.path.scan ≠ .idle ∧
    (∃ t b, exec (.scanBurstArrival 127#17 0#8) (desk .run) = .next t ∧ t.path.scan = .active b ∧ b.left = 1 ∧
      b.phase = .claiming) ∧
    ∃ t b, exec (.scanBurstArrival 6056#17 4#8) (desk .run) = .next t ∧ t.path.scan = .active b ∧ b.phase = .runningFree :=
  ⟨by decide +kernel, by decide +kernel, by decide +kernel, by decide +kernel,
    ⟨_, _, rfl, rfl, by decide +kernel, by decide +kernel⟩, ⟨_, _, rfl, rfl, by decide +kernel⟩⟩

theorem test_witness_ScanWords :
    (((desk .run).withScan (burst .holdingPort 9000#17 2 [])).path.scan = burst .holdingPort 9000#17 2 [] ∧
      (desk .run).cfg.classify .scan 9000#17 = .unmatched) ∧
    ((desk .run).withScan (burst .runningFree 9000#17 2 [])).path.scan = burst .runningFree 9000#17 2 [] ∧
    (desk .run).cfg.classify .scan 6087#17 = .status 31 ∧
    ((desk .run).cfg.classify .scan 6008#17 = .slot 0 ∧ (desk .run).cfg.classify .scan 6011#17 = .slot 3 ∧
      3 / 4 < (at0 (desk .run).cfg.part 4).toNat) ∧
    ((desk .run).cfg.classify .scan 6016#17 = .recalled 0 ∧ (desk .run).cfg.classify .scan 6055#17 = .recalled 39) ∧
    ((desk .run).withScan (burst .claiming 9000#17 2 [])).path.scan = burst .claiming 9000#17 2 [] := by decide +kernel

/-- A last word that needs memory, of a burst that runs without the port: at its own address, and of a VALID record. -/
theorem test_witness_StopAtTheLastWord :
    (∃ t, exec .scanWord ((desk .run).withScan (burst .runningFree 9000#17 1 [])) = .next t ∧
      t.path.scan = burst .claiming 9000#17 1 [] ∧ t.path.scanOut = []) ∧
    WindowReads (pinning.withScan (burst .runningFree 5041#17 1 pinning.path.scan.pins)) 4 1
      { index := 4, front := .a, status := .valid, presented := none } :=
  ⟨⟨_, rfl, by decide +kernel⟩, by unfold WindowReads; decide +kernel⟩

/-- A window word under a pin, with a VALID snapshot; and the first word of a window that no pin covers. -/
theorem test_witness_WindowWordsFollowTheSnapshot :
    (pinning.cfg.classify .scan 5041#17 = .record 4 1 ∧ 1 < (pinning.cfg.entry 4).length ∧
      pinning.path.scan.pins.find? (fun x => x.index == 4) =
        some { index := 4, front := .a, status := .valid, presented := none }) ∧
    ((desk .run).cfg.classify .scan 5036#17 = .record 3 6 ∧ 6 < ((desk .run).cfg.entry 3).length ∧
      ((desk .run).withScan (burst .holdingPort 5036#17 2 [])).path.scan.pins.find? (fun x => x.index == 3) = none) := by
  decide +kernel

/-- CONFIG with the element of record 4 made a word longer than the record, as a burst that outlasts RUN can meet it. -/
def lengthened : State := (desk .config).withCfg { deskCfg with regions := deskCfg.regions.set 14 5043#16 }

/-- Under a VALID snapshot the last memory word is read and the first presented word is not; under one that is not VALID
no word is; and offset 3 of a record of 3 words is past its length. -/
theorem test_witness_WindowWords :
    WindowReads (desk .run) 3 3 { index := 3, front := .a, status := .valid, presented := none } ∧
    ¬WindowReads (desk .run) 3 4 { index := 3, front := .a, status := .valid, presented := some [1#16, 2#16, 3#16] } ∧
    ¬WindowReads (desk .run) 4 0 { index := 4, front := .a, status := .stale, presented := none } ∧
    (lengthened.cfg.classify .scan 5043#17 = .record 4 3 ∧ (lengthened.cfg.entry 4).length = 3) := by
  unfold WindowReads; decide +kernel

/-- The last word of a burst that holds the port, with a write held for its pin, and of one that runs without. -/
theorem test_witness_LastScanWordEndsTheBurst :
    (∃ t, exec .scanWord ((pinning.withScan (burst .holdingPort 5042#17 1 pinning.path.scan.pins)).withUp
        (.heldForPin (.write 5040#17 1#16))) = .next t ∧ t.path.up = .claiming (.write 5040#17 1#16)) ∧
    ∃ t, exec .scanWord ((desk .run).withScan (burst .runningFree 6056#17 1 [])) = .next t ∧ t.path.scan = .idle :=
  ⟨⟨_, rfl, by decide +kernel⟩, ⟨_, rfl, by decide +kernel⟩⟩

/-- Without the port: no word of the classes STATUS, SLOT and RECALL is read from memory, nor one of a record not VALID. -/
theorem test_witness_LastWordWithoutThePort (a : Addr) (w : Word) :
    (∀ x, x = 6056#17 ∨ x = 6011#17 ∨ x = 6055#17 →
      ¬ScanWordIs (desk .run) { next := x, left := 1, phase := .runningFree, pins := [] } (some a) w) ∧
    ¬ScanWordIs (desk .run) { next := 5040#17, left := 1, phase := .runningFree, pins := [] } (some a) w := by
  unfold ScanWordIs
  refine ⟨?_, ?_⟩
  · rintro x (rfl | rfl | rfl) h
    · rw [show (desk .run).cfg.classify .scan 6056#17 = .status 0 by decide +kernel] at h; cases h.1
    · rw [show (desk .run).cfg.classify .scan 6011#17 = .slot 3 by decide +kernel] at h; cases h.1
    · rw [show (desk .run).cfg.classify .scan 6055#17 = .recalled 39 by decide +kernel] at h; cases h.1
  · intro h
    rw [show (desk .run).cfg.classify .scan 5040#17 = .record 4 0 by decide +kernel] at h
    obtain ⟨p, hp, h⟩ := h
    have hv : p.status ≠ .valid := by
      rcases hp with hp | ⟨_, rfl⟩
      · cases hp
      · show ((desk .run).record 4).status ≠ .valid; decide +kernel
    cases h.2.1 fun hr => hv hr.1

/-- A write at a window word of record 4, with the record in this running state. -/
def writing (a : Addr) (w : Word) (r : RecordState) : State := (claims (.write a w)).setRecord 4 r

theorem shape_writing (a : Addr) (w : Word) (r : RecordState) : ShapeInv (writing a w r) := by
  refine shape_of _ rfl shape_desk.2.1 ?_ shape_desk.2.2.2.1 shape_desk.2.2.2.2.1 shape_desk.2.2.2.2.2.1 rfl
  show ((desk .run).recs.set 4 r).length = 24
  rw [List.length_set]; exact shape_desk.2.2.1

theorem test_witness_WindowWordsBuildAVersion :
    (ShapeInv (writing 5040#17 7#16 (rec1 .stale .closed)) ∧
      ServesWindowWrite (writing 5040#17 7#16 (rec1 .stale .closed)) 5040#17 7#16 4 0) ∧
    (ShapeInv (writing 5041#17 8#16 (rec1 .stale (openWith 4 [7#16]))) ∧
      ServesWindowWrite (writing 5041#17 8#16 (rec1 .stale (openWith 4 [7#16]))) 5041#17 8#16 4 1 ∧
      1 < ((writing 5041#17 8#16 (rec1 .stale (openWith 4 [7#16]))).cfg.entry 4).inputs) := by
  refine ⟨⟨shape_writing _ _ _, ?_⟩, shape_writing _ _ _, ?_, by decide +kernel⟩ <;>
  · unfold ServesWindowWrite GrantsUpstream; decide +kernel

/-- A close of record 4 with a check word, at a refusal count. -/
def checking (check : Word) (refusals : Nat) (st : Status) : State :=
  writing 5042#17 check { rec1 st (openWith 4 [7#16, 8#16]) with refusals := refusals }

/-- The check word of the version of record 4 with sequence number `seq`. -/
def check4 (seq : Byte) : Word := wordOf seq (crc8 (recordCrcStart 4) (bytesOf [7#16, 8#16] ++ [seq]))

/-- Each reason, at a refusal count below the limit of 2 and at it, from VALID and from RECOVERING. -/
theorem test_witness_Refusals :
    refusalReason (writing 5041#17 7#16 (rec1 .valid .closed)) 4 1 7#16 = some .order ∧
    refusalReason (checking (check4 17#8 ^^^ 1#16) 0 .valid) 4 2 (check4 17#8 ^^^ 1#16) = some .check ∧
    refusalReason (checking (check4 16#8) 0 .recovering) 4 2 (check4 16#8) = some .repeated ∧
    refusalReason (checking (check4 24#8) 1 .valid) 4 2 (check4 24#8) = some .jump ∧
    refusalReason (closing 3 5033#17 .valid [160#16, 65535#16, 0#16]) 3 3 (checkWord 3 [160#16, 65535#16, 0#16]) =
      some .content ∧
    min 15 (0 + 1) ≠ ((checking (check4 16#8) 0 .recovering).cfg.entry 4).refusalLimit ∧
    min 15 (1 + 1) = ((checking (check4 24#8) 1 .valid).cfg.entry 4).refusalLimit := by decide +kernel

theorem test_witness_RefusedWritesAreServed :
    ShapeInv (checking (check4 24#8) 1 .valid) ∧
    ServesWindowWrite (checking (check4 24#8) 1 .valid) 5042#17 (check4 24#8) 4 2 ∧
    ShapeInv (checking (check4 16#8) 0 .recovering) ∧
    ServesWindowWrite (checking (check4 16#8) 0 .recovering) 5042#17 (check4 16#8) 4 2 := by
  refine ⟨shape_writing _ _ _, ?_, shape_writing _ _ _, ?_⟩ <;>
  · unfold ServesWindowWrite GrantsUpstream; decide +kernel

/-- A write out of order, of a SPEED and of an ASPECT record: RECOVERING below the limit of 2, and VALID one short of it. -/
def outOfOrder (n : Nat) (a : Addr) (st : Status) (refusals : Nat) : State :=
  (claims (.write a 7#16)).setRecord n { rec1 st .closed with refusals := refusals }

theorem test_witness_RefusalsByKind : ∀ n a, (n = 3 ∧ a = 5031#17) ∨ (n = 1 ∧ a = 5011#17) →
    ∀ st r, (st = .recovering ∧ r = 0) ∨ (st = .valid ∧ r = 1) →
      ShapeInv (outOfOrder n a st r) ∧ ServesWindowWrite (outOfOrder n a st r) a 7#16 n 1 ∧
      refusalReason (outOfOrder n a st r) n 1 7#16 = some .order ∧
      (min 15 (((outOfOrder n a st r).record n).refusals + 1) =
        ((outOfOrder n a st r).cfg.entry n).refusalLimit ↔ r = 1) := by
  rintro n a (⟨rfl, rfl⟩ | ⟨rfl, rfl⟩) st r (⟨rfl, rfl⟩ | ⟨rfl, rfl⟩) <;>
  · refine ⟨shape_of _ rfl shape_desk.2.1 ?_ shape_desk.2.2.2.1 shape_desk.2.2.2.2.1 shape_desk.2.2.2.2.2.1 rfl, ?_⟩
    · exact (List.length_set).trans shape_desk.2.2.1
    · unfold ServesWindowWrite GrantsUpstream; decide +kernel

/-- An acceptance of each kind; of the PLAIN record by each display status it can have. -/
theorem test_witness_Acceptances :
    (∀ st, st = .empty ∨ st = .valid ∨ st = .stale ∨ st = .recovering →
      AcceptsVersion (closing 4 5042#17 st [7#16, 8#16]) 5042#17 (checkWord 4 [7#16, 8#16]) 4 [7#16, 8#16]) ∧
    AcceptsVersion (closing 3 5033#17 .valid [160#16, 320#16, 65535#16]) 5033#17
      (checkWord 3 [160#16, 320#16, 65535#16]) 3 [160#16, 320#16, 65535#16] ∧
    AcceptsVersion (showing 0 5002#17 [0x20#16, 0#16] (some ⟨0x21, 9, 0x41, false⟩) none) 5002#17
      (checkWord 0 [0x20#16, 0#16]) 0 [0x20#16, 0#16] ∧
    AcceptsVersion (showing 1 5012#17 [7#16, 1#16] (some ⟨5, 6, 0x46, false⟩) none) 5012#17
      (checkWord 1 [7#16, 1#16]) 1 [7#16, 1#16] ∧
    AcceptsVersion (closing 2 5021#17 .valid [1#16]) 5021#17 (checkWord 2 [1#16]) 2 [1#16] := by
  unfold AcceptsVersion ServesWindowWrite GrantsUpstream
  refine ⟨?_, ?_, ?_, ?_, ?_⟩
  · rintro st (rfl | rfl | rfl | rfl) <;>
      exact ⟨by decide +kernel, ⟨_, rfl⟩, by decide +kernel, by decide +kernel⟩
  all_goals exact ⟨by decide +kernel, ⟨_, rfl⟩, by decide +kernel, by decide +kernel⟩

/-- A return to VALID of a record of each kind, from STALE with recovery count 1 or from RECOVERING one short of 2. -/
theorem test_witness_ReturnsToValid :
    AcceptsVersion (closing 3 5033#17 .recovering [160#16, 320#16, 65535#16]) 5033#17
      (checkWord 3 [160#16, 320#16, 65535#16]) 3 [160#16, 320#16, 65535#16] ∧
    AcceptsVersion (closing 1 5012#17 .stale [7#16, 1#16]) 5012#17 (checkWord 1 [7#16, 1#16]) 1 [7#16, 1#16] ∧
    AcceptsVersion (closing 2 5021#17 .stale [1#16]) 5021#17 (checkWord 2 [1#16]) 2 [1#16] ∧
    staleCleared (closing 3 5033#17 .recovering [160#16, 320#16, 65535#16]) 3 = [.clear 1027] ∧
    staleCleared (closing 1 5012#17 .stale [7#16, 1#16]) 1 = [.clear 1025] ∧
    staleCleared (closing 4 5042#17 .stale [7#16, 8#16]) 4 = [] := by
  unfold AcceptsVersion ServesWindowWrite GrantsUpstream
  refine ⟨?_, ?_, ?_, by decide +kernel, by decide +kernel, by decide +kernel⟩
  all_goals exact ⟨by decide +kernel, ⟨_, rfl⟩, by decide +kernel, by decide +kernel⟩

/-- The requested system's ASPECT record enters VALID in a changeover: message 1124 is cleared. -/
def completing : State :=
  (listing (closing 1 5012#17 .empty [7#16, 1#16]) [entryOf 1124 0 true .acked 1] 2).setSelection
    { inForce := some 0, requested := some 1, changeover := true, timer := .expired }

theorem test_witness_ChangeoverCompletes : ∃ t, exec .arbiterGrant completing = .next t ∧
    completesChangeover completing t 1 = true ∧ t.msg.entries = [] ∧
    t.aspect.select = { inForce := some 1, requested := some 1, changeover := false, timer := .stopped } :=
  ⟨_, rfl, by decide +kernel, by decide +kernel, by decide +kernel⟩

theorem test_witness_AcceptancesHaveShape : (∀ n a st ws, ShapeInv (closing n a st ws)) ∧
    (∀ n a ws old up, ShapeInv (showing n a ws old up)) ∧ ∀ r, ShapeInv (barred.setRecord 4 r) := by
  refine ⟨fun n a st ws => ?_, fun n a ws old up => ?_, fun r => ?_⟩
  · refine shape_of _ rfl shape_desk.2.1 ?_ shape_desk.2.2.2.1 shape_desk.2.2.2.2.1 shape_desk.2.2.2.2.2.1 rfl
    exact (List.length_set).trans shape_desk.2.2.1
  · refine shape_of _ rfl shape_desk.2.1 ?_ shape_desk.2.2.2.1 ?_ shape_desk.2.2.2.2.2.1 rfl
    · exact (List.length_set).trans shape_desk.2.2.1
    · exact (List.length_set).trans shape_desk.2.2.2.2.1
  · refine shape_of _ rfl shape_desk.2.1 ?_ shape_desk.2.2.2.1 shape_desk.2.2.2.2.1 shape_desk.2.2.2.2.2.1 rfl
    exact (List.length_set).trans ((List.length_set).trans shape_desk.2.2.1)

/-- Record 3 VALID with its version of 160 steps open, an axle speed and a kind state: a reference that agrees and one
that does not, in both plausibility states, below a run length of 1 or 3 and at it. -/
theorem test_witness_SpeedComparison :
    (∀ vx, vx = 160 ∨ vx = 900 → ∀ k : SpeedKind,
      let s := (closing 3 5033#17 .valid [160#16, 320#16, 65535#16]).withSpeed
        { (desk .run).speed with kinds := (desk .run).speed.kinds.set 3 k
                                 axle := { (desk .run).speed.axle with pulses := 100, vx := some vx } }
      s.speed.axle.pulses ≠ 0 ∧ s.speed.axle.vx = some vx ∧ s.kind 3 = .speed ∧
        GrantsUpstream s (.write 5033#17 (checkWord 3 [160#16, 320#16, 65535#16])) ∧
        s.record 3 = rec1 .valid (openWith 3 [160#16, 320#16, 65535#16])) ∧
    max 160 160 - min 160 160 ≤ max (16 * (deskCfg.speedSettings 3).tolAbs) (160 * (deskCfg.speedSettings 3).tolProp / 1000) ∧
    ¬max 160 900 - min 160 900 ≤
      max (16 * (deskCfg.speedSettings 3).tolAbs) (900 * (deskCfg.speedSettings 3).tolProp / 1000) ∧
    (deskCfg.speedSettings 3).runLength = 1 := by
  refine ⟨?_, by decide +kernel, by decide +kernel, by decide +kernel⟩
  intro vx _ k
  exact ⟨by show 100 ≠ 0; decide, rfl, by show (deskCfg.entry 3).kind = .speed; decide +kernel,
    ⟨rfl, rfl, by show 0 < 4; decide, Or.inr rfl⟩, by
      show (closing 3 5033#17 .valid [160#16, 320#16, 65535#16]).record 3 = _; decide +kernel⟩

/-- The table entries the ASPECT versions carry: a downgrade with acknowledgement, an upgrade that waits. -/
theorem test_witness_AspectAcceptance :
    deskCfg.findAspect (deskCfg.entry 0).system 0x20 = some ⟨0x20, 0x40, true, 2⟩ ∧
    deskCfg.findAspect (deskCfg.entry 1).system 7 = some ⟨7, 0x48, false, 11⟩ ∧ deskCfg.confirmCount 1 = 2 := by
  decide +kernel

/-- The four cases of a SELECT acceptance with Q = 1, by the selection before it. -/
theorem test_witness_SelectAcceptance :
    (closing 2 5021#17 .valid [1#16]).aspect.select.inForce = none ∧
    (busy.aspect.select.inForce = some 0 ∧ busy.systemValid 1 = false) ∧
    (busy.setRecord 1 (rec1 .valid .closed)).systemValid 1 = true := by decide +kernel

/-- Expiry in VALID, STALE, EMPTY and RECOVERING; a timer one millisecond short. -/
theorem test_witness_FreshnessExpiry :
    (∀ st, st = .empty ∨ st = .valid ∨ st = .stale ∨ st = .recovering →
      ((barred.setRecord 4 { rec1 st .closed with timer := some 5000#32 }).record 4).timer = some 5000#32 ∧
      ((barred.setRecord 4 { rec1 st .closed with timer := some 5000#32 }).record 4).status = st) ∧
    (barred.ctl.ms - 5000#32).toNat < 2147483648 ∧ 2147483648 ≤ (barred.ctl.ms - 5001#32).toNat := by
  refine ⟨?_, by decide, by decide⟩
  rintro st (rfl | rfl | rfl | rfl) <;> decide +kernel

theorem test_witness_Release : ShapeInv barred ∧ LinkTakes barred (frame 4#8).target ∧ FramedRight 5#8 (frame 4#8) ∧
    (frame 4#8).arg.toNat ≤ 23 ∧ barred.inService = true ∧ (barred.record 4).status = .barred ∧
    (barred.record 23).status ≠ .barred := by
  refine ⟨shape_of _ rfl (by decide +kernel) (by decide +kernel) (by decide +kernel) (by decide +kernel)
    (by decide +kernel) rfl, ?_⟩
  unfold LinkTakes FramedRight; decide +kernel

/-- R85, R86: below and above the previous speed; a nearest speed one above and one below the displayed one at the bound of
a hysteresis of 3 steps and one step short of it, and two away. -/
theorem test_displayFunctions :
    let st : SpeedSettings := { deskCfg.speedSettings 3 with hysteresis := 3 }
    let p : Previous := { slewed := 160, displayed := 10, time := 4000#32 }
    [171, 170, 149, 150, 184, 0].map (displayedSpeed st (some p)) = [11, 10, 9, 10, 12, 0] ∧
      slewed st (some p) 200 5000#32 = 176 ∧ slewed st (some p) 100 5000#32 = 144 := by decide +kernel

theorem test_witness_SpeedFunctions :
    0 < (deskCfg.speedSettings 3).scaleEnd ∧ (640 : Nat) ≤ 16 * (deskCfg.speedSettings 3).scaleEnd ∧
    (deskCfg.speedSettings 3).warnAbs ≤ (deskCfg.speedSettings 3).intAbs ∧
    (deskCfg.speedSettings 3).warnProp ≤ (deskCfg.speedSettings 3).intProp := by decide +kernel

/-- `SelectionInv busy` is part of `test_busyState_meetsInvariants`. -/
theorem test_witness_MainAspect : busy.aspect.select.inForce = some 0 ∧ busy.aspect.select.requested = some 1 ∧
    busy.aspect.select.changeover = true ∧
    busy.mainAspect = some { rank := 0, symbol := 0xF1, flash := false, source := 1 } := by decide +kernel

/-- A VALID ASPECT record of system 0 and a STALE one of system 1; and presented words of each kind that has them. -/
theorem test_witness_EffectiveAndPresented :
    (AspectRecordOf (showing 0 5002#17 [] (some ⟨0x21, 9, 0x41, true⟩) none) 0 0 ∧ AspectRecordOf busy 1 1 ∧
      (busy.record 1).status ≠ .valid) ∧
    (showing 0 5002#17 [] (some ⟨0x21, 9, 0x41, true⟩) none).effective 0 = ⟨9, 0x41, true, 0⟩ ∧
    (showing 0 5002#17 [] (some ⟨0x21, 9, 0x41, true⟩) (some ⟨7, 1⟩)).presented 0 = some [0x0141#16, 0x0019#16] ∧
    busy.presented 2 = some [0x00F1#16, 0x0050#16, 0x0001#16] ∧ busy.presented 3 = some [10#16, 0#16, 250#16] ∧
    busy.presented 4 = none := by
  unfold AspectRecordOf
  refine ⟨⟨⟨by decide +kernel, nofun⟩, ⟨by decide +kernel, ?_⟩, by decide +kernel⟩, by decide +kernel, by decide +kernel,
    by decide +kernel, by decide +kernel, by decide +kernel⟩
  intro m hm; interval_cases m; decide +kernel

theorem test_witness_ChangeoverExpiry :
    (busy.aspect.select.timer = .running 9000#32 ∧ 2147483648 ≤ (busy.ctl.ms - 9000#32).toNat) ∧
    ((busy.withCtl { busy.ctl with ms := 9000#32 }).ctl.ms - 9000#32).toNat < 2147483648 ∧
    (desk .run).aspect.select.changeover = false := by decide +kernel

/-- RUN with an axle window that began at 4900 ms. -/
def turning (pulses : Nat) (history : List Nat) : State :=
  let s := desk .run
  s.withSpeed { s.speed with axle := { s.speed.axle with
    pulses := pulses, history := history, running := some { start := 4900#32, count := 168 } } }

theorem test_witness_AxleWindows :
    (turning 100 []).speed.axle.running = some { start := 4900#32, count := 168 } ∧
    (turning 100 []).speed.axle.window ≤ ((turning 100 []).ctl.ms - 4900#32).toNat ∧
    State.reset.speed.axle.running = none ∧
    ((turning 100 []).ctl.ms - 4901#32).toNat < (turning 100 []).speed.axle.window := by decide +kernel

/-- Standstill by an axle at rest, by SPEED records at zero, and none; the two other part states. -/
theorem test_witness_EnterConfig :
    ((turning 100 [0, 0]).speed.axle.pulses ≠ 0 ∧ (turning 100 [0, 0]).speed.axle.history = [0, 0]) ∧
    (((desk .run).withCfg Sections.reset).speed.axle.pulses = 0 ∧
      ∀ n, n < 24 → ((desk .run).withCfg Sections.reset).kind n ≠ .speed) ∧
    ((turning 100 [0, 1]).inService = true ∧ (turning 100 [0, 1]).speed.axle.history ≠ [0, 0]) ∧
    (desk .safe).ctl.part = .safe ∧ (desk .config).ctl.part = .config ∧
    LinkTakes (turning 100 [0, 0]) (frame 0#8).target ∧ FramedRight 1#8 (frame 0#8) := by
  unfold LinkTakes FramedRight; decide +kernel

/-- RUN with the ACK line in a state of the debouncer and a head that has been head since 1000 ms, or since now. -/
def pressed (d : Debouncer) (es : List Entry) : State :=
  let s := listing (desk .run) es 40
  s.withMsg { s.msg with debouncer := d }

theorem test_witness_AckInput :
    (30 ≤ ((pressed (.releasing 4970#32) []).ctl.ms - 4970#32).toNat ∧
      ((pressed (.releasing 4971#32) []).ctl.ms - 4971#32).toNat < 30) ∧
    ((pressed (.pressing 4970#32) [entryOf 1120 0 true .unacked 3]).msg.debouncer = .pressing 4970#32 ∧
      (at0 (desk .run).cfg.part 5).toNat ≤ ((desk .run).ctl.ms - 1000#32).toNat) ∧
    (at0 (desk .run).cfg.part 5).toNat ≤ ((desk .run).ctl.ms - 4500#32).toNat ∧
    ((desk .run).ctl.ms - 4501#32).toNat < (at0 (desk .run).cfg.part 5).toNat := by decide +kernel

/-- A code that is present; a new code in a list with room, in a full one it sorts before the last of, and in one it
does not; a count of ordinals at its largest value. -/
theorem test_witness_Raises :
    (ListInv busy ∧ entryOf 300 1 true .unacked 4 ∈ busy.msg.entries) ∧
    (∀ e ∈ busy.msg.entries, e.code ≠ 302) ∧
    (ListInv (listing (desk .run) fullList 32) ∧ (listing (desk .run) fullList 32).msg.entries.length = 32 ∧
      (listing (desk .run) fullList 32).msg.entries.getLast? = some (entryOf 131 2 false .acked 31) ∧
      (raiseOf 7 2 true).cls = (entryOf 131 2 false .acked 31).cls) ∧
    (raiseOf 7 3 true).cls > (entryOf 131 2 false .acked 31).cls ∧
    (ListInv (listing (desk .run) (fullList.take 31) 4294967295) ∧
      (listing (desk .run) (fullList.take 31) 4294967295).msg.entries.length < 32) := by
  unfold ListInv; decide +kernel

/-- An entry in each state, of an ordinary code and of a system's. -/
theorem test_witness_ClearAndAck :
    ListInv (listing (desk .run)
      [entryOf 1120 0 true .unacked 1, entryOf 1123 0 true .clearedUnacked 2, entryOf 1119 1 true .unacked 3,
       entryOf 1124 1 true .clearedUnacked 4, entryOf 5 1 true .acked 0] 5) ∧
    ∀ e ∈ (listing (desk .run) [entryOf 1120 0 true .unacked 1] 5).msg.entries, e.code ≠ 1121 := by
  unfold ListInv; decide +kernel

/-- The first and the last cell, with an empty stage and with staged codes at the ends of the ranges. -/
theorem test_witness_Posts :
    (PortReady (desk .run) ∧ (desk .run).msg.stages.length = 4 ∧ (desk .run).inService = true ∧
      (desk .run).cfg.classify .upstream 6000#17 = .post (2 * 0) ∧
      (desk .run).cfg.classify .upstream 6007#17 = .post (2 * 3 + 1)) ∧
    (desk .run).stage 3 = none ∧
    (∀ code, code = 0 ∨ code = 1 ∨ code = 1023 ∨ code = 1024 ∨ code = 1125 ∨ code = 1126 →
      ((desk .run).setStage 3 (some { code := code, cls := 0, needsAck := true })).stage 3 =
        some { code := code, cls := 0, needsAck := true }) ∧
    (at0 (desk .run).cfg.messages 3).toNat % 4 = 0 := by
  refine ⟨?_, by decide +kernel, ?_, by decide +kernel⟩
  · unfold PortReady; decide +kernel
  · rintro _ (rfl | rfl | rfl | rfl | rfl | rfl) <;> decide +kernel

/-- A post that reaches a claiming port, and one that finds the port held. -/
theorem test_witness_PostPath :
    (∃ t, exec (.upstreamArrival (.write 6000#17 7#16)) (desk .run) = .next t ∧ GrantsUpstream t (.write 6000#17 7#16)) ∧
    ∃ t, exec (.upstreamArrival (.write 6000#17 7#16)) ((desk .run).withPort { holder := .refresh, openRow := none, ops := [] })
      = .next t ∧ t.path.port.holder ≠ .free := by
  unfold GrantsUpstream
  exact ⟨⟨_, rfl, by decide +kernel⟩, ⟨_, rfl, by decide +kernel⟩⟩

/-- Posts that wait and are granted; and a ready port with a burst that waits and the alternation flag set. -/
theorem test_witness_WaitingPosts :
    (∀ a, a = 6000#17 ∨ a = 6006#17 ∨ a = 6007#17 → GrantsUpstream (claims (.write a 7#16)) (.write a 7#16)) ∧
    (claims (.write 6006#17 7#16)).cfg.classify .upstream 6006#17 = .post (2 * 3) ∧
    (claims (.write 6007#17 7#16)).cfg.classify .upstream 6007#17 = .post 7 ∧
    PortReady ((contest true 3).withUp .idle) ∧ ((contest true 3).withUp .idle).scanWaits = true := by
  unfold GrantsUpstream PortReady
  refine ⟨?_, by decide +kernel, by decide +kernel, by decide +kernel, by decide +kernel⟩
  rintro a (rfl | rfl | rfl) <;> decide +kernel

/-- A target the part does not answer to, a part state in which it answers none, and a request cut short. -/
theorem test_witness_LinkTransfers :
    ¬LinkTakes (desk .run) 0x2D#7 ∧ ¬LinkTakes (desk .load) 0x2C#7 ∧ LinkTakes (desk .run) 0x2C#7 ∧
    ∀ q, ¬WellFramed { target := 0x2C#7, bytes := [0xC0#8, 9#8, 0#8] } q := by
  refine ⟨by unfold LinkTakes; decide +kernel, by unfold LinkTakes; decide +kernel, by unfold LinkTakes; decide +kernel, ?_⟩
  rintro q ⟨b0, b1, b2, b3, rest, h, _⟩
  simp at h

/-- Read requests: 8 words to the end of section 5, the result word with a check byte, section 14, a section that does
not exist, a range past the end. -/
theorem test_witness_ReadRequests :
    (∃ q, WellFramed { target := 0x2C#7, bytes := [0x87#8, 5#8, 1#8, 0x60#8] } q ∧ q.isRead = true ∧
      q.sectionNo = 5 ∧ q.offset + q.count = 360) ∧
    (∃ q, WellFramed { target := 0x2C#7, bytes := [0xC0#8, 9#8, 0#8, 0#8, 0x26#8] } q ∧ q.sectionNo = 9) ∧
    (∃ q, WellFramed { target := 0x2C#7, bytes := [0x80#8, 14#8, 0#8, 0#8] } q ∧ q.sectionNo = 14) ∧
    (∃ q, WellFramed { target := 0x2C#7, bytes := [0x80#8, 255#8, 0#8, 0#8] } q ∧ sectionSize q.sectionNo = none) ∧
    ∃ q, WellFramed { target := 0x2C#7, bytes := [0x87#8, 5#8, 1#8, 0x61#8] } q ∧ 360 < q.offset + q.count := by
  unfold WellFramed
  exact ⟨⟨_, ⟨_, _, _, _, _, rfl, rfl, by decide +kernel⟩, by decide +kernel⟩,
    ⟨_, ⟨_, _, _, _, _, rfl, rfl, by decide +kernel⟩, by decide +kernel⟩,
    ⟨_, ⟨_, _, _, _, _, rfl, rfl, by decide +kernel⟩, by decide +kernel⟩,
    ⟨_, ⟨_, _, _, _, _, rfl, rfl, by decide +kernel⟩, by decide +kernel⟩,
    ⟨_, ⟨_, _, _, _, _, rfl, rfl, by decide +kernel⟩, by decide +kernel⟩⟩

/-- Section writes: one word of section 0 with a value it takes and with one it refuses, a read-only section, a section
that does not exist, a range past the end. -/
theorem test_witness_SectionWrites :
    (∃ q, WellFramed { target := 0x2C#7, bytes := [0#8, 0#8, 0#8, 3#8, 0#8, 60#8] } q ∧ q.isRead = false ∧
      q.sectionNo = 0 ∧ unitOk 0 ((desk .config).cfg.part.set 3 60#16) 3 = true) ∧
    (∃ q, WellFramed { target := 0x2C#7, bytes := [0#8, 0#8, 0#8, 3#8, 0#8, 61#8] } q ∧
      unitOk 0 ((desk .config).cfg.part.set 3 61#16) 3 = false) ∧
    (∃ q, WellFramed { target := 0x2C#7, bytes := [0#8, 8#8, 0#8, 0#8, 0#8, 0#8] } q ∧ q.sectionNo = 8) ∧
    (∃ q, WellFramed { target := 0x2C#7, bytes := [0#8, 7#8, 0#8, 0#8, 0#8, 0#8] } q ∧ sectionSize q.sectionNo = none) ∧
    ∃ q, WellFramed { target := 0x2C#7, bytes := [0#8, 6#8, 0#8, 4#8, 0#8, 0#8] } q ∧ 4 < q.offset + q.count := by
  unfold WellFramed
  exact ⟨⟨_, ⟨_, _, _, _, _, rfl, rfl, by decide +kernel⟩, by decide +kernel⟩,
    ⟨_, ⟨_, _, _, _, _, rfl, rfl, by decide +kernel⟩, by decide +kernel⟩,
    ⟨_, ⟨_, _, _, _, _, rfl, rfl, by decide +kernel⟩, by decide +kernel⟩,
    ⟨_, ⟨_, _, _, _, _, rfl, rfl, by decide +kernel⟩, by decide +kernel⟩,
    ⟨_, ⟨_, _, _, _, _, rfl, rfl, by decide +kernel⟩, by decide +kernel⟩⟩

/-- For each section a value that is refused, beside the reset value, which is not; section 5 refuses none. -/
theorem test_witness_RefusedValues :
    (RefusesValue 0 [201#16] 0 ∧ ¬RefusesValue 0 Sections.reset.part 0) ∧
    (RefusesValue 1 [0x4701#16] 0 ∧ ¬RefusesValue 1 Sections.reset.regions 39) ∧
    (RefusesValue 2 [0xA000#16] 0 ∧ ¬RefusesValue 2 Sections.reset.records 23) ∧
    (RefusesValue 3 [39#16] 0 ∧ ¬RefusesValue 3 Sections.reset.speeds 23) ∧
    (RefusesValue 4 [0x1100#16] 0 ∧ ¬RefusesValue 4 Sections.reset.aspects 3) ∧ ¬RefusesValue 5 [0xFFFF#16] 0 ∧
    RefusesValue 6 [0#16, 4#16] 1 ∧ ¬RefusesValue 6 Sections.reset.messages 3 := by
  refine ⟨⟨?_, ?_⟩, ⟨?_, ?_⟩, ⟨?_, ?_⟩, ⟨?_, ?_⟩, ⟨?_, ?_⟩, ?_, ?_, ?_⟩ <;> simp only [RefusesValue] <;> decide +kernel

/-- Commands framed wrong, with an unknown code, with an argument none takes and with a record past 23. -/
theorem test_witness_CommandChecks :
    ¬FramedRight 6#8 { frame 0#8 with tail := [0#8] } ∧ FramedRight 8#8 (frame 0#8) ∧ FramedRight 255#8 (frame 0#8) ∧
    FramedRight 6#8 (frame 1#8) ∧ (frame 1#8).arg ≠ 0#8 ∧ FramedRight 5#8 (frame 24#8) ∧ 23 < (frame 24#8).arg.toNat ∧
    FramedRight 6#8 (checkedFrame 6#8 0#8) := by
  unfold FramedRight; decide +kernel

/-- STORE and LOAD in service and out of it, with an invalid image and with a valid one. -/
theorem test_witness_StoreAndLoad :
    (ShapeInv (desk .config) ∧ LinkTakes (desk .config) (frame 0#8).target ∧ FramedRight 3#8 (frame 0#8) ∧
      FramedRight 4#8 (frame 0#8)) ∧
    (at0 (imageOf deskCfg) 0 = 0x3720#16 ∧ at0 (imageOf deskCfg) 1 ≠ 5#16) ∧
    imageValid (desk .config).image = false ∧
    (imageValid (loading deskCfg).image = true ∧ deskCfg.toWords = ((loading deskCfg).image.drop 1).take 814) := by
  refine ⟨⟨shape_of _ rfl (by decide +kernel) (by decide +kernel) (by decide +kernel) (by decide +kernel)
    (by decide +kernel) rfl, ?_⟩, by decide +kernel, by decide +kernel,
    imageValid_imageOf _ deskCfg_shaped, (imageOf_words _ deskCfg_shaped).symm⟩
  unfold LinkTakes FramedRight; decide +kernel

theorem test_witness_LowestMatchingElementDecides :
    (∃ b, b = (deskCfg.entry 4).copyB ∧ b.toNat ≤ 20092 ∧ 20092 < b.toNat + (deskCfg.entry 4).length) ∧
    (deskCfg.region 3).hits 5036#17 = true ∧ (deskCfg.region 3).ports = .both ∧ deskCfg.inCopyArea 5036#17 = false ∧
    (∀ j, j < 3 → (deskCfg.region j).hits 5036#17 = false) ∧ ∀ i, i < 40 → (deskCfg.region i).hits 131071#17 = false :=
  ⟨⟨_, rfl, by decide +kernel, by decide +kernel⟩, by decide +kernel, by decide +kernel, by decide +kernel,
    by decide +kernel, by decide +kernel⟩

end Sys2Proof.Tests
end

section
/-! PROOF SUPPORT. What the commands keep: the canonical memory, the shapes and the executing request (`KeepsData`),
and the memory path; then O5. -/

namespace Sys2Proof.Machine

/-! ### What keeps the data invariants -/

/-- From `s` to `t` the canonical form of the memory, the shapes and R157's place of a request are kept. -/
structure State.KeepsData (s t : State) : Prop where
  memory : s.mem.wf = true → t.mem.wf = true
  shape : ShapeInv s → ShapeInv t
  job : JobInv s → JobInv t

theorem State.KeepsData.refl (s : State) : s.KeepsData s := ⟨id, id, id⟩

theorem State.KeepsData.trans {a b c : State} (h1 : a.KeepsData b) (h2 : b.KeepsData c) : a.KeepsData c :=
  ⟨h2.memory ∘ h1.memory, h2.shape ∘ h1.shape, h2.job ∘ h1.job⟩

/-- The data invariants read these fields alone. -/
theorem State.KeepsData.of_fields {s t : State}
    (part : s.ctl.part = .config ∨ s.ctl.part = .safe → t.ctl.part = .config ∨ t.ctl.part = .safe)
    (mem : t.mem = s.mem := by rfl) (cfg : t.cfg = s.cfg := by rfl) (image : t.image = s.image := by rfl)
    (recs : t.recs.length = s.recs.length := by rfl)
    (speeds : t.speed.kinds.length = s.speed.kinds.length := by rfl)
    (aspects : t.aspect.kinds.length = s.aspect.kinds.length := by rfl)
    (stages : t.msg.stages.length = s.msg.stages.length := by rfl)
    (job : t.link.job = s.link.job := by rfl) : s.KeepsData t where
  memory := by rw [mem]; exact id
  shape := by simp only [ShapeInv, cfg, image, recs, speeds, aspects, stages, job]; exact id
  job := by
    intro h hj
    rw [job] at hj
    exact part (h hj)

/-- What the events of the record engine and of the message unit leave alone. -/
structure State.SameFrame (s t : State) : Prop where
  ctl : t.ctl = s.ctl
  cfg : t.cfg = s.cfg
  image : t.image = s.image
  mem : t.mem = s.mem
  path : t.path = s.path
  link : t.link = s.link
  recs : t.recs.length = s.recs.length
  speeds : t.speed.kinds.length = s.speed.kinds.length
  aspects : t.aspect.kinds.length = s.aspect.kinds.length
  stages : t.msg.stages.length = s.msg.stages.length

theorem State.SameFrame.trans {a b c : State} (h1 : a.SameFrame b) (h2 : b.SameFrame c) : a.SameFrame c :=
  ⟨h2.ctl.trans h1.ctl, h2.cfg.trans h1.cfg, h2.image.trans h1.image, h2.mem.trans h1.mem, h2.path.trans h1.path,
    h2.link.trans h1.link, h2.recs.trans h1.recs, h2.speeds.trans h1.speeds, h2.aspects.trans h1.aspects,
    h2.stages.trans h1.stages⟩

theorem State.SameFrame.keepsData {s t : State} (h : s.SameFrame t) : s.KeepsData t :=
  .of_fields (by rw [h.ctl]; exact id) h.mem h.cfg h.image h.recs h.speeds h.aspects h.stages (by rw [h.link])

theorem State.OnlyRecord.sameFrame {s t : State} {n : Nat} (h : s.OnlyRecord t n) : s.SameFrame t := by
  have e := h.rest
  exact ⟨by rw [e], by rw [e], by rw [e], by rw [e], by rw [e], by rw [e], h.recsLength, h.speedsLength,
    h.aspectsLength, by rw [e]⟩

theorem State.OnlyMessagesAndPress.sameFrame {s t : State} (h : s.OnlyMessagesAndPress t) : s.SameFrame t := by
  obtain ⟨e, l⟩ := h
  exact ⟨by rw [e], by rw [e], by rw [e], by rw [e], by rw [e], by rw [e], by rw [e], by rw [e], l, by rw [e]⟩

theorem State.OnlyMessages.sameFrame {s t : State} (h : s.OnlyMessages t) : s.SameFrame t :=
  h.andPress.sameFrame

/-- An event at one record, its requests taken. -/
theorem Event.finish_sameFrame {s : State} {e : Event} {n : Nat} (h : s.OnlyRecord e.1 n) : s.SameFrame e.finish :=
  h.sameFrame.trans (State.takeRequests_only _ _).sameFrame

theorem portInv_of_path {s t : State} (h : t.path = s.path) : PortInv s → PortInv t := by
  simp only [PortInv, h]; exact id

/-! ### Posts -/

theorem State.captureAction_sameFrame (s : State) (c : Nat) (w : Word) : s.SameFrame (s.captureAction c w) := by
  have hset : ∀ (u : State) (x : Option Stage), u.SameFrame (u.setStage c x) := fun u x =>
    ⟨rfl, rfl, rfl, rfl, rfl, rfl, rfl, rfl, rfl, by simp⟩
  have hbad : s.SameFrame s.countBadPost := ⟨rfl, rfl, rfl, rfl, rfl, rfl, rfl, rfl, rfl, rfl⟩
  have hperform : ∀ st marker act, s.SameFrame (s.postPerform c st marker act) := by
    intro st marker act
    cases act with
    | raise => exact (s.raise_only _).sameFrame
    | clear =>
      simp only [State.postPerform, State.postClear]
      split
      · exact (s.condClear_only _).sameFrame
      · exact ⟨rfl, rfl, rfl, rfl, rfl, rfl, rfl, rfl, rfl, rfl⟩
    | ack => exact (s.acknowledge_only _).sameFrame
  unfold State.captureAction
  split
  · split
    · exact hbad.trans (hset _ _)
    · exact (hperform _ _ _).trans (hset _ _)
  · exact hbad.trans (hset _ _)

theorem State.capture_sameFrame (s : State) (k : Nat) (w : Word) : s.SameFrame (s.capture k w) := by
  unfold State.capture
  split
  · exact ⟨rfl, rfl, rfl, rfl, rfl, rfl, rfl, rfl, rfl, rfl⟩
  · split
    · exact ⟨rfl, rfl, rfl, rfl, rfl, rfl, rfl, rfl, rfl, by simp⟩
    · exact s.captureAction_sameFrame _ _

/-! ### An upstream transaction that is disposed of (R3) -/

/-- The upstream port after a disposition: the transaction is complete, held or waiting, and is not being served. -/
inductive Upstream.Disposed (r : UpstreamRequest) : Upstream → Prop where
  | complete : Disposed r .idle
  | heldAtStart : Disposed r (.heldAtStart r)
  | claiming : Disposed r (.claiming r)
  | heldForPin (a : Addr) (w : Word) (h : r = .write a w) : Disposed r (.heldForPin r)

/-- What a disposition can change: the upstream port with its data lines, the status unit and the count of free
choices. -/
structure State.OnlyDisposed (s t : State) (r : UpstreamRequest) : Prop where
  rest : t = { s with path := { s.path with up := t.path.up, upData := t.path.upData }, status := t.status,
                      freeCount := t.freeCount }
  up : Upstream.Disposed r t.path.up

/-- Only a WRITE is held for a pin (R5). -/
theorem State.disposition_heldForPin (s : State) (r : UpstreamRequest) (h : s.disposition r = .heldForPin) :
    ∃ a w, r = .write a w := by
  cases r with
  | write a w => exact ⟨a, w, rfl⟩
  | read a =>
    have hread : ∀ c, s.decideRead a c ≠ .heldForPin := by
      intro c
      cases c with
      | record n k =>
        simp only [State.decideRead]
        cases s.windowNow n k <;> simp [WordSource.disposition]
      | slot k =>
        simp only [State.decideRead]
        cases s.slotWord k <;> simp [answerWith]
      | recalled k =>
        simp only [State.decideRead]
        cases s.recallWord k <;> simp [answerWith]
      | status k =>
        simp only [State.decideRead]
        split
        · simp
        · split <;> simp
      | _ => simp [State.decideRead]
    unfold State.disposition at h
    split at h <;> simp_all

theorem State.dispose_only (s : State) (r : UpstreamRequest) : s.OnlyDisposed (s.dispose r) r := by
  unfold State.dispose
  split
  · exact ⟨rfl, .heldAtStart⟩
  · exact ⟨rfl, .complete⟩
  · exact ⟨rfl, .complete⟩
  · exact ⟨rfl, .complete⟩
  · exact ⟨rfl, .complete⟩
  · exact ⟨rfl, .complete⟩
  · rename_i h
    obtain ⟨a, w, hr⟩ := s.disposition_heldForPin r h
    exact ⟨rfl, .heldForPin a w hr⟩
  · exact ⟨rfl, .claiming⟩
  · exact ⟨rfl, .claiming⟩
  · exact ⟨rfl, .claiming⟩

theorem Upstream.Disposed.not_serving {r : UpstreamRequest} {u : Upstream} (h : Upstream.Disposed r u) :
    ¬u.isServing := by
  cases h <;> exact id

theorem Upstream.Disposed.not_heldRead {r : UpstreamRequest} {u : Upstream} (h : Upstream.Disposed r u) (a : Addr) :
    u ≠ .heldForPin (.read a) := by
  cases h with
  | heldForPin b w hr => subst hr; simp
  | _ => simp

theorem State.OnlyDisposed.keepsData {s t : State} {r : UpstreamRequest} (h : s.OnlyDisposed t r) :
    s.KeepsData t := by
  have e := h.rest
  exact .of_fields (by rw [e]; exact id) (by rw [e]) (by rw [e]) (by rw [e]) (by rw [e]) (by rw [e]) (by rw [e])
    (by rw [e]) (by rw [e])

/-- A disposition in place of a transaction that was not being served keeps the port's invariant. -/
theorem State.OnlyDisposed.portInv {s t : State} {r : UpstreamRequest} (h : s.OnlyDisposed t r)
    (hn : ¬s.path.up.isServing) (hs : PortInv s) : PortInv t := by
  have e := h.rest
  have hp : t.path = { s.path with up := t.path.up, upData := t.path.upData } := congrArg State.path e
  obtain ⟨hup, hscan, hfree, hdebt, hleft, -⟩ := hs
  refine ⟨?_, ?_, ?_, ?_, ?_, h.up.not_heldRead⟩
  · rw [hp]
    exact ⟨fun x => absurd (hup.1 x) hn, fun x => absurd x h.up.not_serving⟩
  all_goals rw [hp]; assumption

/-! ### What keeps the invariants of O5 -/

/-- From `s` to `t` the data invariants and the port's invariant are kept. -/
structure State.Keeps (s t : State) : Prop extends s.KeepsData t where
  port : PortInv s → PortInv t

/-- From `s` to `t` the invariants are kept and the alternation flag stays. -/
structure State.KeepsTurn (s t : State) : Prop extends s.Keeps t where
  turn : t.path.alternate = s.path.alternate

theorem State.Keeps.trans {a b c : State} (h1 : a.Keeps b) (h2 : b.Keeps c) : a.Keeps c :=
  ⟨h1.toKeepsData.trans h2.toKeepsData, h2.port ∘ h1.port⟩

theorem State.KeepsTurn.trans {a b c : State} (h1 : a.KeepsTurn b) (h2 : b.KeepsTurn c) : a.KeepsTurn c :=
  ⟨h1.toKeeps.trans h2.toKeeps, h2.turn.trans h1.turn⟩

/-- Where the path stays, the data invariants are all there is to keep. -/
theorem State.KeepsData.ofPath {s t : State} (h : s.KeepsData t) (hp : t.path = s.path := by rfl) : s.KeepsTurn t :=
  ⟨⟨h, portInv_of_path hp⟩, by rw [hp]⟩

theorem State.KeepsTurn.refl (s : State) : s.KeepsTurn s := (State.KeepsData.refl s).ofPath

theorem State.SameFrame.keepsTurn {s t : State} (h : s.SameFrame t) : s.KeepsTurn t := h.keepsData.ofPath h.path

theorem State.driveLines_keepsTurn (s : State) : s.KeepsTurn s.driveLines :=
  State.KeepsData.ofPath (t := s.driveLines) (.of_fields id)

theorem State.withPending_keepsTurn (s : State) (cs : List Instr) : s.KeepsTurn (s.withPending cs) :=
  State.KeepsData.ofPath (t := s.withPending cs) (.of_fields id)

/-- An update of the path alone. -/
theorem State.withPath_keepsData (s : State) (p : Path) : s.KeepsData (s.withPath p) := .of_fields id

/-! ### The upstream port (R2 to R5) -/

theorem State.OnlyDisposed.keepsTurn {s t : State} {r : UpstreamRequest} (h : s.OnlyDisposed t r)
    (hn : ¬s.path.up.isServing) : s.KeepsTurn t :=
  ⟨⟨h.keepsData, h.portInv hn⟩, by rw [h.rest]⟩

theorem State.arrive_keepsTurn (s : State) (r : UpstreamRequest) : s.KeepsTurn (s.arrive r) := by
  by_cases h : s.path.up = .idle
  · rw [s.arrive_idle r h]
    exact (s.dispose_only r).keepsTurn (by rw [h]; exact id)
  · rw [s.arrive_held r h]
    exact .refl s

/-- A transaction that is not being served is taken away and decided afresh. -/
theorem State.redispose_keepsTurn (s : State) (r : UpstreamRequest) (hn : ¬s.path.up.isServing) :
    s.KeepsTurn ((s.withUp .idle).dispose r) := by
  have hidle : s.KeepsTurn (s.withUp .idle) := by
    refine ⟨⟨.of_fields id, ?_⟩, rfl⟩
    rintro ⟨hup, hscan, hfree, hdebt, hleft, -⟩
    exact ⟨⟨fun h => absurd (hup.1 h) hn, False.elim⟩, hscan, hfree, hdebt, hleft, by simp⟩
  exact hidle.trans ((State.dispose_only _ r).keepsTurn id)

theorem State.releasePinHeld_keepsTurn (s : State) : s.KeepsTurn s.releasePinHeld := by
  unfold State.releasePinHeld
  split
  · rename_i h
    exact s.redispose_keepsTurn _ (by rw [h]; exact id)
  all_goals exact .refl s

theorem State.releaseUpstream_keepsTurn (s : State) : s.KeepsTurn s.releaseUpstream := by
  unfold State.releaseUpstream
  split
  · rename_i h
    exact s.redispose_keepsTurn _ (by rw [h]; exact id)
  all_goals exact .refl s

/-- The port that a transaction or a burst held becomes free with its user gone (R4, R7). -/
theorem PortInv.released {s : State} {p : Path} (h : PortInv s) (hport : p.port = s.path.port.release)
    (hup : ¬p.up.isServing) (hscan : ¬p.scan.holdsPort) (hrefresh : p.refresh = s.path.refresh)
    (hleft : ∀ b, p.scan = .active b → 1 ≤ b.left) (hread : ∀ a, p.up ≠ .heldForPin (.read a)) :
    PortInv (s.withPath p) := by
  obtain ⟨-, -, -, hdebt, -, -⟩ := h
  simp only [PortInv, State.withPath_path, hport, hrefresh]
  exact ⟨⟨nofun, fun h => absurd h hup⟩, ⟨nofun, fun h => absurd h hscan⟩, fun _ => rfl, hdebt, hleft, hread⟩

/-- The port's holder is one: who serves a transaction does not serve a burst. -/
theorem PortInv.serving_alone {s : State} (h : PortInv s) (hs : s.path.up.isServing) : ¬s.path.scan.holdsPort := by
  obtain ⟨hup, hscan, -⟩ := h
  intro hh
  have h1 := hup.2 hs
  have h2 := hscan.2 hh
  rw [h1] at h2
  exact absurd h2 nofun

theorem State.columnDone_keepsTurn (s : State) : s.KeepsTurn s.columnDone := by
  have key : ∀ d r w, s.path.up = .serving r w →
      s.KeepsTurn (s.withPath { s.path with up := .idle, upData := d, port := s.path.port.release }) := by
    intro d r w hu
    refine ⟨⟨s.withPath_keepsData _, fun h => ?_⟩, rfl⟩
    exact h.released rfl id (h.serving_alone (by rw [hu]; trivial)) rfl h.2.2.2.2.1 nofun
  unfold State.columnDone
  split
  · exact key _ _ _ ‹_›
  · exact key _ _ _ ‹_›
  all_goals exact .refl s

/-! ### A grant to the upstream transaction (R4, R10) -/

/-- What a grant to the upstream transaction `r` leaves: it is being served through the port, or it is disposed of and
the port is free. -/
structure State.UpstreamGrant (s t : State) (r : UpstreamRequest) : Prop where
  data : s.KeepsData t
  path : t.path = { s.path with port := t.path.port, alternate := false, up := t.path.up, upData := t.path.upData }
  port : (t.path.port.holder = .upstream ∧ ∃ w, t.path.up = .serving r w) ∨
    (t.path.port.holder = .free ∧ t.path.port.openRow = none ∧ Upstream.Disposed r t.path.up)

theorem Port.column_holder (p : Port) (a : Addr) (op : MemOp) : (p.column a op).holder = p.holder := by
  unfold Port.column
  split <;> rfl

/-- The memory work of a granted transaction (R4). -/
theorem State.serveMemory_grant (s : State) (r : UpstreamRequest) (a : Addr) :
    s.UpstreamGrant (s.upstreamGranted.serveMemory r a) r := by
  cases r with
  | read x =>
    rw [serveMemory_read]
    exact ⟨s.withPath_keepsData _, rfl, Or.inl ⟨rfl, _, rfl⟩⟩
  | write x w =>
    rw [serveMemory_write]
    exact ⟨⟨fun h => s.mem.write_wf a w h, id, id⟩, rfl, Or.inl ⟨rfl, _, rfl⟩⟩

theorem State.UpstreamGrant.andThen {s t u : State} {r : UpstreamRequest} (h : s.UpstreamGrant t r)
    (hf : t.SameFrame u) : s.UpstreamGrant u r where
  data := h.data.trans hf.keepsData
  path := by rw [hf.path]; exact h.path
  port := by rw [hf.path]; exact h.port

/-- A granted transaction that needs no memory is disposed of, and the port becomes free (R4). -/
theorem State.disposeGranted_grant (s : State) (r : UpstreamRequest) :
    s.UpstreamGrant (s.upstreamGranted.dispose r).freePort r := by
  have h := s.upstreamGranted.dispose_only r
  have e := h.rest
  refine ⟨((s.withPath_keepsData _).trans h.keepsData).trans (State.withPath_keepsData _ _), ?_,
    Or.inr ⟨rfl, rfl, h.up⟩⟩
  rw [e]
  rfl

theorem State.serveGranted_grant (s : State) (r : UpstreamRequest) :
    s.UpstreamGrant (s.upstreamGranted.serveGranted r) r := by
  unfold State.serveGranted
  split
  · exact s.serveMemory_grant r _
  · exact (s.serveMemory_grant r _).andThen (State.capture_sameFrame _ _ _)
  · exact (s.serveMemory_grant r _).andThen (Event.finish_sameFrame (State.writeStep_only _ _ _ _))
  all_goals exact s.disposeGranted_grant r

theorem State.grantUpstream_claiming (s : State) (r : UpstreamRequest) (h : s.path.up = .claiming r) :
    s.grantUpstream = s.upstreamGranted.serveGranted r := by
  simp only [State.grantUpstream, h]
  rfl

theorem State.UpstreamGrant.keeps {s t : State} {r : UpstreamRequest} (h : s.UpstreamGrant t r)
    (hfree : s.path.port.holder = .free) : s.Keeps t := by
  refine ⟨h.data, ?_⟩
  rintro ⟨-, hscan, -, hdebt, hleft, -⟩
  have hno : ¬s.path.scan.holdsPort := by rw [← hscan, hfree]; exact nofun
  obtain ⟨-, hp, hport⟩ := h
  have e1 : t.path.scan = s.path.scan := by rw [hp]
  have e2 : t.path.refresh = s.path.refresh := by rw [hp]
  rcases hport with ⟨hu, w, hw⟩ | ⟨hf, hrow, hd⟩
  · refine ⟨⟨fun _ => by rw [hw]; trivial, fun _ => hu⟩, ?_, ?_, ?_, ?_, ?_⟩
    · rw [hu, e1]; exact ⟨nofun, fun h => absurd h hno⟩
    · rw [hu]; exact nofun
    · rw [e2]; exact hdebt
    · rw [e1]; exact hleft
    · rw [hw]; exact nofun
  · refine ⟨⟨fun h => by rw [hf] at h; exact absurd h nofun, fun h => absurd h hd.not_serving⟩, ?_, fun _ => hrow, ?_,
      ?_, hd.not_heldRead⟩
    · rw [hf, e1]; exact ⟨nofun, fun h => absurd h hno⟩
    · rw [e2]; exact hdebt
    · rw [e1]; exact hleft

theorem State.grantUpstream_keeps (s : State) (hfree : s.path.port.holder = .free) : s.Keeps s.grantUpstream := by
  cases hu : s.path.up with
  | claiming r =>
    rw [s.grantUpstream_claiming r hu]
    exact (s.serveGranted_grant r).keeps hfree
  | _ => simp only [State.grantUpstream, hu]; exact (State.KeepsTurn.refl s).toKeeps

/-- A write of the desk computer: nothing where a transaction is held, else its arrival, with its grant and completion
where the free port is given to it (log 14). -/
theorem State.deskWrite_eq (s : State) (a : Addr) (w : Word) :
    s.deskWrite a w =
      if s.path.up ≠ .idle then s
      else if (s.dispose (.write a w)).path.port.holder = .free ∧ (s.dispose (.write a w)).winner = .upstream then
        (s.dispose (.write a w)).grantUpstream.columnDone
      else s.dispose (.write a w) := by
  cases h : s.path.up <;> simp [State.deskWrite, h, State.arrive_idle]

theorem State.deskWrite_keeps (s : State) (a : Addr) (w : Word) : s.Keeps (s.deskWrite a w) := by
  rw [State.deskWrite_eq]
  split
  · exact (State.KeepsTurn.refl s).toKeeps
  · rename_i hidle
    have hd : s.Keeps (s.dispose (.write a w)) :=
      ((s.dispose_only _).keepsTurn (by rw [not_not.1 hidle]; exact id)).toKeeps
    split
    · rename_i hg
      exact (hd.trans (State.grantUpstream_keeps _ hg.1)).trans (State.columnDone_keepsTurn _).toKeeps
    · exact hd

/-! ### The arbiter (R9, R12) -/

theorem State.upWaits_iff (s : State) : s.upWaits = true ↔ ∃ r, s.path.up = .claiming r := by
  cases h : s.path.up <;> simp [State.upWaits, h]

theorem State.scanWaits_iff (s : State) :
    s.scanWaits = true ↔ ∃ b, s.path.scan = .active b ∧ b.phase = .claiming := by
  cases h : s.path.scan <;> simp [State.scanWaits, h]

/-- The winner by the cases of Table 1.2. -/
theorem State.winner_scan (s : State) (h : s.winner = .scan) : s.scanWaits = true := by
  by_contra hn
  simp only [State.winner, hn] at h
  split_ifs at h
  simp_all

theorem State.grantRefresh_keepsTurn (s : State) (hfree : s.path.port.holder = .free) :
    s.KeepsTurn s.grantRefresh := by
  refine ⟨⟨s.withPath_keepsData _, ?_⟩, rfl⟩
  rintro ⟨hup, hscan, -, hdebt, hleft, hread⟩
  have hnoUp : ¬s.path.up.isServing := by rw [← hup, hfree]; exact nofun
  have hnoScan : ¬s.path.scan.holdsPort := by rw [← hscan, hfree]; exact nofun
  refine ⟨⟨nofun, fun h => absurd h hnoUp⟩, ⟨nofun, fun h => absurd h hnoScan⟩, nofun, ?_, hleft, hread⟩
  simp only [State.grantRefresh, State.withPath_path]
  omega

theorem State.grantScan_eq (s : State) (b : Burst) (h : s.path.scan = .active b) :
    s.grantScan = s.withPath { s.path with
      port := { holder := .scan, openRow := none, ops := [] }
      alternate := s.path.alternate || s.upWaits
      scan := .active { b with phase := .holdingPort } } := by
  simp only [State.grantScan, h]
  rfl

theorem State.grantScan_keeps (s : State) (hfree : s.path.port.holder = .free) : s.Keeps s.grantScan := by
  cases hs : s.path.scan with
  | active b =>
    rw [s.grantScan_eq b hs]
    refine ⟨s.withPath_keepsData _, ?_⟩
    rintro ⟨hup, -, -, hdebt, hleft, hread⟩
    have hnoUp : ¬s.path.up.isServing := by rw [← hup, hfree]; exact nofun
    refine ⟨⟨nofun, fun h => absurd h hnoUp⟩, ⟨fun _ => rfl, fun _ => rfl⟩, nofun, hdebt, ?_, hread⟩
    rintro _ ⟨⟩
    exact hleft b hs
  | _ => simp only [State.grantScan, hs]; exact (State.KeepsTurn.refl s).toKeeps

theorem State.arbitrate_busy (s : State) (h : s.path.port.holder ≠ .free) : s.arbitrate = s := by
  unfold State.arbitrate
  split
  · contradiction
  all_goals rfl

theorem State.arbitrate_none (s : State) (h : s.winner = .free) : s.arbitrate = s := by
  by_cases hp : s.path.port.holder = .free
  · simp [State.arbitrate, hp, h]
  · exact s.arbitrate_busy hp

theorem State.arbitrate_refresh (s : State) (hp : s.path.port.holder = .free) (h : s.winner = .refresh) :
    s.arbitrate = s.grantRefresh := by simp [State.arbitrate, hp, h]

theorem State.arbitrate_scan (s : State) (hp : s.path.port.holder = .free) (h : s.winner = .scan) :
    s.arbitrate = s.grantScan := by simp [State.arbitrate, hp, h]

theorem State.arbitrate_grantUpstream (s : State) (hp : s.path.port.holder = .free) (h : s.winner = .upstream) :
    s.arbitrate = s.grantUpstream := by simp [State.arbitrate, hp, h]

/-- A grant moment, by who wins the free port (R9). -/
theorem State.arbitrate_keeps (s : State) : s.Keeps s.arbitrate := by
  by_cases hfree : s.path.port.holder = .free
  · cases hw : s.winner with
    | refresh => rw [s.arbitrate_refresh hfree hw]; exact (s.grantRefresh_keepsTurn hfree).toKeeps
    | upstream => rw [s.arbitrate_grantUpstream hfree hw]; exact s.grantUpstream_keeps hfree
    | scan => rw [s.arbitrate_scan hfree hw]; exact s.grantScan_keeps hfree
    | free => rw [s.arbitrate_none hw]; exact (State.KeepsTurn.refl s).toKeeps
  · rw [s.arbitrate_busy hfree]
    exact (State.KeepsTurn.refl s).toKeeps

theorem State.refreshDone_keepsTurn (s : State) (h : s.path.port.holder = .refresh) : s.KeepsTurn s.freePort := by
  refine ⟨⟨s.withPath_keepsData _, fun hi => ?_⟩, rfl⟩
  obtain ⟨hup, hscan, -, -, hleft, hread⟩ := id hi
  exact hi.released rfl (by rw [← hup, h]; exact nofun) (by rw [← hscan, h]; exact nofun) rfl hleft hread

/-! ### Scan bursts (R6 to R8) -/

theorem countServed_pos (start : Addr) (count : BitVec 8) : 1 ≤ countServed start count := by
  have hc : columnOf start < 128 := Nat.mod_lt _ (by decide)
  have hn : count ≠ 0#8 → count.toNat ≠ 0 := fun h hz => h (BitVec.eq_of_toNat_eq (by simpa using hz))
  unfold countServed
  split
  · omega
  · have := hn ‹_›
    omega

/-- The scan port takes on a burst, or none, that does not hold the port. -/
theorem State.scanMoves_keepsTurn (s : State) (x : Scan) (out : List Word) (hn : ¬s.path.scan.holdsPort)
    (hx : ¬x.holdsPort) (hleft : ∀ b, x = .active b → 1 ≤ b.left) :
    s.KeepsTurn (s.withPath { s.path with scan := x, scanOut := out }) := by
  refine ⟨⟨s.withPath_keepsData _, ?_⟩, rfl⟩
  rintro ⟨hup, hscan, hfree, hdebt, -, hread⟩
  exact ⟨hup, ⟨fun h => absurd (hscan.1 h) hn, fun h => absurd h hx⟩, hfree, hdebt, hleft, hread⟩

theorem State.disposeBurst_keepsTurn (s : State) (start : Addr) (count : BitVec 8) (hn : ¬s.path.scan.holdsPort) :
    s.KeepsTurn (s.disposeBurst start count) := by
  have held : s.KeepsTurn (s.withScan (.heldAtStart start count)) := s.scanMoves_keepsTurn _ _ hn id nofun
  have zeros : s.KeepsTurn (s.answerZeros start count) := s.scanMoves_keepsTurn _ _ hn id nofun
  have taken : s.KeepsTurn (s.takeBurst start count) := by
    refine s.scanMoves_keepsTurn _ _ hn ?_ ?_
    · simp only [Scan.holdsPort]
      split <;> exact nofun
    · rintro _ ⟨⟩
      exact countServed_pos start count
  unfold State.disposeBurst
  split
  · exact held
  · exact held
  · exact held
  · exact zeros
  · exact zeros
  · exact zeros
  · exact taken

theorem State.arriveBurst_keepsTurn (s : State) (start : Addr) (count : BitVec 8) :
    s.KeepsTurn (s.arriveBurst start count) := by
  unfold State.arriveBurst
  split
  · rename_i h
    exact s.disposeBurst_keepsTurn start count (by rw [h]; exact id)
  · exact .refl s
  · exact .refl s

theorem State.releaseBurst_keepsTurn (s : State) : s.KeepsTurn s.releaseBurst := by
  unfold State.releaseBurst
  split
  · rename_i h
    have hn : ¬s.path.scan.holdsPort := by rw [h]; exact id
    exact (s.scanMoves_keepsTurn .idle _ hn id nofun).trans (State.disposeBurst_keepsTurn _ _ _ id)
  · exact .refl s
  · exact .refl s

/-- The end of a burst (R7, R8, R56). -/
theorem State.endBurst_keepsTurn (s : State) (b : Burst) (hs : s.path.scan = .active b) :
    s.KeepsTurn (s.endBurst b.phase) := by
  unfold State.endBurst
  simp only
  refine State.KeepsTurn.trans ?_ (State.releasePinHeld_keepsTurn _)
  split
  · rename_i hp
    refine ⟨⟨(s.withPath_keepsData _).trans (State.withPath_keepsData _ _), fun hi => ?_⟩, rfl⟩
    have hh : s.path.scan.holdsPort := by rw [hs]; exact hp
    exact hi.released (p := { s.path with scan := .idle, port := s.path.port.release }) rfl
      (fun h => hi.serving_alone h hh) id rfl nofun hi.2.2.2.2.2
  · rename_i hp
    exact s.scanMoves_keepsTurn .idle _ (by rw [hs]; exact hp) id nofun

/-- The last word of a burst: it goes out, and the burst ends (R7). -/
theorem State.deliver_last (s : State) (b : Burst) (w : Word) (h : b.left ≤ 1) :
    s.deliver b w = (s.withPath { s.path with scanOut := s.path.scanOut ++ [w] }).endBurst b.phase := by
  simp only [State.deliver, h, if_true]
  rfl

/-- A word before the last: the burst goes on to the next column (R7). -/
theorem State.deliver_more (s : State) (b : Burst) (w : Word) (h : 1 < b.left) :
    s.deliver b w = s.withPath { s.path with
      scanOut := s.path.scanOut ++ [w]
      scan := .active { b with next := b.next + 1#17, left := b.left - 1,
                               pins := s.pinsAfter b.pins (s.cfg.classify .scan b.next) } } := by
  simp only [State.deliver, Nat.not_le.2 h, if_false]

theorem State.deliver_keepsTurn (s : State) (b : Burst) (w : Word) (hs : s.path.scan = .active b) :
    s.KeepsTurn (s.deliver b w) := by
  by_cases h : b.left ≤ 1
  · rw [s.deliver_last b w h]
    have hout : s.KeepsTurn (s.withPath { s.path with scanOut := s.path.scanOut ++ [w] }) :=
      ⟨⟨s.withPath_keepsData _, id⟩, rfl⟩
    exact hout.trans (State.endBurst_keepsTurn _ b hs)
  · rw [s.deliver_more b w (by omega)]
    refine ⟨⟨s.withPath_keepsData _, ?_⟩, rfl⟩
    rintro ⟨hup, hscan, hfree, hdebt, -, hread⟩
    rw [hs] at hscan
    refine ⟨hup, hscan, hfree, hdebt, ?_, hread⟩
    rintro _ ⟨⟩
    show 1 ≤ b.left - 1
    omega

/-- A column read of the burst that holds the port. -/
theorem State.scanRead_keepsTurn (s : State) (a : Addr) (hh : s.path.scan.holdsPort) :
    s.KeepsTurn (s.columnRead a).1 := by
  refine ⟨⟨s.withPath_keepsData _, ?_⟩, rfl⟩
  intro hi
  obtain ⟨hup, hscan, hfree, hdebt, hleft, hread⟩ := id hi
  have hc : (s.path.port.column a (.columnRead a)).holder = s.path.port.holder := Port.column_holder _ _ _
  simp only [PortInv, State.columnRead, State.withPort_path, hc]
  refine ⟨hup, hscan, fun h => ?_, hdebt, hleft, hread⟩
  rw [hscan.2 hh] at h
  exact absurd h nofun

theorem State.serveScanWord_keepsTurn (s : State) (b : Burst) (hs : s.path.scan = .active b) :
    s.KeepsTurn (s.serveScanWord b) := by
  unfold State.serveScanWord
  split
  · split
    · rename_i hh
      exact (s.scanRead_keepsTurn _ (by rw [hs]; exact hh)).trans (State.deliver_keepsTurn _ b _ hs)
    · rename_i hh
      refine ⟨⟨s.withPath_keepsData _, ?_⟩, rfl⟩
      rintro ⟨hup, hscan, hfree, hdebt, hleft, hread⟩
      rw [hs] at hscan
      refine ⟨hup, ⟨fun h => absurd (hscan.1 h) hh, nofun⟩, hfree, hdebt, ?_, hread⟩
      rintro _ ⟨⟩
      exact hleft b hs
  · exact s.deliver_keepsTurn b _ hs
  · have hc : s.KeepsTurn (s.withFreeCount (s.freeCount + 1)) :=
      State.KeepsData.ofPath (t := s.withFreeCount (s.freeCount + 1)) (.of_fields id)
    exact hc.trans (State.deliver_keepsTurn _ b _ hs)

/-! ### The refresh unit and the release of held traffic (R11, R13, R16) -/

theorem State.overrunRecords_sameFrame (s : State) : s.SameFrame s.overrunRecords.1 := by
  have key : ∀ (ns : List Nat) (e : Event), s.SameFrame e.1 →
      s.SameFrame (ns.foldl (fun e n => Event.andThen e fun s => s.overrunRecord n) e).1 := by
    intro ns
    induction ns with
    | nil => exact fun e h => h
    | cons n ns ih => exact fun e h => ih _ (h.trans (e.1.overrunRecord_only n).sameFrame)
  exact key _ _ ⟨rfl, rfl, rfl, rfl, rfl, rfl, rfl, rfl, rfl, rfl⟩

theorem State.overrun_keepsTurn (s : State) : s.KeepsTurn s.overrun := by
  have hlost : s.KeepsTurn ((s.notify .overrun).withMem s.mem.forget) :=
    ⟨⟨⟨fun _ => s.mem.forget_wf, id, id⟩, id⟩, rfl⟩
  unfold State.overrun
  simp only
  split
  · exact (hlost.trans (State.overrunRecords_sameFrame _).keepsTurn).trans (overrunMessages_only _).sameFrame.keepsTurn
  · exact hlost

theorem State.withRefresh_keepsTurn (s : State) (r : RefreshUnit) (h : s.path.refresh.debt ≤ 8 → r.debt ≤ 8) :
    s.KeepsTurn (s.withRefresh r) := by
  refine ⟨⟨s.withPath_keepsData _, ?_⟩, rfl⟩
  rintro ⟨hup, hscan, hfree, hdebt, hleft, hread⟩
  exact ⟨hup, hscan, hfree, h hdebt, hleft, hread⟩

theorem State.refreshTick_keepsTurn (s : State) : s.KeepsTurn s.refreshTick := by
  unfold State.refreshTick
  simp only
  split
  · exact (s.withRefresh_keepsTurn _ fun _ => Nat.le_refl 8).trans (State.overrun_keepsTurn _)
  · refine s.withRefresh_keepsTurn _ fun h => ?_
    show (if s.path.refresh.debt < 8 then s.path.refresh.debt + 1 else s.path.refresh.debt) ≤ 8
    split <;> omega

/-- Between RUN and RETAIN no request that takes time executes. -/
theorem State.setPart_keepsTurn (s : State) (p : PartState) (h : s.ctl.part ≠ .config ∧ s.ctl.part ≠ .safe) :
    s.KeepsTurn (s.setPart p) :=
  State.KeepsData.ofPath (t := s.setPart p) (.of_fields fun hs => absurd hs (by simp [h]))

/-! ### Held traffic on leaving LOAD (R16) -/

theorem State.OnlyDisposed.ctl {s t : State} {r : UpstreamRequest} (h : s.OnlyDisposed t r) : t.ctl = s.ctl := by
  rw [h.rest]

theorem State.releaseUpstream_ctl (s : State) : s.releaseUpstream.ctl = s.ctl := by
  unfold State.releaseUpstream
  split
  · exact (State.dispose_only _ _).ctl
  all_goals rfl

theorem State.disposeBurst_ctl (s : State) (start : Addr) (count : BitVec 8) :
    (s.disposeBurst start count).ctl = s.ctl := by
  unfold State.disposeBurst
  split <;> rfl

theorem State.releaseBurst_ctl (s : State) : s.releaseBurst.ctl = s.ctl := by
  unfold State.releaseBurst
  split
  · exact State.disposeBurst_ctl _ _ _
  all_goals rfl

theorem State.takeUp_ctl (s : State) (inRun : Bool) (f : State → State) (hpart : s.ctl.part = .retain)
    (hctl : ∀ u, (f u).ctl = u.ctl) : (s.takeUp inRun f).ctl = s.ctl := by
  unfold State.takeUp
  split
  · show { (f (s.setPart .run)).ctl with part := PartState.retain } = s.ctl
    rw [hctl, ← hpart]
    rfl
  · exact hctl s

theorem State.takeUp_keepsTurn (s : State) (inRun : Bool) (f : State → State) (hpart : s.ctl.part = .retain)
    (hf : ∀ u : State, u.KeepsTurn (f u)) (hctl : ∀ u, (f u).ctl = u.ctl) : s.KeepsTurn (s.takeUp inRun f) := by
  unfold State.takeUp
  split
  · refine ((s.setPart_keepsTurn .run (by simp [hpart])).trans (hf _)).trans (State.setPart_keepsTurn _ _ ?_)
    rw [hctl]
    exact ⟨nofun, nofun⟩
  · exact hf s

theorem State.releaseHeld_keepsTurn (s : State) : s.KeepsTurn s.releaseHeld := by
  unfold State.releaseHeld
  split
  · rename_i h
    have hc : s.KeepsTurn ((s.choose 2).2.choose 2).2 :=
      ((s.choose_only 2).trans (State.choose_only _ 2)).sameFrame.keepsTurn
    have h1 : ((s.choose 2).2.choose 2).2.ctl.part = .retain := h.1
    refine (hc.trans (State.takeUp_keepsTurn _ _ _ h1 State.releaseUpstream_keepsTurn State.releaseUpstream_ctl)).trans
      (State.takeUp_keepsTurn _ _ _ ?_ State.releaseBurst_keepsTurn State.releaseBurst_ctl)
    rw [State.takeUp_ctl _ _ _ h1 State.releaseUpstream_ctl]
    exact h1
  · exact s.releaseUpstream_keepsTurn.trans (State.releaseBurst_keepsTurn _)

/-! ### The configuration and its image (R158, R165, R169 to R171) -/

/-- An update of the tables by tables of the right shape. -/
theorem State.withCfg_keepsTurn (s : State) (c : Sections) (h : ShapeInv s → c.shaped) : s.KeepsTurn (s.withCfg c) :=
  ⟨⟨⟨id, fun hs => ⟨h hs, hs.2⟩, id⟩, id⟩, rfl⟩

theorem State.withImage_keepsTurn (s : State) (ws : List Word) (h : ShapeInv s → ws.length = 816) :
    s.KeepsTurn (s.withImage ws) :=
  ⟨⟨⟨id, fun hs => ⟨hs.1, h hs, hs.2.2⟩, id⟩, id⟩, rfl⟩

theorem imageSections_shaped (ws : List Word) (h : ws.length = 816) : (imageSections ws).shaped := by
  simp [Sections.shaped, imageSections, sectionsOfWords, h]

theorem overwrite_length (data : List Word) : ∀ (ws : List Word) (o : Nat), (overwrite ws o data).length = ws.length := by
  induction data with
  | nil => intro ws o; rfl
  | cons w rest ih => intro ws o; simp [overwrite, ih]

/-- Words of a section, overwritten, are as many as before. -/
theorem Sections.put_shaped (c : Sections) (i : Nat) (ws : List Word) (h : c.shaped)
    (hl : ws.length = (c.get i).length) : (c.put i ws).shaped := by
  obtain ⟨h0, h1, h2, h3, h4, h5, h6⟩ := h
  unfold Sections.put
  unfold Sections.get at hl
  split <;> simp_all [Sections.shaped]

theorem storedImage_length (faults : List (Nat × Word)) : ∀ ws : List Word,
    (storedImage ws faults).length = ws.length := by
  induction faults with
  | nil => intro ws; rfl
  | cons f rest ih =>
    intro ws
    exact (ih _).trans (by simp)

/-- The image a full reset finds has its 816 words (R169, R170). -/
theorem State.imageAfterReset_length (s : State) (h : s.image.length = 816) : s.imageAfterReset.length = 816 := by
  unfold State.imageAfterReset
  split
  · unfold abandonedImage
    split
    · exact h
    · simp
  · exact h
  · exact h

/-! ### Full resets (R162) -/

theorem Sections.reset_shaped : Sections.reset.shaped :=
  have table : ∀ (n : Nat) (ws : List Word), (List.replicate n ws).flatten.length = n * ws.length := by
    intro n ws
    simp only [List.length_flatten, List.map_replicate, List.sum_replicate, smul_eq_mul]
  ⟨rfl, List.length_replicate, List.length_replicate, table 24 _, table 4 _, List.length_replicate,
    List.length_replicate⟩

theorem State.fullReset_keeps (s : State) (c : ResetCause) : s.Keeps (s.fullReset c) where
  memory _ := s.mem.forget_wf
  shape h := ⟨Sections.reset_shaped, s.imageAfterReset_length h.2.1, rfl, rfl, rfl, rfl, nofun⟩
  job _ := nofun
  port _ := ⟨⟨nofun, False.elim⟩, ⟨nofun, False.elim⟩, fun _ => rfl, Nat.zero_le 8, nofun, nofun⟩

theorem at0_replicate_zero (n i : Nat) : at0 (List.replicate n 0#16) i = 0#16 := by
  simp only [at0, List.getD_eq_getElem?_getD, List.getElem?_replicate]
  split <;> rfl

/-- The speed settings areas at a full reset (R80). -/
theorem Sections.reset_speeds : ∀ n, n < 24 →
    at0 Sections.reset.speeds (4 * n) = 0x0428#16 ∧ at0 Sections.reset.speeds (4 * n + 1) = 0x0001#16 ∧
      at0 Sections.reset.speeds (4 * n + 2) = 0#16 ∧ at0 Sections.reset.speeds (4 * n + 3) = 0#16 := by
  decide

/-- The words of an aspect table at a full reset (R107). -/
theorem Sections.reset_aspects : ∀ y, y < 4 → ∀ i, i < 33 →
    at0 Sections.reset.aspects (33 * y + i) = if i = 0 then 0x2000#16 else 0#16 := by
  decide

/-- The running state of every record and its kind states at a full reset. -/
theorem reset_records : ∀ n, n < 24 →
    State.reset.record n = RecordState.reset ∧ State.reset.speedKind n = SpeedKind.reset ∧
      State.reset.aspectKind n = AspectKind.reset := by
  decide

/-- Table 1.6, Table 3.3 and the other values of a full reset. -/
theorem State.fullReset_values (s : State) (c : ResetCause) : FullResetValues (s.fullReset c).driveLines := by
  refine ⟨⟨rfl, rfl, rfl⟩, ⟨rfl, rfl, rfl, rfl, rfl, rfl, rfl, rfl⟩,
    ⟨rfl, fun i _ => at0_replicate_zero 120 i, fun i _ => at0_replicate_zero 96 i, Sections.reset_speeds, ?_,
      fun i _ => at0_replicate_zero 360 i, fun i _ => at0_replicate_zero 4 i⟩,
    reset_records, ⟨rfl, rfl, rfl⟩, rfl, ⟨?_, rfl, rfl, rfl, rfl⟩, ⟨rfl, rfl⟩, ⟨rfl, rfl, rfl, rfl⟩, rfl, rfl⟩
  · intro y hy
    refine ⟨Sections.reset_aspects y hy 0 (by decide), fun i h1 hi => ?_⟩
    rw [show (s.fullReset c).driveLines.cfg = Sections.reset from rfl, Sections.reset_aspects y hy i hi,
      if_neg (by omega)]
  · show ∀ c, c < 4 → (List.replicate 4 (none : Option Stage)).getD c none = none
    decide

/-! ### The maintenance link (R154 to R161, R170, R171) -/

theorem State.answerAddress_keepsTurn (s : State) (target : BitVec 7) : s.KeepsTurn (s.answerAddress target) :=
  State.KeepsData.ofPath (t := s.answerAddress target) (.of_fields id)

/-- An update of the link that ends a request: none executes after it (R157). -/
theorem State.endRequest_keepsTurn {s u : State} (x : Link) (hmem : s.mem.wf = true → u.mem.wf = true)
    (hshape : ShapeInv s → ShapeInv u) (hx : x.job = none) (hpath : u.path = s.path) :
    s.KeepsTurn (u.withLink x) := by
  refine ⟨⟨⟨hmem, fun h => ?_, fun _ hj => absurd hx hj⟩, portInv_of_path hpath⟩, by rw [← hpath]; rfl⟩
  obtain ⟨hcfg, himage, hrecs, hspeeds, haspects, hstages, -⟩ := hshape h
  refine ⟨hcfg, himage, hrecs, hspeeds, haspects, hstages, fun j hj => ?_⟩
  rw [State.withLink_link, hx] at hj
  exact absurd hj nofun

theorem State.finishRequest_keepsTurn (s : State) (r : LinkResult) (sec detail : Nat) :
    s.KeepsTurn (s.finishRequest r sec detail) := State.endRequest_keepsTurn (u := s) _ id id rfl rfl

/-- What an entry to RUN leaves has the fixed lengths (R167). -/
theorem State.enterRun_shape (s : State) (h : ShapeInv s) : ShapeInv s.enterRun := by
  obtain ⟨hcfg, himage, -, -, -, -, hjob⟩ := h
  have hrecs : (recordIndices.map s.recordAtRun).length = 24 := by simp [recordIndices]
  unfold State.enterRun
  split <;> exact ⟨hcfg, himage, hrecs, rfl, rfl, rfl, hjob⟩

theorem State.enterRun_mem (s : State) : s.enterRun.mem = s.mem := by
  unfold State.enterRun
  split <;> rfl

theorem State.enterRun_path (s : State) : s.enterRun.path = s.path := by
  unfold State.enterRun
  split <;> rfl

theorem State.enterRun_link (s : State) : s.enterRun.link = s.link := by
  unfold State.enterRun
  split <;> rfl

theorem State.enterConfigMode_keepsTurn (s : State) : s.KeepsTurn s.enterConfigMode :=
  State.KeepsData.ofPath (t := s.enterConfigMode)
    (.of_fields (fun _ => Or.inl rfl) (recs := by simp [State.enterConfigMode]))

theorem State.takeEnterConfig_keepsTurn (s : State) : s.KeepsTurn s.takeEnterConfig := by
  have ok : s.KeepsTurn (s.enterConfigMode.commandResult .ok 1) :=
    s.enterConfigMode_keepsTurn.trans (State.finishRequest_keepsTurn _ _ _ _)
  have no : s.KeepsTurn (s.commandResult .notStandstill 1) := s.finishRequest_keepsTurn _ _ _
  unfold State.takeEnterConfig
  split
  · exact s.finishRequest_keepsTurn _ _ _
  · exact ok
  · split
    · exact ok
    · exact no
  · split
    · exact ok
    · exact no
  all_goals exact .refl s

theorem State.takeResume_keepsTurn (s : State) : s.KeepsTurn s.takeResume := by
  unfold State.takeResume
  split
  · split
    · exact State.endRequest_keepsTurn (u := s.enterRun) _ (by rw [s.enterRun_mem]; exact id) s.enterRun_shape rfl
        s.enterRun_path
    · exact s.finishRequest_keepsTurn _ _ _
  · exact s.finishRequest_keepsTurn _ _ _

/-- A request that takes time begins in CONFIG or SAFE alone (R157). -/
theorem State.beginJob_keepsTurn (s : State) (j : LinkJob) (request : List Byte) (hs : s.outOfService = true)
    (hj : ShapeInv s → j.shaped) :
    s.KeepsTurn (s.withLink { s.link with job := some j, request := request }) := by
  refine ⟨⟨⟨id, ?_, fun _ _ => ?_⟩, id⟩, rfl⟩
  · intro h
    obtain ⟨hcfg, himage, hrecs, hspeeds, haspects, hstages, -⟩ := id h
    refine ⟨hcfg, himage, hrecs, hspeeds, haspects, hstages, ?_⟩
    rintro _ ⟨⟩
    exact hj h
  · simpa [State.outOfService, State.part] using hs

theorem State.takeStore_keepsTurn (s : State) (request : List Byte) : s.KeepsTurn (s.takeStore request) := by
  unfold State.takeStore
  split
  · rename_i h
    exact (s.withImage_keepsTurn _ fun hs => by rw [List.length_set]; exact hs.2.1).trans
      (State.beginJob_keepsTurn (s.withImage _) (.store s.cfg) request h fun hs => hs.1)
  · exact s.finishRequest_keepsTurn _ _ _

theorem State.takeLoad_keepsTurn (s : State) (request : List Byte) : s.KeepsTurn (s.takeLoad request) := by
  unfold State.takeLoad
  split
  · rename_i h
    exact s.beginJob_keepsTurn .load request h fun _ => trivial
  · exact s.finishRequest_keepsTurn _ _ _

theorem State.takeRelease_keepsTurn (s : State) (n : Nat) : s.KeepsTurn (s.takeRelease n) := by
  unfold State.takeRelease
  split
  · exact (Event.finish_sameFrame (s.releaseRecord_only n)).keepsTurn.trans (State.finishRequest_keepsTurn _ _ _ _)
  · exact s.finishRequest_keepsTurn _ _ _

theorem State.takeClearRecall_keepsTurn (s : State) : s.KeepsTurn s.takeClearRecall := by
  have h : s.KeepsTurn (s.withMsg { s.msg with recalls := [] }) :=
    State.KeepsData.ofPath (t := s.withMsg { s.msg with recalls := [] }) (.of_fields id)
  exact h.trans (State.finishRequest_keepsTurn _ _ _ _)

/-- A command keeps the invariants and the alternation flag, or is RESTART (R161). -/
theorem State.performCommand_cases (s : State) (request : List Byte) (code : Nat) (arg : Byte) :
    s.KeepsTurn (s.performCommand request code arg) ∨
      s.performCommand request code arg = s.fullReset .linkRestart := by
  have plain : ∀ (k : Nat) (f : State → State), s.KeepsTurn (f s) → s.KeepsTurn (s.withoutArgument k arg f) := by
    intro k f hf
    unfold State.withoutArgument
    split
    · exact hf
    · exact s.finishRequest_keepsTurn _ _ _
  unfold State.performCommand
  split
  · exact Or.inl (plain _ _ s.takeEnterConfig_keepsTurn)
  · exact Or.inl (plain _ _ s.takeResume_keepsTurn)
  · exact Or.inl (plain _ _ (s.takeStore_keepsTurn request))
  · exact Or.inl (plain _ _ (s.takeLoad_keepsTurn request))
  · split
    · exact Or.inl (s.finishRequest_keepsTurn _ _ _)
    · exact Or.inl (s.takeRelease_keepsTurn _)
  · exact Or.inl (plain _ _ s.takeClearRecall_keepsTurn)
  · unfold State.withoutArgument
    split
    · exact Or.inr rfl
    · exact Or.inl (s.finishRequest_keepsTurn _ _ _)
  · exact Or.inl (s.finishRequest_keepsTurn _ _ _)

theorem State.performRequest_cases (s : State) (request : List Byte) (q : LinkRequest) :
    s.KeepsTurn (s.performRequest request q) ∨ s.performRequest request q = s.fullReset .linkRestart := by
  unfold State.performRequest
  split
  · exact Or.inl (s.finishRequest_keepsTurn _ _ _)
  · split
    · exact Or.inl (State.endRequest_keepsTurn (u := s) _ id id rfl rfl)
    · split
      · exact s.performCommand_cases _ _ _
      · split
        · exact Or.inl (s.finishRequest_keepsTurn _ _ _)
        · exact Or.inl ((s.withCfg_keepsTurn _ fun hs =>
            s.cfg.put_shaped _ _ hs.1 (overwrite_length _ _ _)).trans (State.finishRequest_keepsTurn _ _ _ _))

/-- A transfer of the link keeps the invariants and the alternation flag, or restarts the part (R154 to R161). -/
theorem State.linkTransfer_cases (s : State) (x : LinkTransfer) :
    s.KeepsTurn (s.linkTransfer x) ∨
      ∃ u, s.KeepsTurn u ∧ s.linkTransfer x = u.fullReset .linkRestart := by
  have h1 := s.answerAddress_keepsTurn x.target
  unfold State.linkTransfer
  simp only
  split
  · split
    · exact Or.inl h1
    · split
      · exact Or.inl (h1.trans (State.finishRequest_keepsTurn _ _ _ _))
      · rcases State.performRequest_cases (s.answerAddress x.target) x.bytes _ with h | h
        · exact Or.inl (h1.trans h)
        · exact Or.inr ⟨_, h1, h⟩
  · exact Or.inl h1

theorem State.endStore_keepsTurn (s : State) (c : Sections) (faults : List (Nat × Word))
    (h : s.link.job = some (.store c)) : s.KeepsTurn (s.endStore c faults) := by
  have hl : ShapeInv s → (storedImage (imageOf c) faults).length = 816 := fun hs => by
    rw [storedImage_length, imageOf_length c (hs.2.2.2.2.2.2 _ h)]
  unfold State.endStore
  simp only
  split
  · exact (s.withImage_keepsTurn _ hl).trans (State.finishRequest_keepsTurn _ _ _ _)
  · exact (s.withImage_keepsTurn _ fun hs => by rw [List.length_set]; exact hl hs).trans
      (State.finishRequest_keepsTurn _ _ _ _)

theorem State.endLoad_keepsTurn (s : State) : s.KeepsTurn s.endLoad := by
  unfold State.endLoad
  split
  · exact (s.withCfg_keepsTurn _ fun hs => imageSections_shaped _ hs.2.1).trans (State.finishRequest_keepsTurn _ _ _ _)
  · exact s.finishRequest_keepsTurn _ _ _

/-! ### Start-up (R14, R163, R165) -/

theorem State.startupLoad_keepsTurn (s : State) (h : s.ctl.part = .load) : s.KeepsTurn s.startupLoad := by
  have safe : ∀ (u : State) (x : Control), u.ctl.part = .load → x.part = .safe → u.KeepsTurn (u.withCtl x) :=
    fun u x hu hx => State.KeepsData.ofPath (t := u.withCtl x) (.of_fields fun _ => Or.inr hx)
  have run : ∀ u : State, u.ctl.part = .load → u.KeepsTurn u.enterRun := fun u hu =>
    ⟨⟨⟨by rw [u.enterRun_mem]; exact id, u.enterRun_shape, fun hj hn => by
        rw [u.enterRun_link] at hn
        have := hj hn
        rw [hu] at this
        exact absurd this (by decide)⟩, portInv_of_path u.enterRun_path⟩, by rw [u.enterRun_path]⟩
  unfold State.startupLoad
  split
  · have hc := s.withCfg_keepsTurn (imageSections s.image) fun hs => imageSections_shaped _ hs.2.1
    simp only
    split
    · exact hc.trans (run _ h)
    · exact hc.trans (safe _ _ h rfl)
  · exact safe s _ h rfl

/-- The port's operations of the initial refreshes are outside the arbiter (R14). -/
theorem State.withOps_keepsTurn (s : State) (ops : List MemOp) :
    s.KeepsTurn (s.withPort { s.path.port with ops := ops }) := ⟨⟨s.withPath_keepsData _, id⟩, rfl⟩

/-- In POWER_UP and MEMORY_INIT no request executes, so the part state may move on. -/
theorem State.withCtl_keepsTurn (s : State) (x : Control) (h : s.ctl.part = .config ∨ s.ctl.part = .safe →
    x.part = .config ∨ x.part = .safe) : s.KeepsTurn (s.withCtl x) :=
  State.KeepsData.ofPath (t := s.withCtl x) (.of_fields h)

theorem State.withSpeed_keepsTurn (s : State) (x : Axle) : s.KeepsTurn (s.withSpeed { s.speed with axle := x }) :=
  State.KeepsData.ofPath (t := s.withSpeed { s.speed with axle := x }) (.of_fields id)

theorem State.withDebouncer_keepsTurn (s : State) (line : Bool) (d : Debouncer) :
    s.KeepsTurn (s.withMsg { s.msg with ackLine := line, debouncer := d }) :=
  State.KeepsData.ofPath (t := s.withMsg { s.msg with ackLine := line, debouncer := d }) (.of_fields id)

theorem State.initialRefresh_keepsTurn (s : State) (k : Nat) : s.KeepsTurn (s.initialRefresh k) :=
  (s.withCtl_keepsTurn { s.ctl with init := .refreshing (k + 1) } id).trans (State.withOps_keepsTurn _ _)

theorem State.startOfService_keepsTurn (s : State) (h : s.ctl.part = .memoryInit) : s.KeepsTurn s.startOfService :=
  ((s.withCtl_keepsTurn { s.ctl with part := .load } (by simp [h])).trans
    (State.withRefresh_keepsTurn _ _ fun _ => Nat.zero_le 8)).trans (State.withSpeed_keepsTurn _ _)

/-! ### The desk key (R166) -/

theorem State.followDesk_keepsTurn (s : State) (level : Bool) : s.KeepsTurn (s.followDesk level) := by
  unfold State.followDesk
  split
  · rename_i h
    exact s.setPart_keepsTurn _ (by simp_all [State.part])
  · rename_i h
    exact s.setPart_keepsTurn _ (by simp_all [State.part])
  · exact .refl s

theorem State.deskInput_keepsTurn (s : State) (high : Bool) : s.KeepsTurn (s.deskInput high) := by
  unfold State.deskInput
  split
  · exact s.withCtl_keepsTurn _ id
  · exact s.withCtl_keepsTurn _ id

theorem State.expire_keepsTurn (s : State) (n : Nat) : s.KeepsTurn (s.expire n).finish :=
  (Event.finish_sameFrame (s.expire_only n)).keepsTurn

/-! ### Every command (R1, R157) -/

/-- The desk computer's write that a POST row carries, where the command is one (log 14). -/
def postWriteOf : Instr → Option (Addr × Word)
  | .postMessageWord a w => some (a, w)
  | .postRaise a marker ignored => some (a, actionWord marker ignored 1#4)
  | .postClear a marker ignored => some (a, actionWord marker ignored 2#4)
  | .postAck a marker ignored => some (a, actionWord marker ignored 3#4)
  | .badPost a marker ignored action => some (a, actionWord marker ignored action)
  | _ => none

/-- What a command can do to the invariants and the alternation flag: a grant moment, a post, a full reset, or a step
that keeps them. -/
inductive Turn (c : Instr) (s t : State) : Prop where
  | grant (h : c = .arbiterGrant) (e : t = s.arbitrate)
  | post (a : Addr) (w : Word) (h : postWriteOf c = some (a, w)) (e : t = s.deskWrite a w)
  | reset (u : State) (cause : ResetCause) (h : s.KeepsTurn u) (e : t = u.fullReset cause)
  | kept (h : s.KeepsTurn t)

/-- What `exec` answers. -/
def TurnOf (c : Instr) (s : State) (o : Host.Outcome State Fault Refusal) : Prop :=
  ∃ t, o = complete t ∧ Turn c s t

theorem TurnOf.ite {c : Instr} {s : State} {p : Prop} [Decidable p] {o o' : Host.Outcome State Fault Refusal}
    (h : p → TurnOf c s o) (h' : ¬p → TurnOf c s o') : TurnOf c s (if p then o else o') := by
  split
  · exact h ‹_›
  · exact h' ‹_›

theorem turnOf_kept {c : Instr} {s t : State} (h : s.KeepsTurn t) : TurnOf c s (complete t) := ⟨t, rfl, .kept h⟩

theorem turnOf_same (c : Instr) (s : State) : TurnOf c s (complete s) := turnOf_kept (.refl s)

theorem turnOf_link (c : Instr) (s : State) (x : LinkTransfer) : TurnOf c s (complete (s.linkTransfer x)) := by
  rcases s.linkTransfer_cases x with h | ⟨u, hu, e⟩
  · exact turnOf_kept h
  · exact ⟨_, rfl, .reset u _ hu e⟩

theorem turnOf_reset (c : Instr) (s : State) (x : Control) (cause : ResetCause) (h : x.part = s.ctl.part) :
    TurnOf c s (complete ((s.withCtl x).fullReset cause)) :=
  ⟨_, rfl, .reset _ cause (s.withCtl_keepsTurn x (by rw [h]; exact id)) rfl⟩

theorem turnOf_initialRefreshDone (c : Instr) (s : State) : TurnOf c s (execInitialRefreshDone s) := by
  unfold execInitialRefreshDone
  split
  · rename_i k hpart _
    refine turnOf_kept ?_
    split
    · exact (s.initialRefresh_keepsTurn k).trans (State.startOfService_keepsTurn _ hpart)
    · exact s.initialRefresh_keepsTurn k
  · exact turnOf_same c s

theorem turnOf_powerUpEnd (c : Instr) (s : State) (straps : BitVec 2) : TurnOf c s (execPowerUpEnd straps s) := by
  refine .ite (fun h => ?_) fun _ => turnOf_same c s
  have hpart : s.ctl.part = .powerUp := by
    simp only [State.powerUpMayEnd, State.part, Bool.and_eq_true, beq_iff_eq] at h
    exact h.1.1
  exact turnOf_kept ((s.withCtl_keepsTurn _ (by simp [hpart])).trans (State.withDebouncer_keepsTurn _ s.msg.ackLine _))

theorem turnOf_scanWord (c : Instr) (s : State) : TurnOf c s (execScanWord s) := by
  unfold execScanWord
  split
  · rename_i b hb
    exact .ite (fun _ => turnOf_same c s) fun _ => turnOf_kept (s.serveScanWord_keepsTurn b hb)
  · exact turnOf_same c s
  · exact turnOf_same c s

theorem turnOf_storeDone (c : Instr) (s : State) (faults : List (Nat × Word)) : TurnOf c s (execStoreDone faults s) := by
  unfold execStoreDone
  split
  · exact turnOf_kept (s.endStore_keepsTurn _ faults ‹_›)
  · exact turnOf_same c s
  · exact turnOf_same c s

theorem turnOf_loadDone (c : Instr) (s : State) : TurnOf c s (execLoadDone s) := by
  unfold execLoadDone
  split
  · exact turnOf_kept s.endLoad_keepsTurn
  · exact turnOf_same c s
  · exact turnOf_same c s

theorem turnOf_changeoverTimerExpiry (c : Instr) (s : State) : TurnOf c s (execChangeoverTimerExpiry s) := by
  refine .ite (fun _ => turnOf_kept ?_) fun _ => turnOf_same c s
  exact ((s.setSelection_only 0 _).sameFrame.trans (State.takeRequests_only _ _).sameFrame).keepsTurn

/-- Every command: a grant, a post, a full reset, or a step that keeps the invariants and the alternation flag. -/
theorem exec_turn (c : Instr) (s : State) : TurnOf c s (exec c s) := by
  cases c with
  | powerOn => exact turnOf_reset _ s _ _ rfl
  | supplyDip => exact turnOf_reset _ s _ _ rfl
  | resetLine => exact turnOf_reset _ s _ _ rfl
  | powerUpEnd straps => exact turnOf_powerUpEnd _ s straps
  | memoryInitPauseEnd =>
    exact .ite (fun _ => turnOf_kept ((s.withCtl_keepsTurn { s.ctl with init := .refreshing 0 } id).trans
      (State.withOps_keepsTurn _ []))) fun _ => turnOf_same _ s
  | initialRefreshDone => exact turnOf_initialRefreshDone _ s
  | startupLoadDone =>
    exact .ite (fun h => turnOf_kept ((s.startupLoad_keepsTurn h).trans (State.releaseHeld_keepsTurn _)))
      fun _ => turnOf_same _ s
  | deskOnInputChange high => exact turnOf_kept (s.deskInput_keepsTurn high)
  | deskOnFilterChange =>
    exact .ite (fun _ => turnOf_kept ((s.withCtl_keepsTurn
      { s.ctl with deskLevel := !s.ctl.deskLevel, deskDiffersSince := none } id).trans
        (State.followDesk_keepsTurn _ _))) fun _ => turnOf_same _ s
  | millisecondTick =>
    exact .ite (fun _ => turnOf_same _ s) fun _ =>
      turnOf_kept (s.withCtl_keepsTurn { s.ctl with ms := s.ctl.ms + 1#32 } id)
  | refreshTick => exact .ite (fun _ => turnOf_kept s.refreshTick_keepsTurn) fun _ => turnOf_same _ s
  | arbiterGrant => exact ⟨_, rfl, .grant rfl rfl⟩
  | refreshDone => exact .ite (fun h => turnOf_kept (s.refreshDone_keepsTurn h)) fun _ => turnOf_same _ s
  | upstreamColumnDone => exact turnOf_kept s.columnDone_keepsTurn
  | upstreamArrival r => exact turnOf_kept (s.arrive_keepsTurn r)
  | scanBurstArrival start count => exact turnOf_kept (s.arriveBurst_keepsTurn start count)
  | scanWord => exact turnOf_scanWord _ s
  | freshnessExpiry n => exact .ite (fun _ => turnOf_kept (s.expire_keepsTurn n)) fun _ => turnOf_same _ s
  | changeoverTimerExpiry => exact turnOf_changeoverTimerExpiry _ s
  | axlePulse => exact turnOf_kept (s.withSpeed_keepsTurn _)
  | axleWindowEnd => exact .ite (fun _ => turnOf_kept (s.withSpeed_keepsTurn _)) fun _ => turnOf_same _ s
  | ackLineAsserted => exact turnOf_kept (s.withDebouncer_keepsTurn _ _)
  | ackLineReleased => exact turnOf_kept (s.withDebouncer_keepsTurn _ _)
  | ackPress => exact .ite (fun _ => turnOf_kept s.press_only.sameFrame.keepsTurn) fun _ => turnOf_same _ s
  | ackReleaseSettled =>
    exact .ite (fun _ => turnOf_kept (s.withDebouncer_keepsTurn s.msg.ackLine .released)) fun _ => turnOf_same _ s
  | postMessageWord a w => exact ⟨_, rfl, .post a w rfl rfl⟩
  | postRaise a marker ignored => exact ⟨_, rfl, .post a _ rfl rfl⟩
  | postClear a marker ignored => exact ⟨_, rfl, .post a _ rfl rfl⟩
  | postAck a marker ignored => exact ⟨_, rfl, .post a _ rfl rfl⟩
  | badPost a marker ignored action => exact ⟨_, rfl, .post a _ rfl rfl⟩
  | statusWord0Read a => exact turnOf_kept (s.arrive_keepsTurn (.read a))
  | readTransfer target count =>
    exact turnOf_kept (State.KeepsData.ofPath (t := s.readTransferBytes target count) (.of_fields id))
  | storeDone faults => exact turnOf_storeDone _ s faults
  | loadDone => exact turnOf_loadDone _ s
  | linkAddressProbe _ => exact turnOf_link _ s _
  | readRequest _ => exact turnOf_link _ s _
  | sectionWrite _ => exact turnOf_link _ s _
  | enterConfig _ => exact turnOf_link _ s _
  | resume _ => exact turnOf_link _ s _
  | store _ => exact turnOf_link _ s _
  | load _ => exact turnOf_link _ s _
  | release _ => exact turnOf_link _ s _
  | clearRecall _ => exact turnOf_link _ s _
  | restart _ => exact turnOf_link _ s _
  | badCommand _ _ => exact turnOf_link _ s _
  | resetLineReleased => exact turnOf_kept (s.withCtl_keepsTurn { s.ctl with resetAsserted := false } id)
  | supplyGoodAfterDip => exact turnOf_kept (s.withCtl_keepsTurn { s.ctl with supplyGood := true } id)

theorem Turn.keeps {c : Instr} {s t : State} (h : Turn c s t) : s.Keeps t := by
  cases h with
  | grant _ e => rw [e]; exact s.arbitrate_keeps
  | post a w _ e => rw [e]; exact s.deskWrite_keeps a w
  | reset u cause hu e => rw [e]; exact hu.toKeeps.trans (u.fullReset_keeps cause)
  | kept h => exact h.toKeeps

theorem exec_keeps (c : Instr) (s t : State) (h : exec c s = .next t) : s.Keeps t := by
  obtain ⟨u, e, hu⟩ := exec_turn c s
  rw [e] at h
  cases h
  exact hu.keeps.trans u.driveLines_keepsTurn.toKeeps

/-- A step is the front command from the state without it, or idles (log 1). -/
theorem step_keeps (s t : State) (h : step s = .next t) : s.Keeps t := by
  unfold step at h
  split at h
  · cases h
    exact (State.KeepsTurn.refl s).toKeeps
  · exact (s.withPending_keepsTurn _).toKeeps.trans (exec_keeps _ _ _ h)

/-- Settles O5: every command keeps the canonical memory, the shapes and the port's one holder (`exec_keeps`). -/
theorem everyStepKeepsMemoryAndPort : Obligations.EveryStepKeepsMemoryAndPort := by
  refine ⟨fun s t h => ?_, fun s t hp h => (step_keeps s t h).port hp⟩
  obtain ⟨⟨hmem, hshape, hjob⟩, -⟩ := step_keeps s t h
  exact ⟨hmem, hshape, hjob⟩

end Sys2Proof.Machine
end

section
/-! PROOFS. Start-up, refresh ticks, arrivals and the arbiter: O15, O20, O22, O23. -/

namespace Sys2Proof.Machine

/-! ### What a command answers -/

/-- A command that changes nothing but drives the lines. -/
theorem answers_same {c : Instr} {s : State} (h : exec c s = complete s) :
    ∃ t, exec c s = .next t ∧ t = { s with lines := t.lines } := ⟨_, h, rfl⟩

/-- A command that changes the path alone. -/
theorem answers_path {c : Instr} {s u : State} {p : Path} (h : exec c s = complete u) (hu : u = s.withPath p) :
    ∃ t, exec c s = .next t ∧ t.path = p ∧ t = { s with path := t.path, lines := t.lines } := by
  subst hu
  exact ⟨_, h, rfl, rfl⟩

/-! ### Start-up (R14, R163) -/

theorem powerUpMayEnd_true (s : State) (hpart : s.ctl.part = .powerUp)
    (hgood : s.ctl.supplyGood = true) (hreset : s.ctl.resetAsserted = false) : s.powerUpMayEnd = true := by
  simp [State.powerUpMayEnd, State.part, hpart, hgood, hreset]

theorem not_powerUpMayEnd (s : State)
    (h : s.ctl.part ≠ .powerUp ∨ s.ctl.supplyGood = false ∨ s.ctl.resetAsserted = true) :
    ¬s.powerUpMayEnd = true := by
  simp only [State.powerUpMayEnd, State.part, Bool.and_eq_true, beq_iff_eq, Bool.not_eq_true', not_and]
  rintro ⟨hpart, hgood⟩ hreset
  simp_all

theorem exec_initialRefreshDone (s : State) (k : Nat) (hpart : s.ctl.part = .memoryInit)
    (hinit : s.ctl.init = .refreshing k) :
    exec .initialRefreshDone s =
      complete (if 15 ≤ k then (s.initialRefresh k).startOfService else s.initialRefresh k) := by
  simp only [exec, execInitialRefreshDone, State.part, hpart, hinit]

/-- Settles O15. -/
theorem powerUpAndMemoryInitialization : Obligations.PowerUpAndMemoryInitialization := by
  refine ⟨fun s => ⟨⟨_, rfl, rfl, rfl⟩, ⟨_, rfl, rfl, rfl⟩, fun straps => ⟨?_, ?_⟩⟩, fun s hpart => ⟨?_, ?_, ?_⟩⟩
  · intro hpart hgood hreset
    exact ⟨_, if_pos (powerUpMayEnd_true s hpart hgood hreset), rfl, rfl, rfl⟩
  · intro h
    exact answers_same (if_neg (not_powerUpMayEnd s h))
  · intro hinit
    exact ⟨_, if_pos ⟨hpart, hinit⟩, rfl, rfl, rfl⟩
  · intro k hinit hk
    refine ⟨_, (exec_initialRefreshDone s k hpart hinit).trans (by rw [if_neg (by omega)]; rfl), rfl, rfl, rfl⟩
  · intro hinit
    exact ⟨_, exec_initialRefreshDone s 15 hpart hinit, rfl, rfl, rfl, rfl⟩

/-! ### Refresh ticks (R11, R13) -/

theorem exec_refreshTick (s : State) (h : s.path.refresh.ticking = true) :
    exec .refreshTick s = complete s.refreshTick := if_pos h

/-- The state after the tick that brings the debt to 8 with the arm armed, before the overrun's effects (R11). -/
def State.overdue (s : State) : State := s.withRefresh { s.path.refresh with debt := 8, armed := false }

theorem refreshTick_overdue (s : State) (h7 : s.path.refresh.debt = 7) (harm : s.path.refresh.armed = true) :
    s.refreshTick = s.overdue.overrun := if_pos ⟨h7, harm⟩

/-- Settles O20. -/
theorem refreshTickRaisesTheDebt : Obligations.RefreshTickRaisesTheDebt := by
  intro s
  refine ⟨?_, ?_, ?_⟩
  · intro htick hno hle
    have hdebt : (if s.path.refresh.debt < 8 then s.path.refresh.debt + 1 else s.path.refresh.debt) =
        min 8 (s.path.refresh.debt + 1) := by
      split <;> omega
    refine answers_path (exec_refreshTick s htick) ?_
    rw [State.refreshTick, if_neg hno, hdebt]
    rfl
  · intro htick h7 harm hrun hretain
    have hout : s.overdue.inService = false := by
      rw [Bool.eq_false_iff]
      exact fun h => ((State.inService_iff _).1 h).elim hrun hretain
    have ho : s.overdue.overrun = (s.overdue.notify .overrun).withMem s.mem.forget := by
      simp only [State.overrun, hout]
      rfl
    refine ⟨_, (exec_refreshTick s htick).trans (by rw [refreshTick_overdue s h7 harm, ho]; rfl), rfl, rfl, rfl, rfl⟩
  · intro htick
    exact answers_same (if_neg (by rw [htick]; decide))

/-! ### Arrivals (R3, R15, R16) -/

theorem State.disposition_startingUp (s : State) (r : UpstreamRequest)
    (h : s.ctl.part = .powerUp ∨ s.ctl.part = .memoryInit ∨ s.ctl.part = .load) :
    s.disposition r = .heldAtStart := by
  rcases h with h | h | h <;> simp [State.disposition, State.part, h]

theorem dispose_heldAtStart {s : State} {r : UpstreamRequest} (h : s.disposition r = .heldAtStart) :
    s.dispose r = s.withUp (.heldAtStart r) := by
  rw [State.dispose, h]

theorem dispose_memory {s : State} {r : UpstreamRequest} {a : Addr} (h : s.disposition r = .memory a) :
    s.dispose r = s.withUp (.claiming r) := by
  rw [State.dispose, h]

theorem exec_upstreamArrival (s : State) (r : UpstreamRequest) :
    exec (.upstreamArrival r) s = complete (s.arrive r) := rfl

/-- Settles O23. -/
theorem arrivalByPartState : Obligations.ArrivalByPartState := by
  intro s r
  refine ⟨fun hidle hpart => ?_, fun hidle hpart => ?_, fun hbusy => ?_⟩
  · refine answers_path (exec_upstreamArrival s r) ?_
    rw [s.arrive_idle r hidle, dispose_heldAtStart (s.disposition_startingUp r hpart)]
    rfl
  · refine answers_path (exec_upstreamArrival s r) ?_
    rw [s.arrive_idle r hidle, dispose_memory (s.disposition_out r hpart)]
    rfl
  · exact answers_same (by rw [exec_upstreamArrival, s.arrive_held r hbusy])

/-! ### The arbiter (R9, R10, R12, Table 1.2) -/

theorem State.upWaits_false (s : State) (h : ∀ r, s.path.up ≠ .claiming r) : s.upWaits = false := by
  rw [Bool.eq_false_iff, Ne, s.upWaits_iff]
  exact fun ⟨r, hr⟩ => h r hr

theorem State.scanWaits_false (s : State) (h : ∀ b, s.path.scan = .active b → b.phase ≠ .claiming) :
    s.scanWaits = false := by
  rw [Bool.eq_false_iff, Ne, s.scanWaits_iff]
  exact fun ⟨b, hb, hp⟩ => h b hb hp

theorem exec_arbiterGrant (s : State) : exec .arbiterGrant s = complete s.arbitrate := rfl

/-- A grant to refresh, as the statement has it (R12). -/
theorem grantRefresh_path (s : State) (h : 1 ≤ s.path.refresh.debt) :
    s.grantRefresh = s.withPath { s.path with
      port := { holder := .refresh, openRow := none, ops := [.rowRefresh s.path.refresh.row.toNat] }
      refresh := { s.path.refresh with
        row := s.path.refresh.row + 1#10, debt := s.path.refresh.debt - 1,
        armed := s.path.refresh.armed || s.path.refresh.debt == 1 } } := by
  have hz : (s.path.refresh.debt - 1 == 0) = (s.path.refresh.debt == 1) := by
    rw [Bool.eq_iff_iff, beq_iff_eq, beq_iff_eq]
    omega
  simp only [State.grantRefresh, hz]
  rfl

theorem winner_urgent (s : State) (h : 4 ≤ s.path.refresh.debt) : s.winner = .refresh := if_pos h

theorem winner_scan (s : State) (hd : s.path.refresh.debt < 4) (hs : s.scanWaits = true)
    (hu : s.path.alternate = false ∨ s.upWaits = false) : s.winner = .scan := by
  have hno : (s.upWaits && s.path.alternate) = false := by rcases hu with h | h <;> simp [h]
  simp [State.winner, Nat.not_le.2 hd, hno, hs]

/-- With no upstream transaction and no burst waiting, refresh claims at any debt (R12). -/
theorem winner_idle (s : State) (hu : s.upWaits = false) (hs : s.scanWaits = false) :
    s.winner = if 1 ≤ s.path.refresh.debt then .refresh else .free := by
  by_cases h4 : 4 ≤ s.path.refresh.debt
  · rw [winner_urgent s h4, if_pos (by omega)]
  · simp [State.winner, h4, hu, hs]

/-- After a grant to the upstream transaction the alternation flag is clear, and the burst and the refresh unit stand. -/
theorem State.grantUpstream_path (s : State) (r : UpstreamRequest) (h : s.path.up = .claiming r) :
    s.grantUpstream.path.alternate = false ∧ s.grantUpstream.path.refresh = s.path.refresh ∧
      s.grantUpstream.path.scan = s.path.scan ∧
      (s.grantUpstream.path.port.holder = .upstream ∨ s.grantUpstream.path.port.holder = .free) := by
  rw [s.grantUpstream_claiming r h]
  obtain ⟨-, hp, hport⟩ := s.serveGranted_grant r
  refine ⟨by rw [hp], by rw [hp], by rw [hp], ?_⟩
  rcases hport with ⟨hu, -⟩ | ⟨hf, -⟩
  · exact Or.inl hu
  · exact Or.inr hf

/-- A grant moment sets the alternation flag by a grant to the burst alone (R10). -/
theorem arbitrate_sets_alternate (s : State) (h0 : s.path.alternate = false) (h1 : s.arbitrate.path.alternate = true) :
    s.arbitrate.path.port.holder = .scan ∧ s.upWaits = true := by
  have same : s.arbitrate.path.alternate = s.path.alternate → False := fun e => by rw [e, h0] at h1; exact absurd h1 nofun
  by_cases hfree : s.path.port.holder = .free
  · cases hw : s.winner with
    | refresh =>
      rw [s.arbitrate_refresh hfree hw] at same
      exact (same (s.grantRefresh_keepsTurn hfree).turn).elim
    | upstream =>
      rw [s.arbitrate_grantUpstream hfree hw] at h1
      cases hu : s.path.up with
      | claiming r =>
        rw [(s.grantUpstream_path r hu).1] at h1
        exact absurd h1 nofun
      | _ =>
        simp only [State.grantUpstream, hu, h0] at h1
        exact absurd h1 nofun
    | scan =>
      obtain ⟨b, hb, -⟩ := s.scanWaits_iff.1 (s.winner_scan hw)
      rw [s.arbitrate_scan hfree hw, s.grantScan_eq b hb] at h1 ⊢
      refine ⟨rfl, ?_⟩
      simpa [h0] using h1
    | free => exact (same (by rw [s.arbitrate_none hw])).elim
  · exact (same (by rw [s.arbitrate_busy hfree])).elim

/-- A post changes the alternation flag by the grant it carries, so from an idle upstream port and to clear (log 14). -/
theorem deskWrite_alternate (s : State) (a : Addr) (w : Word)
    (h : (s.deskWrite a w).path.alternate ≠ s.path.alternate) :
    s.path.up = .idle ∧ (s.deskWrite a w).path.alternate = false := by
  rw [State.deskWrite_eq] at h ⊢
  split at h
  · exact absurd rfl h
  · rename_i hidle
    have hturn : (s.dispose (.write a w)).path.alternate = s.path.alternate := by
      rw [(s.dispose_only (.write a w)).rest]
    refine ⟨not_not.1 hidle, ?_⟩
    rw [if_neg hidle]
    split at h
    · rename_i hg
      rw [if_pos hg, (State.columnDone_keepsTurn _).turn]
      rw [(State.columnDone_keepsTurn _).turn] at h
      cases hu : (s.dispose (.write a w)).path.up with
      | claiming r => exact (State.grantUpstream_path _ r hu).1
      | _ =>
        simp only [State.grantUpstream, hu] at h
        exact absurd hturn h
    · exact absurd hturn h

/-- The rows that carry a post. -/
theorem postWriteOf_cases {c : Instr} {a : Addr} {w : Word} (h : postWriteOf c = some (a, w)) :
    ∃ a w, c = .postMessageWord a w ∨ (∃ m i, c = .postRaise a m i) ∨ (∃ m i, c = .postClear a m i) ∨
      (∃ m i, c = .postAck a m i) ∨ ∃ m i x, c = .badPost a m i x := by
  cases c with
  | postMessageWord b v => exact ⟨b, v, Or.inl rfl⟩
  | postRaise b m i => exact ⟨b, w, Or.inr (Or.inl ⟨m, i, rfl⟩)⟩
  | postClear b m i => exact ⟨b, w, Or.inr (Or.inr (Or.inl ⟨m, i, rfl⟩))⟩
  | postAck b m i => exact ⟨b, w, Or.inr (Or.inr (Or.inr (Or.inl ⟨m, i, rfl⟩)))⟩
  | badPost b m i x => exact ⟨b, w, Or.inr (Or.inr (Or.inr (Or.inr ⟨m, i, x, rfl⟩)))⟩
  | _ => exact absurd h nofun

/-- Settles O22: the table by the cases of `State.winner`, the flag by what each command can do to it (`exec_turn`). -/
theorem arbiterGrantsInTheOrderOfTheTable : Obligations.ArbiterGrantsInTheOrderOfTheTable := by
  refine ⟨fun s => ?_, fun s => ⟨fun h => ?_, fun h => answers_same (if_neg h), fun h => ?_⟩, fun c s t he hne => ?_⟩
  · refine ⟨fun hfree h4 => ?_, fun r hfree hd hu ha => ?_, fun b hfree hd hb hp hu => ?_,
      fun hfree h1 hu hb => ?_, fun h => ?_⟩
    · exact answers_path (exec_arbiterGrant s)
        (by rw [s.arbitrate_refresh hfree (winner_urgent s h4), grantRefresh_path s (by omega)])
    · have hw := winner_upstream s r ⟨hu, hfree, hd, ha.imp_right s.scanWaits_false⟩
      obtain ⟨h1, h2, h3, h4⟩ := s.grantUpstream_path r hu
      rw [exec_arbiterGrant, s.arbitrate_grantUpstream hfree hw]
      exact ⟨_, rfl, h1, h2, h3, h4⟩
    · have hw := winner_scan s hd (s.scanWaits_iff.2 ⟨b, hb, hp⟩) (hu.imp_right s.upWaits_false)
      exact answers_path (exec_arbiterGrant s) (by rw [s.arbitrate_scan hfree hw, s.grantScan_eq b hb])
    · have hw := (winner_idle s (s.upWaits_false hu) (s.scanWaits_false hb)).trans (if_pos h1)
      exact answers_path (exec_arbiterGrant s) (by rw [s.arbitrate_refresh hfree hw, grantRefresh_path s h1])
    · refine answers_same ?_
      rw [exec_arbiterGrant]
      rcases h with h | ⟨h0, hu, hb⟩
      · rw [s.arbitrate_busy h]
      · have hw := (winner_idle s (s.upWaits_false hu) (s.scanWaits_false hb)).trans (if_neg (by omega))
        rw [s.arbitrate_none hw]
  · exact answers_path (if_pos h) rfl
  · refine answers_same ?_
    show complete s.columnDone = complete s
    unfold State.columnDone
    split
    · exact absurd ‹_› (h _ _)
    · exact absurd ‹_› (h _ _)
    all_goals rfl
  · obtain ⟨u, e, hturn⟩ := exec_turn c s
    rw [e] at he
    cases he
    cases hturn with
    | grant hc e =>
      subst e
      refine ⟨fun h0 => ?_, fun _ => Or.inr (Or.inl hc)⟩
      have h1 : s.arbitrate.path.alternate = true := by
        rw [h0] at hne
        exact Bool.eq_true_of_not_eq_false hne
      obtain ⟨hscan, hup⟩ := arbitrate_sets_alternate s h0 h1
      exact ⟨hc, hscan, hup⟩
    | post a w hc e =>
      subst e
      obtain ⟨hidle, hclear⟩ := deskWrite_alternate s a w hne
      refine ⟨fun h0 => absurd (hclear.trans h0.symm) hne, fun _ => Or.inr (Or.inr ?_)⟩
      obtain ⟨a', w', hform⟩ := postWriteOf_cases hc
      exact ⟨a', w', hform, hidle⟩
    | reset v cause _ e =>
      subst e
      exact ⟨fun h0 => absurd h0.symm hne, fun _ => Or.inl (v.fullReset_values cause)⟩
    | kept h => exact absurd h.turn hne

end Sys2Proof.Machine
end

section
/-! PROOFS. Grants to the upstream transaction: O27, O28. -/

namespace Sys2Proof.Machine

/-! ### Service by the disposition at the grant (R4) -/

/-- A granted transaction that needs memory does its work there. -/
theorem grant_memory {s : State} {r : UpstreamRequest} {a : Addr} (h : GrantsUpstream s r)
    (hd : s.disposition r = .memory a) :
    exec .arbiterGrant s = complete (s.upstreamGranted.serveMemory r a) := by
  rw [exec_arbiterGrant, arbitrate_upstream s r h, State.serveGranted, State.upstreamGranted_disposition, hd]

/-- A granted transaction that the part answers or drops is disposed of and the port is free. -/
theorem grant_answered {s : State} {r : UpstreamRequest} {w : Word} (h : GrantsUpstream s r)
    (hd : s.disposition r = .answered w) :
    exec .arbiterGrant s = complete (s.upstreamGranted.completeRead w).freePort := by
  rw [exec_arbiterGrant, arbitrate_upstream s r h, State.serveGranted, State.upstreamGranted_disposition, hd,
    State.dispose, State.upstreamGranted_disposition, hd]

theorem grant_dropped {s : State} {r : UpstreamRequest} (h : GrantsUpstream s r) (hd : s.disposition r = .dropped) :
    exec .arbiterGrant s = complete s.upstreamGranted.completeWrite.freePort := by
  rw [exec_arbiterGrant, arbitrate_upstream s r h, State.serveGranted, State.upstreamGranted_disposition, hd,
    State.dispose, State.upstreamGranted_disposition, hd]

theorem grant_heldForPin {s : State} {r : UpstreamRequest} (h : GrantsUpstream s r)
    (hd : s.disposition r = .heldForPin) :
    exec .arbiterGrant s = complete (s.upstreamGranted.withUp (.heldForPin r)).freePort := by
  rw [exec_arbiterGrant, arbitrate_upstream s r h, State.serveGranted, State.upstreamGranted_disposition, hd,
    State.dispose, State.upstreamGranted_disposition, hd]

/-- Settles O27. -/
theorem grantedTransactionIsServedAtItsAddress : Obligations.GrantedTransactionIsServedAtItsAddress := by
  intro s a w
  refine ⟨fun hc hg => ?_, fun hc hg => ?_⟩
  · have hd : s.disposition (.write a w) = .memory a := by
      rcases hc with hout | ⟨hs, hclass | hclass⟩
      · exact s.disposition_out _ hout
      · rw [s.disposition_write a w hs, hclass]; rfl
      · rw [s.disposition_write a w hs, hclass]; rfl
    exact ⟨_, _, grant_memory hg hd, writtenAt_written s _ a w, rfl, rfl, rfl, rfl⟩
  · have hd : s.disposition (.read a) = .memory a := by
      rcases hc with hout | ⟨hs, (hclass | hclass) | hclass | hclass | ⟨k, hclass⟩⟩
      · exact s.disposition_out _ hout
      all_goals rw [s.disposition_read a hs, hclass]; rfl
    exact ⟨_, _, grant_memory hg hd, rfl, rfl, rfl, rfl, rfl⟩

/-! ### Window transactions at their grant (R40, R52) -/

/-- A word of a VALID record's window up to the check word is read from the copy in front (R51). -/
theorem State.windowWord_memory (s : State) (n k : Nat) (front : Copy) (pres : Option (List Word))
    (hk : k < (s.cfg.entry n).length) (hi : k ≤ (s.cfg.entry n).inputs) :
    s.windowWord n k front .valid pres = .memory (s.copyAddr n front k) := by
  simp only [State.windowWord, Nat.not_le.2 hk, hi, if_true, if_false]
  rfl

/-- A word of a window of a record that is not VALID is its substitute word (R52). -/
theorem State.windowWord_substitute (s : State) (n k : Nat) (front : Copy) (status : Status)
    (pres : Option (List Word)) (hk : k < (s.cfg.entry n).length) (hv : status ≠ .valid) :
    s.windowWord n k front status pres = .supplied (at0 s.cfg.substitutes (15 * n + k)) := by
  simp only [State.windowWord, Nat.not_le.2 hk, hv, if_false]
  rfl

/-- Settles O28. -/
theorem grantDecidesAgain : Obligations.GrantDecidesAgain := by
  intro s r n k hg hs hc hkind hk
  refine ⟨?_, ?_, ?_, ?_⟩
  · rintro ⟨a, rfl⟩ hv
    have hd : s.disposition (.read a) = .answered (at0 s.cfg.substitutes (15 * n + k)) := by
      rw [s.disposition_read a hs, show s.cfg.classify .upstream a = _ from hc, State.decideRead, State.windowNow,
        s.windowWord_substitute n k _ _ _ hk hv]
      rfl
    exact answers_path (grant_answered hg hd) rfl
  · rintro ⟨a, rfl⟩ hv hi
    have hd : s.disposition (.read a) = .memory (s.copyAddr n (s.record n).front k) := by
      rw [s.disposition_read a hs, show s.cfg.classify .upstream a = _ from hc, State.decideRead, State.windowNow, hv,
        s.windowWord_memory n k _ _ hk hi]
      rfl
    exact answers_path (grant_memory hg hd) rfl
  · rintro ⟨a, w, rfl⟩ hb
    have hd : s.disposition (.write a w) = .dropped := by
      rw [s.disposition_write a w hs, show s.cfg.classify .upstream a = _ from hc, State.decideWrite,
        State.decideWindowWrite, if_pos hb]
    exact answers_path (grant_dropped hg hd) rfl
  · rintro ⟨a, w, rfl⟩ hb hp
    have hd : s.disposition (.write a w) = .heldForPin := by
      rw [s.disposition_write a w hs, show s.cfg.classify .upstream a = _ from hc, State.decideWrite,
        State.decideWindowWrite, if_neg hb, if_pos hp]
    exact answers_path (grant_heldForPin hg hd) rfl

end Sys2Proof.Machine
end

section
/-! PROOFS. Scan bursts: O29 to O32. -/

namespace Sys2Proof.Machine

/-! ### The words of a record's window (R51, R54, R58) -/

/-- A window word is read from memory exactly where the statement says so, and then it is the word of the copy named as
front. -/
theorem windowWordIs_memory {s : State} {n k : Nat} {p : Snapshot} {a : Addr}
    (h : s.windowWord n k p.front p.status p.presented = .memory a) :
    WindowReads s n k p ∧ WindowWordIs s n k p (some a) (s.mem.read a) := by
  by_cases hr : WindowReads s n k p
  · obtain ⟨hv, hi, hk⟩ := id hr
    rw [hv, s.windowWord_memory n k _ _ hk hi] at h
    cases h
    exact ⟨hr, fun _ => ⟨rfl, rfl⟩, fun hn => absurd hr hn, fun hl => absurd hk (Nat.not_lt.2 hl),
      fun _ => ⟨fun _ hgt => absurd hi (Nat.not_le.2 hgt), fun hn => absurd hv hn⟩⟩
  · exfalso
    simp only [State.windowWord] at h
    split at h
    · cases h
    · split at h
      · split at h
        · exact hr ⟨by assumption, by assumption, by omega⟩
        · cases h
      · cases h

theorem windowWordIs_supplied {s : State} {n k : Nat} {p : Snapshot} {w : Word}
    (h : s.windowWord n k p.front p.status p.presented = .supplied w) :
    ¬WindowReads s n k p ∧ WindowWordIs s n k p none w := by
  have hr : ¬WindowReads s n k p := by
    rintro ⟨hv, hi, hk⟩
    rw [hv, s.windowWord_memory n k _ _ hk hi] at h
    cases h
  refine ⟨hr, fun h => absurd h hr, fun _ => rfl, fun hl => ?_, fun hk => ⟨fun hv hgt => ?_, fun hv => ?_⟩⟩
  · simp only [State.windowWord, hl, if_true] at h
    cases h
    rfl
  · simp only [State.windowWord, Nat.not_le.2 hk, hv, Nat.not_le.2 hgt, if_true, if_false] at h
    cases h
    exact ⟨fun ws hws => by rw [hws]; rfl, fun hws => by rw [hws]; rfl⟩
  · rw [s.windowWord_substitute n k _ _ _ hk hv] at h
    cases h
    rfl

/-- The snapshot by which a burst with pins `ps` decides a word of record `n`'s window (R53, R54). -/
def State.snapshotFor (s : State) (ps : List Snapshot) (n : Nat) : Snapshot := (findPin n ps).getD (s.snapshot n)

theorem snapshotFor_iff (s : State) (b : Burst) (n : Nat) (p : Snapshot) :
    SnapshotFor s b n p ↔ p = s.snapshotFor b.pins n := by
  unfold SnapshotFor State.snapshotFor
  rw [show (b.pins.find? fun x => x.index == n) = findPin n b.pins from rfl]
  cases findPin n b.pins with
  | none => simp [State.snapshot]
  | some q => simp [eq_comm]

theorem State.scanWindow_eq (s : State) (ps : List Snapshot) (n k : Nat) :
    s.scanWindow ps n k = s.windowWord n k (s.snapshotFor ps n).front (s.snapshotFor ps n).status
      (s.snapshotFor ps n).presented := by
  unfold State.scanWindow State.snapshotFor
  cases h : findPin n ps with
  | none => rfl
  | some p =>
    have hn : p.index = n := by simpa using List.find?_some h
    simp only [State.windowPinned, hn, Option.getD_some]

/-- The first word of a window pins the record, and a record pinned stays so (R53). -/
theorem State.pinsAfter_record (s : State) (b : Burst) (n k : Nat) :
    s.pinsAfter b.pins (.record n k) =
      if b.pins.any (fun x => x.index == n) then b.pins else b.pins ++ [s.snapshotFor b.pins n] := by
  simp only [State.pinsAfter, State.snapshotFor, findPin, List.isSome_find?]
  split
  · rfl
  · rename_i h
    rw [List.find?_eq_none.2 (by simpa using h)]
    rfl

/-! ### The words of the message windows (R30, R31, R141, R143) -/

theorem word_toNat (n : Nat) : (word n).toNat = n % 65536 := BitVec.toNat_ofNat n 16

theorem secondsSince_word (since now : Time) :
    (word (secondsSince since now)).toNat = min 65535 ((now - since).toNat / 1000) := by
  rw [word_toNat, secondsSince, elapsed]
  omega

theorem Entry.slotWord_is (e : Entry) (now : Time) (j : Nat) (h : j < 4) : SlotWordIs e now j (e.slotWord now j) := by
  have hflag : flagBit e.needsAck 15 = if e.needsAck then 32768 else 0 := rfl
  have hmarker := e.marker.isLt
  refine ⟨?_, ?_, ?_, ?_⟩ <;> rintro rfl
  · rw [Entry.slotWord, word_toNat, hflag, Nat.mul_comm]
  · rw [Entry.slotWord, word_toNat, Nat.mul_comm e.source.code]
    cases e.state <;> cases e.source <;> rfl
  · rw [Entry.slotWord, word_toNat]
    omega
  · exact secondsSince_word _ _

theorem RecallEntry.word_is (e : RecallEntry) (now : Time) (j : Nat) (h : j < 4) :
    RecallWordIs e now j (e.word now j) := by
  have hmarker := e.marker.isLt
  refine ⟨?_, ?_, ?_, ?_⟩ <;> rintro rfl
  · rw [RecallEntry.word, word_toNat, Nat.mul_comm]
  · rw [RecallEntry.word, word_toNat]
    omega
  · exact secondsSince_word _ _
  · exact secondsSince_word _ _

/-- A SLOT word within the configured lines (R141). -/
theorem State.slotWord_is (s : State) (k : Nat) (h : k / 4 < (at0 s.cfg.part 4).toNat) :
    ∃ w, s.slotWord k = some w ∧ SlotOffsetIs s k w := by
  have hl : ¬s.cfg.slotLines ≤ k / 4 := Nat.not_le.2 h
  simp only [State.slotWord, hl, if_false, SlotOffsetIs]
  cases s.msg.entries[k / 4]? with
  | none => exact ⟨_, rfl, nofun, fun _ => rfl⟩
  | some e =>
    refine ⟨_, rfl, ?_, nofun⟩
    rintro _ ⟨⟩
    exact e.slotWord_is _ _ (Nat.mod_lt _ (by decide))

/-- A RECALL word of the ten lines (R143). -/
theorem State.recallWord_is (s : State) (k : Nat) (h : k < 40) :
    ∃ w, s.recallWord k = some w ∧ RecallOffsetIs s k w := by
  simp only [State.recallWord, Nat.not_le.2 h, if_false, RecallOffsetIs]
  cases s.msg.recalls[k / 4]? with
  | none => exact ⟨_, rfl, nofun, fun _ => rfl⟩
  | some e =>
    refine ⟨_, rfl, ?_, nofun⟩
    rintro _ ⟨⟩
    exact e.word_is _ _ (Nat.mod_lt _ (by decide))

/-! ### Where a scan word comes from (R7, R33) -/

/-- The classes whose scan words are read at their own address. -/
def AddrClass.readsItself : AddrClass → Prop
  | .copy => True
  | .pass => True
  | .protect => True
  | .post _ => True
  | .unmatched => True
  | .record _ _ => False
  | .slot _ => False
  | .recalled _ => False
  | .status _ => False

theorem scanByClass_itself {s : State} {ps : List Snapshot} {a : Addr} {c : AddrClass} (h : c.readsItself) :
    s.scanByClass ps a c = .memory a := by
  cases c with
  | record | slot | recalled | status => exact h.elim
  | _ => rfl

theorem scanByClass_record (s : State) (ps : List Snapshot) (a : Addr) (n k : Nat) :
    s.scanByClass ps a (.record n k) = (s.windowWord n k (s.snapshotFor ps n).front (s.snapshotFor ps n).status
      (s.snapshotFor ps n).presented).scanSource := by
  rw [State.scanByClass, s.scanWindow_eq]

/-- A source gives the word `w`, read at `src` or supplied; of a free word it says nothing (log 19). -/
def ScanSource.Gives (s : State) (src : Option Addr) (w : Word) : ScanSource → Prop
  | .memory a => src = some a ∧ w = s.mem.read a
  | .supplied x => src = none ∧ w = x
  | .free => src = none

/-- What the decision on the next word gives is that word by its class (R7, R30 to R32, R54). -/
theorem scanWordIs_of_gives {s : State} {b : Burst} {src : Option Addr} {w : Word}
    (h : (s.scanSource b.pins b.next).Gives s src w) : ScanWordIs s b src w := by
  unfold State.scanSource at h
  unfold ScanWordIs
  split <;> rename_i hc <;> rw [hc] at h
  · exact h
  · exact h
  · exact h
  · exact h
  · exact h
  · rw [scanByClass_record] at h
    refine ⟨_, (snapshotFor_iff s b _ _).2 rfl, ?_⟩
    cases hw : s.windowWord _ _ _ _ (s.snapshotFor b.pins _).presented <;> rw [hw] at h <;>
      obtain ⟨rfl, rfl⟩ := h
    · exact (windowWordIs_memory hw).2
    · exact (windowWordIs_supplied hw).2
  · rename_i k
    simp only [State.scanByClass] at h
    have hsrc : src = none := by
      cases hw : s.slotWord k <;> rw [hw] at h
      · exact h
      · exact h.1
    refine ⟨hsrc, fun hk => ?_⟩
    obtain ⟨x, hx, hi⟩ := s.slotWord_is k hk
    rw [hx] at h
    obtain ⟨-, rfl⟩ := h
    exact hi
  · rename_i k
    simp only [State.scanByClass] at h
    have hsrc : src = none := by
      cases hw : s.recallWord k <;> rw [hw] at h
      · exact h
      · exact h.1
    refine ⟨hsrc, fun hk => ?_⟩
    obtain ⟨x, hx, hi⟩ := s.recallWord_is k hk
    rw [hx] at h
    obtain ⟨-, rfl⟩ := h
    exact hi
  · exact h

/-! ### A burst taken for service (R6, R8) -/

theorem scanNeedsMemory_iff (s : State) (a : Addr) : s.scanNeedsMemory a = true ↔ ScanNeedsMemory s a := by
  unfold State.scanNeedsMemory State.scanSource ScanNeedsMemory
  cases hc : s.cfg.classify .scan a with
  | record n k =>
    rw [scanByClass_record]
    cases hw : s.windowWord n k (s.snapshotFor [] n).front (s.snapshotFor [] n).status (s.snapshotFor [] n).presented with
    | memory x => exact ⟨fun _ => (windowWordIs_memory hw).1, fun _ => rfl⟩
    | supplied x => exact ⟨nofun, fun h => absurd h (windowWordIs_supplied hw).1⟩
  | slot k => cases hw : s.slotWord k <;> simp [State.scanByClass, hw, scanAnswer]
  | recalled k => cases hw : s.recallWord k <;> simp [State.scanByClass, hw, scanAnswer]
  | _ => simp [State.scanByClass]

theorem burstNeedsMemory_iff (s : State) (start : Addr) (count : Nat) :
    s.burstNeedsMemory start count = true ↔ ∃ i, i < count ∧ ScanNeedsMemory s (start + BitVec.ofNat 17 i) := by
  simp only [State.burstNeedsMemory, List.any_eq_true, List.mem_range, scanNeedsMemory_iff]
  rfl

theorem exec_scanBurstArrival (s : State) (start : Addr) (count : BitVec 8) (h : s.path.scan = .idle) :
    exec (.scanBurstArrival start count) s = complete (s.disposeBurst start count) := by
  simp only [exec, execScanBurstArrival, State.arriveBurst, h]

theorem disposeBurst_held (s : State) (start : Addr) (count : BitVec 8)
    (h : s.ctl.part = .powerUp ∨ s.ctl.part = .memoryInit ∨ s.ctl.part = .load) :
    s.disposeBurst start count = s.withScan (.heldAtStart start count) := by
  rcases h with h | h | h <;> simp [State.disposeBurst, State.part, h]

theorem disposeBurst_zeros (s : State) (start : Addr) (count : BitVec 8)
    (h : s.ctl.part = .retain ∨ s.ctl.part = .config ∨ s.ctl.part = .safe) :
    s.disposeBurst start count = s.answerZeros start count := by
  rcases h with h | h | h <;> simp [State.disposeBurst, State.part, h]

theorem disposeBurst_run (s : State) (start : Addr) (count : BitVec 8) (h : s.ctl.part = .run) :
    s.disposeBurst start count = s.takeBurst start count := by
  simp [State.disposeBurst, State.part, h]

/-- Settles O29. -/
theorem scanBurstIsTakenByPartState : Obligations.ScanBurstIsTakenByPartState := by
  intro s start count
  refine ⟨fun hidle hpart => ?_, fun hidle hpart => ?_, fun hidle hpart => ?_, fun hbusy => ?_⟩
  · refine answers_path (exec_scanBurstArrival s start count hidle) ?_
    rw [disposeBurst_held s start count hpart]
    rfl
  · refine answers_path (exec_scanBurstArrival s start count hidle) ?_
    rw [disposeBurst_zeros s start count hpart, State.answerZeros, ← hidle]
    rfl
  · have hneeds := burstNeedsMemory_iff s start (countServed start count)
    refine ⟨_, _, (exec_scanBurstArrival s start count hidle).trans
      (by rw [disposeBurst_run s start count hpart]; rfl), rfl, rfl, rfl, ?_, ?_, rfl, rfl⟩
    · show (if s.burstNeedsMemory start (countServed start count) then _ else _) = _ ↔ _
      refine Iff.trans ?_ hneeds
      split <;> simp_all
    · show (if s.burstNeedsMemory start (countServed start count) then _ else _) = _ ∨ _
      split
      · exact Or.inl rfl
      · exact Or.inr rfl
  · refine answers_same ?_
    show complete (s.arriveBurst start count) = complete s
    unfold State.arriveBurst
    split
    · contradiction
    all_goals rfl

/-! ### The service of a word (R7, R8) -/

theorem exec_scanWord {s : State} {b : Burst} (hs : s.path.scan = .active b) (hp : b.phase ≠ .claiming) :
    exec .scanWord s = complete (s.serveScanWord b) := by
  simp only [exec, execScanWord, hs, hp, if_false]

/-- The burst that holds the port reads its word (R1). -/
theorem serveScanWord_reads {s : State} {b : Burst} {a : Addr} (h : s.scanSource b.pins b.next = .memory a)
    (hp : b.phase = .holdingPort) :
    s.serveScanWord b = (s.withPort (portAfterRead s.path.port (some a))).deliver b (s.mem.read a) := by
  simp only [State.serveScanWord, h, hp, if_true]
  rfl

/-- A burst without the port stops at a word that needs memory and claims the port (R8). -/
theorem serveScanWord_stops {s : State} {b : Burst} {a : Addr} (h : s.scanSource b.pins b.next = .memory a)
    (hp : b.phase = .runningFree) :
    s.serveScanWord b = s.withPath { s.path with scan := .active { b with phase := .claiming } } := by
  simp only [State.serveScanWord, h, hp]
  rfl

theorem serveScanWord_supplies {s : State} {b : Burst} {w : Word} (h : s.scanSource b.pins b.next = .supplied w) :
    s.serveScanWord b = s.deliver b w := by
  simp only [State.serveScanWord, h]

/-- A burst that stops at a word that needs memory, as the statements have it. -/
theorem scanWord_stops {s : State} {b : Burst} {a : Addr} (hs : s.path.scan = .active b)
    (h : s.scanSource b.pins b.next = .memory a) (hp : b.phase = .runningFree) :
    ∃ t, exec .scanWord s = .next t ∧ t.path = { s.path with scan := .active { b with phase := .claiming } } ∧
      t = { s with path := t.path, lines := t.lines } :=
  answers_path (exec_scanWord hs (by rw [hp]; nofun)) (serveScanWord_stops h hp)

/-- The path of a burst that has served a word before its last. -/
def State.pathAfterWord (s : State) (b : Burst) (src : Option Addr) (w : Word) : Path :=
  { s.path with
    port := portAfterRead s.path.port src
    scanOut := s.path.scanOut ++ [w]
    scan := .active { b with next := b.next + 1#17, left := b.left - 1,
                             pins := s.pinsAfter b.pins (s.cfg.classify .scan b.next) } }

/-- A word read before the last (R7, R8). -/
theorem scanWord_reads {s : State} {b : Burst} {a : Addr} (hs : s.path.scan = .active b)
    (h : s.scanSource b.pins b.next = .memory a) (hp : b.phase = .holdingPort) (hl : 1 < b.left) :
    ∃ t, exec .scanWord s = .next t ∧ t.path = s.pathAfterWord b (some a) (s.mem.read a) ∧
      t = { s with path := t.path, lines := t.lines } := by
  refine answers_path (exec_scanWord hs (by rw [hp]; nofun)) ?_
  rw [serveScanWord_reads h hp, State.deliver_more _ b _ hl]
  rfl

/-- A word supplied before the last (R7). -/
theorem scanWord_supplies {s : State} {b : Burst} {w : Word} (hs : s.path.scan = .active b)
    (h : s.scanSource b.pins b.next = .supplied w) (hp : b.phase ≠ .claiming) (hl : 1 < b.left) :
    ∃ t, exec .scanWord s = .next t ∧ t.path = s.pathAfterWord b none w ∧
      t = { s with path := t.path, lines := t.lines } := by
  refine answers_path (exec_scanWord hs hp) ?_
  rw [serveScanWord_supplies h, State.deliver_more _ b _ hl]
  rfl

/-- A word of no record's window pins nothing (R53). -/
theorem pathAfterWord_unpinned {s : State} {b : Burst} {src : Option Addr} {w : Word}
    (h : ∀ n k, s.cfg.classify .scan b.next ≠ .record n k) :
    s.pathAfterWord b src w =
      { s.path with port := portAfterRead s.path.port src, scanOut := s.path.scanOut ++ [w],
                    scan := .active { b with next := b.next + 1#17, left := b.left - 1 } } := by
  have hpins : s.pinsAfter b.pins (s.cfg.classify .scan b.next) = b.pins := by
    cases hc : s.cfg.classify .scan b.next with
    | record n k => exact absurd hc (h n k)
    | _ => rfl
  rw [State.pathAfterWord, hpins]

/-- Settles O30. -/
theorem scanWordIsServedInColumnOrder : Obligations.ScanWordIsServedInColumnOrder := by
  intro s b hs
  have supplied : ∀ w, s.scanSource b.pins b.next = .supplied w → (∀ n k, s.cfg.classify .scan b.next ≠ .record n k) →
      1 < b.left → b.phase ≠ .claiming →
      ∃ t, exec .scanWord s = .next t ∧
        t.path = { s.path with scanOut := s.path.scanOut ++ [w],
                               scan := .active { b with next := b.next + 1#17, left := b.left - 1 } } ∧
        t = { s with path := t.path, lines := t.lines } := by
    intro w h hc hl hp
    obtain ⟨t, he, ht, hrest⟩ := scanWord_supplies hs h hp hl
    exact ⟨t, he, ht.trans (pathAfterWord_unpinned hc), hrest⟩
  refine ⟨fun hc => ?_, fun k hc hl hp => ?_, fun k hc hk hl hp => ?_, fun k hc hk hl hp => ?_, fun hp => ?_⟩
  · have hitself : (s.cfg.classify .scan b.next).readsItself := by
      rcases hc with hc | hc | hc | hc | ⟨k, hc⟩ <;> rw [hc] <;> trivial
    have hsrc : s.scanSource b.pins b.next = .memory b.next := scanByClass_itself hitself
    refine ⟨fun hp hl => ?_, fun hp => scanWord_stops hs hsrc hp⟩
    obtain ⟨t, he, ht, hrest⟩ := scanWord_reads hs hsrc hp hl
    exact ⟨t, he, ht.trans (pathAfterWord_unpinned fun n k h => by rw [h] at hitself; exact hitself), hrest⟩
  · exact supplied _ (by rw [State.scanSource, hc]; rfl) (by rw [hc]; nofun) hl hp
  · obtain ⟨w, hw, hi⟩ := s.slotWord_is k hk
    exact ⟨w, supplied w (by rw [State.scanSource, hc, State.scanByClass, hw]; rfl) (by rw [hc]; nofun) hl hp, hi⟩
  · obtain ⟨w, hw, hi⟩ := s.recallWord_is k hk
    exact ⟨w, supplied w (by rw [State.scanSource, hc, State.scanByClass, hw]; rfl) (by rw [hc]; nofun) hl hp, hi⟩
  · exact answers_same (by simp only [exec, execScanWord, hs, hp, if_true])

/-- Settles O31. -/
theorem windowWordsFollowTheSnapshot : Obligations.WindowWordsFollowTheSnapshot := by
  intro s b n k p hs hp hc hsnap
  have hpins := s.pinsAfter_record b n k
  have hsrc := scanByClass_record s b.pins b.next n k
  rw [← (snapshotFor_iff s b n p).1 hsnap] at hpins hsrc
  rw [← hc] at hsrc
  cases hw : s.windowWord n k p.front p.status p.presented with
  | memory a =>
    rw [hw] at hsrc
    obtain ⟨hr, hword⟩ := windowWordIs_memory hw
    refine ⟨fun _ hrun => scanWord_stops hs hsrc hrun, fun h hl => ?_⟩
    obtain ⟨t, he, ht, hrest⟩ := scanWord_reads hs hsrc (h.resolve_left (not_not.2 hr)) hl
    rw [State.pathAfterWord, hc, hpins] at ht
    exact ⟨t, _, _, he, hword, ht, hrest⟩
  | supplied w =>
    rw [hw] at hsrc
    obtain ⟨hr, hword⟩ := windowWordIs_supplied hw
    refine ⟨fun h => absurd h hr, fun _ hl => ?_⟩
    obtain ⟨t, he, ht, hrest⟩ := scanWord_supplies hs hsrc hp hl
    rw [State.pathAfterWord, hc, hpins] at ht
    exact ⟨t, _, _, he, hword, ht, hrest⟩

/-! ### The last word (R7, R8, R56) -/

/-- The state once the last word of burst `b` is out: the burst is over and the port it holds is free. A write held for
a pin is not yet decided. -/
def State.burstOver (s : State) (b : Burst) (src : Option Addr) (w : Word) : State :=
  s.withPath { s.path with
    scanOut := s.path.scanOut ++ [w]
    scan := .idle
    port := if b.phase = .holdingPort then (portAfterRead s.path.port src).release else s.path.port }

/-- The same, by where the word comes from. -/
def State.afterLastWord (s : State) (b : Burst) : State :=
  match s.scanSource b.pins b.next with
  | .memory a => s.burstOver b (some a) (s.mem.read a)
  | .supplied w => s.burstOver b none w
  | .free => (s.withFreeCount (s.freeCount + 1)).burstOver b none (Config.freeWord s.freeCount)

theorem deliver_last_over (s : State) (b : Burst) (src : Option Addr) (w : Word) (hl : b.left ≤ 1)
    (hp : b.phase = .holdingPort ∨ src = none) :
    (s.withPort (portAfterRead s.path.port src)).deliver b w = (s.burstOver b src w).releasePinHeld := by
  rw [State.deliver_last _ b w hl, State.endBurst, State.burstOver]
  by_cases h : b.phase = .holdingPort
  · rw [if_pos h, if_pos h]
    rfl
  · rw [if_neg h, if_neg h, hp.resolve_left h]
    rfl

theorem serveScanWord_last {s : State} {b : Burst} (hl : b.left ≤ 1)
    (hp : ∀ a, s.scanSource b.pins b.next = .memory a → b.phase = .holdingPort) :
    s.serveScanWord b = (s.afterLastWord b).releasePinHeld := by
  unfold State.afterLastWord
  cases h : s.scanSource b.pins b.next with
  | memory a => rw [serveScanWord_reads h (hp a h), deliver_last_over s b (some a) _ hl (Or.inl (hp a h))]
  | supplied w =>
    rw [serveScanWord_supplies h]
    exact deliver_last_over s b none w hl (Or.inr rfl)
  | free =>
    simp only [State.serveScanWord, h]
    exact deliver_last_over (s.withFreeCount (s.freeCount + 1)) b none (Config.freeWord s.freeCount) hl (Or.inr rfl)

/-- What the last word leaves, before a held write is decided. -/
theorem afterLastWord_word (s : State) (b : Burst) :
    ∃ src w c, ScanWordIs s b src w ∧ s.afterLastWord b = (s.withFreeCount c).burstOver b src w := by
  unfold State.afterLastWord
  cases h : s.scanSource b.pins b.next with
  | memory a => exact ⟨_, _, s.freeCount, scanWordIs_of_gives (by rw [h]; exact ⟨rfl, rfl⟩), rfl⟩
  | supplied w => exact ⟨_, w, s.freeCount, scanWordIs_of_gives (by rw [h]; exact ⟨rfl, rfl⟩), rfl⟩
  | free => exact ⟨none, Config.freeWord s.freeCount, s.freeCount + 1, scanWordIs_of_gives (by rw [h]; exact rfl), rfl⟩

/-- The upstream port has no part in the last word. -/
theorem afterLastWord_withUp (s : State) (b : Burst) (u : Upstream) :
    (s.withUp u).afterLastWord b = (s.afterLastWord b).withUp u := by
  have hsrc : (s.withUp u).scanSource b.pins b.next = s.scanSource b.pins b.next := rfl
  unfold State.afterLastWord
  rw [hsrc]
  cases s.scanSource b.pins b.next <;> rfl

/-- A held write, decided afresh, changes what a disposition changes; with none held nothing changes. -/
theorem releasePinHeld_path (s : State) :
    s.releasePinHeld.path = { s.path with up := s.releasePinHeld.path.up, upData := s.releasePinHeld.path.upData } ∧
      ((∀ r, s.path.up ≠ .heldForPin r) → s.releasePinHeld = s) := by
  unfold State.releasePinHeld
  split
  · rename_i r h
    refine ⟨?_, fun hn => absurd h (hn r)⟩
    rw [(State.dispose_only (s.withUp .idle) r).rest]
    rfl
  all_goals exact ⟨rfl, fun _ => rfl⟩

/-! ### The lines and a disposition -/

/-- A disposition neither reads nor moves the output lines. -/
theorem dispose_withLines (s : State) (x : Lines) (r : UpstreamRequest) :
    (s.withLines x).dispose r = (s.dispose r).withLines x := by
  have hd : (s.withLines x).disposition r = s.disposition r := rfl
  unfold State.dispose
  rw [hd]
  cases s.disposition r <;> rfl

/-- The lines are driven last, whatever they were. -/
theorem complete_withLines (s : State) (x : Lines) : complete (s.withLines x) = complete s := rfl

/-- An arrival at an idle upstream port, after a command. -/
theorem exec_upstreamArrival_driven (s : State) (r : UpstreamRequest) (h : s.path.up = .idle) :
    exec (.upstreamArrival r) s.driveLines = complete (s.dispose r) := by
  rw [exec_upstreamArrival, State.arrive_idle s.driveLines r h, State.driveLines, dispose_withLines, complete_withLines]

/-- Settles O32. -/
theorem lastScanWordEndsTheBurst : Obligations.LastScanWordEndsTheBurst := by
  intro s b hs hl hp hport
  have hmem : ∀ a, s.scanSource b.pins b.next = .memory a → b.phase = .holdingPort := fun a h =>
    hport a (s.mem.read a) (scanWordIs_of_gives (by rw [h]; exact ⟨rfl, rfl⟩))
  have hexec : exec .scanWord s = complete (s.afterLastWord b).releasePinHeld := by
    rw [exec_scanWord hs hp, serveScanWord_last (Nat.le_of_eq hl) hmem]
  refine ⟨?_, fun r t u hup ht hu => ?_⟩
  · obtain ⟨src, w, c, hword, hlast⟩ := afterLastWord_word s b
    rw [hlast] at hexec
    obtain ⟨hpath, hnone⟩ := releasePinHeld_path ((s.withFreeCount c).burstOver b src w)
    refine ⟨_, src, w, hexec, hword, ?_, ?_, ?_, ?_, ?_, ?_, fun hno => ?_⟩
    · rw [State.driveLines_path, hpath]; rfl
    · rw [State.driveLines_path, hpath]; rfl
    · rw [State.driveLines_path, hpath]; rfl
    · rw [State.driveLines_path, hpath]; rfl
    · rw [State.driveLines_path, hpath]; rfl
    · rw [State.driveLines_path, hpath]; rfl
    · rw [hnone hno]
      exact ⟨rfl, rfl⟩
  · have hidle : exec .scanWord (s.withUp .idle) = complete ((s.afterLastWord b).withUp .idle) := by
      rw [exec_scanWord (s := s.withUp .idle) hs hp, serveScanWord_last (s := s.withUp .idle) (Nat.le_of_eq hl) hmem,
        afterLastWord_withUp, (releasePinHeld_path ((s.afterLastWord b).withUp .idle)).2 nofun]
    obtain ⟨src, w, c, -, hlast⟩ := afterLastWord_word s b
    have hheld : (s.afterLastWord b).path.up = .heldForPin r := by rw [hlast]; exact hup
    have hrelease : (s.afterLastWord b).releasePinHeld = ((s.afterLastWord b).withUp .idle).dispose r := by
      simp only [State.releasePinHeld, hheld]
    have et : ((s.afterLastWord b).withUp .idle).driveLines = t := by
      injection hidle.symm.trans ht
    rw [← et, exec_upstreamArrival_driven _ _ rfl, ← hrelease, ← hexec] at hu
    exact hu

end Sys2Proof.Machine
end

section
/-! PROOFS. Held traffic on leaving LOAD: O17. -/

namespace Sys2Proof.Machine

/-! ### The traffic held at start-up, taken away (R16) -/

/-- The upstream port without a transaction held at start-up. -/
def Upstream.unheld : Upstream → Upstream
  | .heldAtStart _ => .idle
  | .idle => .idle
  | .claiming r => .claiming r
  | .heldForPin r => .heldForPin r
  | .serving r w => .serving r w

/-- The scan port without a burst held at start-up. -/
def Scan.unheld : Scan → Scan
  | .heldAtStart _ _ => .idle
  | .idle => .idle
  | .active b => .active b

/-- The state without the traffic held at start-up. -/
def State.unheld (s : State) : State :=
  s.withPath { s.path with up := s.path.up.unheld, scan := s.path.scan.unheld }

theorem unheld_eq (s : State) :
    { s with path := { s.path with
        up := if upstreamArrivals s = [] then s.path.up else .idle
        scan := if burstArrivals s = [] then s.path.scan else .idle } } = s.unheld := by
  have hup : (if upstreamArrivals s = [] then s.path.up else .idle) = s.path.up.unheld := by
    unfold upstreamArrivals
    cases s.path.up <;> rfl
  have hscan : (if burstArrivals s = [] then s.path.scan else .idle) = s.path.scan.unheld := by
    unfold burstArrivals
    cases s.path.scan <;> rfl
  rw [hup, hscan]
  rfl

theorem unheld_releaseUpstream (s : State) (h : s.path.up = s.path.up.unheld) : s.releaseUpstream = s := by
  unfold State.releaseUpstream
  split
  · rename_i r hr
    rw [hr] at h
    exact absurd h nofun
  all_goals rfl

theorem unheld_releaseBurst (s : State) (h : s.path.scan = s.path.scan.unheld) : s.releaseBurst = s := by
  unfold State.releaseBurst
  split
  · rename_i hr
    rw [hr] at h
    exact absurd h nofun
  all_goals rfl

theorem Upstream.unheld_unheld (u : Upstream) : u.unheld.unheld = u.unheld := by cases u <;> rfl
theorem Scan.unheld_unheld (x : Scan) : x.unheld.unheld = x.unheld := by cases x <;> rfl
theorem Scan.unheld_pins (x : Scan) : x.unheld.pins = x.pins := by cases x <;> rfl

theorem holdsTraffic_iff (s : State) : s.holdsTraffic = true ↔ upstreamArrivals s ++ burstArrivals s ≠ [] := by
  unfold State.holdsTraffic upstreamArrivals burstArrivals
  cases s.path.up <;> cases s.path.scan <;> simp

/-- Nothing is released where nothing is held. -/
theorem unheld_releaseHeld (s : State) : s.unheld.releaseHeld = s.unheld := by
  have hno : s.unheld.holdsTraffic = false := by
    unfold State.holdsTraffic State.unheld
    cases s.path.up <;> cases s.path.scan <;> rfl
  have hup := unheld_releaseUpstream s.unheld (Upstream.unheld_unheld _).symm
  have hscan := unheld_releaseBurst s.unheld (Scan.unheld_unheld _).symm
  unfold State.releaseHeld
  rw [if_neg (by rw [hno]; exact fun h => absurd h.2 nofun), hup, hscan]

/-! ### LOAD and the path (R165) -/

/-- An entry to RUN and the end of LOAD neither read nor move the path. -/
theorem enterRun_withPath (s : State) (p : Path) : (s.withPath p).enterRun = s.enterRun.withPath p := by
  have hd : (s.withPath p).ctl.deskLevel = s.ctl.deskLevel := rfl
  unfold State.enterRun
  rw [hd]
  split <;> rfl

theorem startupLoad_withPath (s : State) (p : Path) : (s.withPath p).startupLoad = s.startupLoad.withPath p := by
  have hi : (s.withPath p).image = s.image := rfl
  unfold State.startupLoad
  rw [hi]
  split
  · have hc : (s.withPath p).withCfg (imageSections s.image) = (s.withCfg (imageSections s.image)).withPath p := rfl
    simp only [hc, State.withPath_cfg]
    split
    · exact enterRun_withPath _ p
    · rfl
  · rfl

theorem startupLoad_path (s : State) : s.startupLoad.path = s.path := by
  have h := congrArg State.path (startupLoad_withPath s s.path)
  exact h

theorem exec_startupLoadDone (s : State) (h : s.ctl.part = .load) :
    exec .startupLoadDone s = complete s.startupLoad.releaseHeld := if_pos h

/-- Without the held traffic LOAD ends as it does with it, the traffic away. -/
theorem exec_startupLoadDone_unheld (s : State) (h : s.ctl.part = .load) :
    exec .startupLoadDone s.unheld = complete s.startupLoad.unheld := by
  have e : s.unheld.startupLoad = s.startupLoad.unheld := by
    rw [State.unheld, startupLoad_withPath, State.unheld, startupLoad_path]
  rw [exec_startupLoadDone s.unheld h, e, unheld_releaseHeld]

/-! ### The held traffic as arrivals -/

/-- A disposition looks at the scan port for its pins alone. -/
theorem dispose_withScan (s : State) (x : Scan) (r : UpstreamRequest) (h : x.pins = s.path.scan.pins) :
    (s.withScan x).dispose r = (s.dispose r).withScan x := by
  have hp : ∀ n, (s.withScan x).pinned n = s.pinned n := by
    intro n
    simp only [State.pinned, State.withScan_path, h]
  have hw : ∀ a c, (s.withScan x).decideWrite a c = s.decideWrite a c := by
    intro a c
    cases c with
    | record n k =>
      simp only [State.decideWrite, State.decideWindowWrite, hp]
      rfl
    | _ => rfl
  have hd : (s.withScan x).disposition r = s.disposition r := by
    simp only [State.disposition, hw]
    rfl
  unfold State.dispose
  rw [hd]
  cases s.disposition r <;> rfl

theorem disposeBurst_withLines (s : State) (x : Lines) (start : Addr) (count : BitVec 8) :
    (s.withLines x).disposeBurst start count = (s.disposeBurst start count).withLines x := by
  have hp : (s.withLines x).part = s.part := rfl
  unfold State.disposeBurst
  rw [hp]
  cases s.part <;> rfl

/-- `t` follows `s` with the lines driven where they were driven in `s`. -/
def LinesFollow (s t : State) (x y : Lines) : Prop := x = s.linesFor → y = t.linesFor

/-- The held transaction taken up, the burst being away, is an arrival (R16). -/
theorem execAll_upstreamArrivals (s : State) (x : Lines) :
    ∃ y, execAll (upstreamArrivals s) (s.unheld.withLines x) =
        some ((s.releaseUpstream.withScan s.path.scan.unheld).withLines y) ∧
      LinesFollow s.unheld (s.releaseUpstream.withScan s.path.scan.unheld) x y := by
  cases hup : s.path.up with
  | heldAtStart r =>
    have hrel : s.releaseUpstream.withScan s.path.scan.unheld = s.unheld.dispose r := by
      have hr : s.releaseUpstream = (s.withUp .idle).dispose r := by simp only [State.releaseUpstream, hup]
      have hu : s.unheld = (s.withUp .idle).withScan s.path.scan.unheld := by
        simp only [State.unheld, hup]
        rfl
      rw [hr, hu, dispose_withScan (s.withUp .idle) _ _ s.path.scan.unheld_pins]
    have hidle : (s.unheld.withLines x).path.up = .idle := by
      show s.path.up.unheld = .idle
      rw [hup]
      rfl
    have hexec : exec (.upstreamArrival r) (s.unheld.withLines x) = complete (s.unheld.dispose r) := by
      rw [exec_upstreamArrival, State.arrive_idle _ r hidle, dispose_withLines, complete_withLines]
    refine ⟨_, ?_, fun _ => rfl⟩
    rw [hrel]
    simp only [upstreamArrivals, hup, execAll, hexec, complete]
    rfl
  | _ =>
    have hrel : s.releaseUpstream.withScan s.path.scan.unheld = s.unheld := by
      rw [unheld_releaseUpstream s (by rw [hup]; rfl)]
      simp only [State.unheld, hup]
      rw [State.withScan, Upstream.unheld, ← hup]
    rw [hrel]
    refine ⟨x, ?_, id⟩
    simp only [upstreamArrivals, hup, execAll]

/-- The held burst taken up is an arrival (R16). -/
theorem execAll_burstArrivals (s : State) (x : Lines) :
    ∃ y, execAll (burstArrivals s) ((s.withScan s.path.scan.unheld).withLines x) = some (s.releaseBurst.withLines y) ∧
      LinesFollow (s.withScan s.path.scan.unheld) s.releaseBurst x y := by
  cases hscan : s.path.scan with
  | heldAtStart start count =>
    have hrel : s.releaseBurst = (s.withScan .idle).disposeBurst start count := by
      simp only [State.releaseBurst, hscan]
    have hexec : exec (.scanBurstArrival start count) ((s.withScan .idle).withLines x) = complete s.releaseBurst := by
      rw [exec_scanBurstArrival _ start count rfl, disposeBurst_withLines, complete_withLines, hrel]
    refine ⟨_, ?_, fun _ => rfl⟩
    simp only [burstArrivals, hscan, execAll, Scan.unheld, hexec, complete]
    rfl
  | _ =>
    have hrel : s.releaseBurst = s.withScan s.path.scan.unheld := by
      rw [unheld_releaseBurst s (by rw [hscan]; rfl), hscan, Scan.unheld, ← hscan]
      rfl
    rw [← hscan, ← hrel]
    refine ⟨x, ?_, id⟩
    simp only [burstArrivals, hscan, execAll]

theorem execAll_append (cs ds : List Instr) : ∀ {s t : State}, execAll cs s = some t →
    execAll (cs ++ ds) s = execAll ds t := by
  induction cs with
  | nil =>
    rintro s t ⟨⟩
    rfl
  | cons c cs ih =>
    intro s t h
    simp only [execAll, List.cons_append] at h ⊢
    split at h
    · exact ih h
    · cases h
    · cases h

theorem State.releaseUpstream_scan (s : State) : s.releaseUpstream.path.scan = s.path.scan := by
  unfold State.releaseUpstream
  split
  · rename_i r h
    rw [(State.dispose_only (s.withUp .idle) r).rest]
    rfl
  all_goals rfl

theorem burstArrivals_congr {s t : State} (h : t.path.scan = s.path.scan) : burstArrivals t = burstArrivals s := by
  simp only [burstArrivals, h]

theorem upstreamArrivals_congr {s t : State} (h : t.path.up = s.path.up) : upstreamArrivals t = upstreamArrivals s := by
  simp only [upstreamArrivals, h]

/-- Where LOAD does not end in RETAIN the held traffic is taken up as arrivals (R16). -/
theorem heldTraffic_arrives (s : State) :
    execAll (upstreamArrivals s ++ burstArrivals s) s.unheld.driveLines =
      some s.releaseUpstream.releaseBurst.driveLines := by
  obtain ⟨y, hup, hy⟩ := execAll_upstreamArrivals s s.unheld.linesFor
  have hscan := s.releaseUpstream_scan
  obtain ⟨z, hburst, hz⟩ := execAll_burstArrivals s.releaseUpstream y
  rw [hscan, burstArrivals_congr hscan] at hburst
  rw [hscan] at hz
  rw [State.driveLines, execAll_append _ _ hup, hburst, hz (hy rfl)]
  rfl

/-- A piece of traffic taken up in RUN or in RETAIN, in the words of the statement (R16, log 9). -/
def takenIn (inRun : Bool) : PartState := if inRun then .run else .retain

theorem takenIn_cases (b : Bool) : takenIn b = .run ∨ takenIn b = .retain := by cases b <;> simp [takenIn]

theorem takeUp_eq (s : State) (inRun : Bool) (f : State → State) (hpart : s.ctl.part = .retain)
    (hctl : ∀ u, (f u).ctl = u.ctl) : s.takeUp inRun f = (f (s.setPart (takenIn inRun))).setPart .retain := by
  cases inRun with
  | true => rfl
  | false =>
    have hs : s.setPart .retain = s := by
      rw [State.setPart, ← hpart]
      rfl
    have hf : (f s).setPart .retain = f s := by
      rw [State.setPart, hctl, ← hpart, ← hctl s]
      rfl
    show f s = (f (s.setPart .retain)).setPart .retain
    rw [hs, hf]

theorem releaseHeld_unparted (s : State) (h : s.ctl.part ≠ .retain) :
    s.releaseHeld = s.releaseUpstream.releaseBurst := if_neg fun hr => h hr.1

/-- Where LOAD ends in RETAIN, each piece is taken up in the state a free choice names (log 9). -/
theorem releaseHeld_retain (s : State) (h : s.ctl.part = .retain) (ht : s.holdsTraffic = true) :
    ∃ i j, s.releaseHeld =
      (((((s.withFreeCount (s.freeCount + 2)).setPart (takenIn i)).releaseUpstream).withCtl
        { s.ctl with part := takenIn j }).releaseBurst).withCtl s.ctl := by
  have h2 : (s.withFreeCount (s.freeCount + 2)).ctl.part = .retain := h
  let i := (s.choose 2).1 == 1
  let j := ((s.choose 2).2.choose 2).1 == 1
  refine ⟨i, j, ?_⟩
  have hrel : s.releaseHeld = ((s.withFreeCount (s.freeCount + 2)).takeUp i State.releaseUpstream).takeUp j
      State.releaseBurst := if_pos ⟨h, ht⟩
  have hctl := State.takeUp_ctl _ i _ h2 State.releaseUpstream_ctl
  have hback : ({ s.ctl with part := .retain } : Control) = s.ctl := by rw [← h]
  rw [hrel, takeUp_eq _ j _ (by rw [hctl]; exact h) State.releaseBurst_ctl,
    takeUp_eq _ i _ h2 State.releaseUpstream_ctl]
  simp only [State.setPart, State.releaseBurst_ctl, State.releaseUpstream_ctl, State.withCtl_ctl,
    State.withFreeCount_ctl, hback]
  rfl

theorem heldTrafficInRetain (s : State) (x : Lines) (h : s.ctl.part = .retain) (ht : s.holdsTraffic = true) :
    ∃ p q b d, (p = .run ∨ p = .retain) ∧ (q = .run ∨ q = .retain) ∧
      execAll (upstreamArrivals s) ({ s.unheld.withLines x with
        ctl := { s.ctl with part := p }, freeCount := s.freeCount + 2 }) = some b ∧
      execAll (burstArrivals s) { b with ctl := { s.ctl with part := q } } = some d ∧
      s.releaseHeld = { d with ctl := s.ctl, lines := s.releaseHeld.lines } := by
  obtain ⟨i, j, hrel⟩ := releaseHeld_retain s h ht
  let u := (s.withFreeCount (s.freeCount + 2)).setPart (takenIn i)
  let v := u.releaseUpstream.withCtl { s.ctl with part := takenIn j }
  have hscan : v.path.scan = s.path.scan := u.releaseUpstream_scan
  obtain ⟨y, hup, -⟩ := execAll_upstreamArrivals u x
  obtain ⟨z, hburst, -⟩ := execAll_burstArrivals v y
  rw [hscan, burstArrivals_congr hscan] at hburst
  refine ⟨takenIn i, takenIn j, _, _, takenIn_cases i, takenIn_cases j, hup, hburst, ?_⟩
  rw [hrel]
  rfl

/-- Settles O17: the held traffic, taken up, is what its arrivals would do in the state LOAD leaves. -/
theorem heldTrafficIsTakenUpOnLeavingLoad : Obligations.HeldTrafficIsTakenUpOnLeavingLoad := by
  intro s a hload ha
  rw [unheld_eq, exec_startupLoadDone_unheld s hload] at ha
  cases ha
  have hpath := startupLoad_path s
  have hu := upstreamArrivals_congr (congrArg Path.up hpath)
  have hb := burstArrivals_congr (congrArg Path.scan hpath)
  have hexec := exec_startupLoadDone s hload
  refine ⟨fun hpart => ⟨s.startupLoad.releaseUpstream.releaseBurst.driveLines, ?_, ?_⟩, fun hpart hne => ?_⟩
  · rw [← hu, ← hb]
    exact heldTraffic_arrives s.startupLoad
  · rw [hexec, releaseHeld_unparted s.startupLoad hpart]
    rfl
  · rw [← hu, ← hb] at hne ⊢
    obtain ⟨p, q, b, d, hp, hq, hbs, hds, ht⟩ :=
      heldTrafficInRetain s.startupLoad s.startupLoad.unheld.linesFor hpart ((holdsTraffic_iff _).2 hne)
    refine ⟨p, q, b, d, _, hp, hq, hbs, hds, hexec, ?_⟩
    rw [ht]
    rfl

end Sys2Proof.Machine
end

section
/-! PROOFS. The output lines are read by no operation; posts: O52. -/

namespace Sys2Proof.Machine

/-! ### No operation of the record engine reads the output lines -/

/-- An event with other output lines. -/
def underLines (x : Lines) (e : Event) : Event := (e.1.withLines x, e.2)

/-- Both ways of a choice that the lines have no part in. -/
theorem underLines_ite {p : Prop} {i j : Decidable p} {x : Lines} {a b a' b' : Event}
    (ha : a = underLines x a') (hb : b = underLines x b') :
    @ite _ p i a b = underLines x (@ite _ p j a' b') := by
  by_cases h : p
  · rw [if_pos h, if_pos h, ha]
  · rw [if_neg h, if_neg h, hb]

theorem withLines_ite {p : Prop} {i j : Decidable p} {x : Lines} {a b a' b' : State}
    (ha : a = a'.withLines x) (hb : b = b'.withLines x) : @ite _ p i a b = (@ite _ p j a' b').withLines x := by
  by_cases h : p
  · rw [if_pos h, if_pos h, ha]
  · rw [if_neg h, if_neg h, hb]

section
variable (s : State) (x : Lines) (n : Nat)

@[simp] theorem State.withLines_record : (s.withLines x).record n = s.record n := rfl
@[simp] theorem State.withLines_kind : (s.withLines x).kind n = s.kind n := rfl

theorem discardKind_withLines : (s.withLines x).discardKind n = (s.discardKind n).withLines x := by
  simp only [State.discardKind, State.withLines_kind]
  cases s.kind n <;> rfl

theorem enterStale_withLines : (s.withLines x).enterStale n = (s.enterStale n).withLines x :=
  discardKind_withLines (s.setRecord n { s.record n with status := .stale, progress := 0 }) x n

theorem notifyIf_withLines (b : Bool) (v : Notice) :
    (s.withLines x).notifyIf b v = (s.notifyIf b v).withLines x := by
  cases b <;> rfl

theorem bar_withLines : (s.withLines x).bar n = underLines x (s.bar n) := by
  have h := discardKind_withLines (((s.setRecord n { s.record n with
    status := .barred, progress := 0, timer := none }).notify .barred).notifyIf
      ((s.record n).status == .valid) .leftValid) x n
  rw [← notifyIf_withLines] at h
  exact congrArg (·, (s.bar n).2) h

theorem refuseStatus_withLines : (s.withLines x).refuseStatus n = underLines x (s.refuseStatus n) := by
  refine underLines_ite (bar_withLines s x n) ?_
  simp only [State.withLines_record]
  cases (s.record n).status with
  | recovering => exact congrArg (·, [PartRequest.condRaise (s.staleRequest n 2)]) (enterStale_withLines s x n)
  | _ => rfl

theorem refuseAspect_withLines : (s.withLines x).refuseAspect n = (s.refuseAspect n).withLines x :=
  withLines_ite rfl rfl

theorem refuse_withLines (why : Reason) : (s.withLines x).refuse n why = underLines x (s.refuse n why) := by
  have h := refuseAspect_withLines ((s.setRecord n ((s.record n).refuse why)).notify .refusal) x n
  exact (congrArg (State.refuseStatus · n) h).trans (refuseStatus_withLines _ x n)

theorem completeChangeover_withLines :
    (s.withLines x).completeChangeover n = underLines x (s.completeChangeover n) := underLines_ite rfl rfl

theorem enterValid_withLines : (s.withLines x).enterValid n = underLines x (s.enterValid n) := by
  have h := completeChangeover_withLines (s.setRecord n { s.record n with status := .valid, progress := 0 }) x n
  have hk : ∀ u : State, (u.setRecord n { u.record n with status := .valid, progress := 0 }).kind n = u.kind n :=
    fun _ => rfl
  simp only [State.enterValid, hk, State.withLines_kind]
  cases s.kind n with
  | aspect => exact h
  | _ => rfl

theorem Event.andThen_withLines (e : Event) (f : State → Event)
    (h : ∀ u : State, f (u.withLines x) = underLines x (f u)) :
    (underLines x e).andThen f = underLines x (e.andThen f) := by
  simp only [Event.andThen, underLines, h]

theorem acceptStatus_withLines : (s.withLines x).acceptStatus n = underLines x (s.acceptStatus n) := by
  have hclear : ((s.withLines x).enterValid n).andThen (clearStale n) =
      underLines x ((s.enterValid n).andThen (clearStale n)) := by
    rw [enterValid_withLines, Event.andThen_withLines _ _ _ fun _ => rfl]
  simp only [State.acceptStatus, State.withLines_record, State.withLines_cfg]
  cases (s.record n).status with
  | empty => exact enterValid_withLines s x n
  | stale => exact underLines_ite hclear rfl
  | recovering => exact underLines_ite hclear rfl
  | _ => rfl

theorem selectSystem_withLines (q : Nat) : (s.withLines x).selectSystem q = underLines x (s.selectSystem q) := by
  have hv : (s.withLines x).systemValid q = s.systemValid q := rfl
  have he : (s.withLines x).changeoverExpiry = s.changeoverExpiry := rfl
  simp only [State.selectSystem, State.withLines_aspect, hv, he]
  cases s.aspect.select.inForce with
  | none => rfl
  | some f => exact underLines_ite rfl (underLines_ite rfl rfl)

theorem acceptAspect_withLines (words : List Word) :
    (s.withLines x).acceptAspect n words = underLines x (s.acceptAspect n words) := by
  simp only [State.acceptAspect, State.withLines_cfg]
  cases s.cfg.findAspect (s.cfg.entry n).system (bits (at0 words 0) 7 0) <;> rfl

theorem acceptKind_withLines (words : List Word) :
    (s.withLines x).acceptKind n words = underLines x (s.acceptKind n words) := by
  simp only [State.acceptKind, State.withLines_kind]
  cases s.kind n with
  | aspect => exact acceptAspect_withLines s x n words
  | select => exact selectSystem_withLines s x _
  | _ => rfl

theorem accept_withLines (seq : Byte) (words : List Word) :
    (s.withLines x).accept n seq words = underLines x (s.accept n seq words) := by
  have h : ((s.withLines x).setRecord n ((s.record n).accept seq)).acceptKind n words =
      underLines x ((s.setRecord n ((s.record n).accept seq)).acceptKind n words) :=
    acceptKind_withLines (s.setRecord n ((s.record n).accept seq)) x n words
  simp only [State.accept, State.withLines_record, h]
  rw [Event.andThen_withLines _ _ _ fun u => acceptStatus_withLines u x n]
  rfl

theorem close_withLines (crc : Byte) (words : List Word) (w : Word) :
    (s.withLines x).close n crc words w = underLines x (s.close n crc words w) := by
  have h : (s.withLines x).closeCheck n crc words w = s.closeCheck n crc words w := rfl
  simp only [State.close, h]
  cases s.closeCheck n crc words w with
  | none => exact accept_withLines s x n _ _
  | some why => exact refuse_withLines s x n why

theorem writeStep_withLines (k : Nat) (w : Word) : (s.withLines x).writeStep n k w = underLines x (s.writeStep n k w) := by
  refine underLines_ite rfl ?_
  simp only [State.withLines_record]
  cases (s.record n).write with
  | closed => exact refuse_withLines s x n _
  | opened next crc words =>
    exact underLines_ite (refuse_withLines s x n _) (underLines_ite (close_withLines s x n crc words w) rfl)

end

/-! ### No operation of the message unit reads the output lines -/

theorem raise_withLines (s : State) (x : Lines) (r : RaiseRequest) :
    (s.withLines x).raise r = ((s.raise r).1.withLines x, (s.raise r).2) := by
  have h : (s.withLines x).msg.raise (s.withLines x).now r = s.msg.raise s.now r := rfl
  simp only [State.raise, h]
  cases (s.msg.raise s.now r).2 <;> rfl

theorem awaitIf_withLines (s : State) (x : Lines) (b : Bool) (n : Nat) :
    (s.withLines x).awaitIf b n = (s.awaitIf b n).withLines x := by
  cases b <;> rfl

theorem takeOne_withLines (s : State) (x : Lines) (r : PartRequest) :
    (s.withLines x).takeOne r = ((s.takeOne r).1.withLines x, (s.takeOne r).2) := by
  cases r with
  | raise q aw =>
    cases aw with
    | none => simp only [State.takeOne, raise_withLines]
    | some n => simp only [State.takeOne, raise_withLines, awaitIf_withLines]
  | condRaise q =>
    simp only [State.takeOne, raise_withLines, State.withLines_msg]
    split <;> rfl
  | condClear code => rfl
  | overrun q => simp only [State.takeOne, raise_withLines]

theorem takeAll_withLines (f : Nat) : ∀ (rs : List PartRequest) (s : State) (x : Lines),
    takeAll f rs (s.withLines x) = (takeAll f rs s).withLines x := by
  induction f with
  | zero => intro rs s x; rfl
  | succ f ih =>
    intro rs s x
    match rs with
    | [] => rfl
    | [r] => simp only [takeAll, takeOne_withLines, ih]
    | r :: r' :: rest =>
      have hc : (s.withLines x).choose (r :: r' :: rest).length =
          ((s.choose (r :: r' :: rest).length).1, (s.choose (r :: r' :: rest).length).2.withLines x) := rfl
      simp only [takeAll, hc, takeOne_withLines, ih]

theorem Event.finish_withLines (e : Event) (x : Lines) : (underLines x e).finish = e.finish.withLines x :=
  takeAll_withLines _ _ _ _

theorem acknowledge_withLines (s : State) (x : Lines) (code : Nat) :
    (s.withLines x).acknowledge code = (s.acknowledge code).withLines x := by
  have h : (s.withLines x).msg.ack (s.withLines x).now code = s.msg.ack s.now code := rfl
  simp only [State.acknowledge, h]
  cases (s.msg.ack s.now code).2 <;> rfl

theorem captureAction_withLines (s : State) (x : Lines) (c : Nat) (w : Word) :
    (s.withLines x).captureAction c w = (s.captureAction c w).withLines x := by
  have hperform : ∀ st marker act,
      (s.withLines x).postPerform c st marker act = (s.postPerform c st marker act).withLines x := by
    intro st marker act
    cases act with
    | raise => simp only [State.postPerform, raise_withLines]
    | clear =>
      have h : (s.withLines x).msg.clear (s.withLines x).now st.code = s.msg.clear s.now st.code := rfl
      simp only [State.postPerform, State.postClear, h]
      cases (s.msg.clear s.now st.code).2 <;> rfl
    | ack => exact acknowledge_withLines s x st.code
  have hs : (s.withLines x).stage c = s.stage c := rfl
  simp only [State.captureAction, hs]
  cases s.stage c with
  | none => rfl
  | some st =>
    cases postActionOf w with
    | none => rfl
    | some act =>
      simp only [hperform]
      exact withLines_ite rfl rfl

theorem capture_withLines (s : State) (x : Lines) (k : Nat) (w : Word) :
    (s.withLines x).capture k w = (s.capture k w).withLines x := by
  unfold State.capture
  split
  · rfl
  · split
    · rfl
    · exact captureAction_withLines s x _ w

/-! ### A grant and a completion with other lines -/

theorem serveMemory_withLines (s : State) (x : Lines) (r : UpstreamRequest) (a : Addr) :
    (s.withLines x).serveMemory r a = (s.serveMemory r a).withLines x := by
  cases r <;> rfl

theorem serveGranted_withLines (s : State) (x : Lines) (r : UpstreamRequest) :
    (s.withLines x).serveGranted r = (s.serveGranted r).withLines x := by
  have hd : (s.withLines x).disposition r = s.disposition r := rfl
  have hfree : ((s.withLines x).dispose r).freePort = ((s.dispose r).freePort).withLines x := by
    rw [dispose_withLines]
    rfl
  simp only [State.serveGranted, hd, serveMemory_withLines, hfree]
  cases s.disposition r with
  | memoryPost a k => exact capture_withLines _ x k _
  | memoryRecord a n k =>
    exact (congrArg Event.finish (writeStep_withLines _ x n k _)).trans (Event.finish_withLines _ x)
  | _ => rfl

theorem grantUpstream_withLines (s : State) (x : Lines) :
    (s.withLines x).grantUpstream = s.grantUpstream.withLines x := by
  simp only [State.grantUpstream, State.withLines_path]
  cases s.path.up with
  | claiming r =>
    exact serveGranted_withLines (s.withPath { s.path with
      port := s.path.port.grant .upstream, alternate := false }) x r
  | _ => rfl

theorem columnDone_withLines (s : State) (x : Lines) : (s.withLines x).columnDone = s.columnDone.withLines x := by
  simp only [State.columnDone, State.withLines_path]
  cases s.path.up with
  | serving r w => cases w <;> rfl
  | _ => rfl

/-! ### The desk computer's posts (R126, log 14) -/

theorem columnDone_path (s : State) : ∃ p, s.columnDone = s.withPath p := by
  unfold State.columnDone
  split
  · exact ⟨_, rfl⟩
  · exact ⟨_, rfl⟩
  all_goals exact ⟨s.path, rfl⟩

theorem exec_upstreamColumnDone_driven (s : State) :
    exec .upstreamColumnDone s.driveLines = complete s.columnDone := by
  show complete s.driveLines.columnDone = _
  rw [State.driveLines, columnDone_withLines, complete_withLines]

theorem exec_postMessageWord (s : State) (a : Addr) (w : Word) :
    exec (.postMessageWord a w) s = complete (s.deskWrite a w) := rfl

/-- A granted write to the POST window is written and captured (R29). -/
theorem arbitrate_post {s : State} {a : Addr} {w : Word} {k : Nat} (hg : GrantsUpstream s (.write a w))
    (hs : s.inService = true) (hc : s.cfg.classify .upstream a = .post k) :
    s.arbitrate = (s.written (.write a w) a w).capture k w := by
  have hd : s.disposition (.write a w) = .memoryPost a k := by
    rw [s.disposition_write a w hs, hc]
    rfl
  rw [arbitrate_upstream s _ hg, State.serveGranted, State.upstreamGranted_disposition, hd]
  rfl

theorem WrittenAt.andThen {s t u : State} {r : UpstreamRequest} {a : Addr} {w : Word} (h : WrittenAt s t r a w)
    (hf : t.SameFrame u) : WrittenAt s u r a w := by
  obtain ⟨hmem, hpath⟩ := h
  exact ⟨by rw [hf.mem]; exact hmem, by rw [hf.path]; exact hpath⟩

/-- The stage a message word leaves, in the statement's words (Table 7.1). -/
theorem stageOf_eq (w : Word) :
    stageOf w = { code := w.toNat % 2048, cls := w.toNat / 4096 % 4, needsAck := w.getLsbD 15 } := by
  have hbit : bit w 15 = w.getLsbD 15 := by
    simp only [bit, bits, BitVec.getLsbD, Nat.testBit_eq_decide_div_mod_eq]
    rfl
  simp only [stageOf, hbit, bits]
  simp

/-- The capture of a message word replaces the stage of its cell alone (R126). -/
theorem capture_stage (s : State) (c : Nat) (w : Word) (hl : s.msg.stages.length = 4) (hc : c < 4) :
    s.capture (2 * c) w = s.setStage c (some (stageOf w)) ∧
      (s.setStage c (some (stageOf w))).stage c = some (stageOf w) ∧
      ∀ d, d ≠ c → (s.setStage c (some (stageOf w))).stage d = s.stage d := by
  refine ⟨?_, getD_set_self _ _ _ _ (by omega), fun d hd => getD_set_ne _ _ _ _ _ hd⟩
  have h1 : ¬8 ≤ 2 * c := by omega
  have h2 : 2 * c % 2 = 0 := by omega
  have h3 : 2 * c / 2 = c := by omega
  rw [State.capture, if_neg h1, if_pos h2, h3]

theorem State.deskWrite_idle (s : State) (a : Addr) (w : Word) (h : s.path.up = .idle) :
    s.deskWrite a w =
      if (s.dispose (.write a w)).path.port.holder = .free ∧ (s.dispose (.write a w)).winner = .upstream then
        (s.dispose (.write a w)).grantUpstream.columnDone
      else s.dispose (.write a w) := by
  rw [State.deskWrite_eq, if_neg (not_not.2 h)]

/-- A post that waits no longer: arrival, grant and completion as one command (log 14). -/
theorem deskWrite_granted {s : State} {a : Addr} {w : Word} (hg : GrantsUpstream s (.write a w))
    (hd : (s.withUp .idle).dispose (.write a w) = s) :
    (s.withUp .idle).deskWrite a w = s.arbitrate.columnDone := by
  have hw := winner_upstream s _ hg
  obtain ⟨-, hfree, -, -⟩ := hg
  rw [State.deskWrite_idle _ a w rfl, hd, if_pos ⟨hfree, hw⟩, s.arbitrate_grantUpstream hfree hw]

theorem dispose_post_waiting {s : State} {a : Addr} {w : Word} {k : Nat} (hup : s.path.up = .claiming (.write a w))
    (hs : s.inService = true) (hc : s.cfg.classify .upstream a = .post k) :
    (s.withUp .idle).dispose (.write a w) = s := by
  have hd : (s.withUp .idle).disposition (.write a w) = .memoryPost a k := by
    rw [State.disposition_write (s.withUp .idle) a w hs, show (s.withUp .idle).cfg.classify .upstream a = _ from hc]
    rfl
  rw [State.dispose, hd]
  simp only [State.withUp, State.withPath_path, ← hup]
  rfl

/-- The grant of a post and its completion, and the one command that carries both. -/
theorem post_granted {s : State} {a : Addr} {w : Word} {k : Nat} (hg : GrantsUpstream s (.write a w))
    (hs : s.inService = true) (hc : s.cfg.classify .upstream a = .post k) :
    ∃ u v, exec .arbiterGrant s = .next u ∧ WrittenAt s u (.write a w) a w ∧
      (s.msg.stages.length = 4 → ∀ c, k = 2 * c → c < 4 →
        u.stage c = some { code := w.toNat % 2048, cls := w.toNat / 4096 % 4, needsAck := w.getLsbD 15 } ∧
        (∀ d, d ≠ c → u.stage d = s.stage d) ∧
        u = { s with mem := u.mem, path := u.path, msg := { s.msg with stages := u.msg.stages }, lines := u.lines }) ∧
      exec .upstreamColumnDone u = .next v ∧ v = { u with path := v.path, lines := v.lines } ∧
      exec (.postMessageWord a w) { s with path := { s.path with up := .idle } } = .next v := by
  have hgrant := arbitrate_post hg hs hc
  obtain ⟨p, hdone⟩ := columnDone_path s.arbitrate
  refine ⟨_, _, exec_arbiterGrant s, ?_, fun hl c hk hc4 => ?_, exec_upstreamColumnDone_driven _, ?_, ?_⟩
  · rw [hgrant]
    exact ((writtenAt_written s _ a w).andThen (State.capture_sameFrame _ k w)).andThen
      ⟨rfl, rfl, rfl, rfl, rfl, rfl, rfl, rfl, rfl, rfl⟩
  · obtain ⟨hcap, hself, hother⟩ := capture_stage (s.written (.write a w) a w) c w hl hc4
    rw [hk, hcap] at hgrant
    rw [hgrant, ← stageOf_eq]
    exact ⟨hself, hother, rfl⟩
  · rw [hdone]
    rfl
  · show complete ((s.withUp .idle).deskWrite a w) = _
    rw [deskWrite_granted hg (dispose_post_waiting hg.1 hs hc)]
    rfl

/-- A message word through a ready port (R126). -/
theorem post_ready {s : State} {a : Addr} {w : Word} {c : Nat} (hl : s.msg.stages.length = 4) (hready : PortReady s)
    (hs : s.inService = true) (hc : s.cfg.classify .upstream a = .post (2 * c)) (hc4 : c < 4) :
    ∃ t, exec (.postMessageWord a w) s = .next t ∧ DeskWritten s t a w ∧
      t.stage c = some { code := w.toNat % 2048, cls := w.toNat / 4096 % 4, needsAck := w.getLsbD 15 } ∧
      (∀ d, d ≠ c → t.stage d = s.stage d) ∧
      t = { s with mem := t.mem, path := t.path, msg := { s.msg with stages := t.msg.stages }, lines := t.lines } := by
  obtain ⟨hidle, hfree, hdebt, hturn⟩ := hready
  have hg : GrantsUpstream (s.withUp (.claiming (.write a w))) (.write a w) := ⟨rfl, hfree, hdebt, hturn⟩
  obtain ⟨u, v, -, ⟨hmem, hpath⟩, hstage, hdone, hv, hpost⟩ := post_granted hg hs hc
  obtain ⟨hself, hother, hrest⟩ := hstage hl c rfl hc4
  have hsame : { s with path := { s.path with up := .idle } } = s := by rw [← hidle]
  have hvpath : v.path = { s.path with
      port := { holder := .free, openRow := none, ops := [.rowActivate (a.toNat / 128), .columnWrite a w] }
      alternate := false
      up := .idle } := by
    have hup : u.path.up = .serving (.write a w) none := by rw [hpath]
    have hcol : u.columnDone = u.completeWrite.freePort := by simp only [State.columnDone, hup]
    have : u.columnDone.driveLines = v := by injection hdone
    rw [← this, hcol]
    simp only [State.driveLines_path, State.completeWrite, State.freePort, State.withUp_path, State.withPort_path, hpath]
    rfl
  refine ⟨v, ?_, ⟨?_, hvpath⟩, ?_, ?_, ?_⟩
  · rw [← hsame]
    exact hpost
  · rw [hv]; exact hmem
  · rw [hv]; exact hself
  · rw [hv]; exact hother
  · rw [hv, hrest]
    rfl

/-- A post is its arrival and, where the free port is given to it, its grant and its completion (log 14). -/
theorem post_carried {s t : State} {a : Addr} {w : Word} (hidle : s.path.up = .idle)
    (ht : exec (.upstreamArrival (.write a w)) s = .next t) :
    (GrantsUpstream t (.write a w) →
      ∀ u v, exec .arbiterGrant t = .next u → exec .upstreamColumnDone u = .next v →
        exec (.postMessageWord a w) s = .next v) ∧
    (t.path.port.holder ≠ .free ∨ t.winner ≠ .upstream → exec (.postMessageWord a w) s = .next t) := by
  have hpost := (exec_postMessageWord s a w).trans (congrArg complete (s.deskWrite_idle a w hidle))
  rw [exec_upstreamArrival, s.arrive_idle _ hidle] at ht
  generalize s.dispose (.write a w) = d at ht hpost
  cases ht
  refine ⟨fun hg u v hu hv => ?_, fun hno => ?_⟩
  · have hw : d.winner = .upstream := winner_upstream _ _ hg
    have hfree : d.path.port.holder = .free := hg.2.1
    have hgrant : exec .arbiterGrant d.driveLines = complete d.grantUpstream := by
      rw [exec_arbiterGrant, State.arbitrate_grantUpstream d.driveLines hfree hw, State.driveLines,
        grantUpstream_withLines, complete_withLines]
    have hu' : d.grantUpstream.driveLines = u := by injection hgrant.symm.trans hu
    rw [← hu', exec_upstreamColumnDone_driven] at hv
    rw [hpost, if_pos ⟨hfree, hw⟩]
    exact hv
  · rw [hpost, if_neg fun h => hno.elim (fun hn => hn h.1) (fun hn => hn h.2)]
    rfl

/-- Settles O52. -/
theorem messageWordIsStaged : Obligations.MessageWordIsStaged := by
  refine ⟨fun s a w k hg hs hc => post_granted hg hs hc,
    fun s a w c hl hready hs hc hc4 => post_ready hl hready hs hc hc4, fun s t a w hidle ht => ?_⟩
  obtain ⟨hgranted, hwaits⟩ := post_carried hidle ht
  refine ⟨hgranted, hwaits, ?_, ?_, ?_, ?_⟩
  · rintro m i rfl; rfl
  · rintro m i rfl; rfl
  · rintro m i rfl; rfl
  · rintro m i x rfl; rfl

end Sys2Proof.Machine
end

section
/-! PROOFS. A refresh overrun in RUN or RETAIN: O21. First the records, then the requests in their order, then the
message list. -/

namespace Sys2Proof.Machine

/-! ### What an overrun does to the records (R68, R74) -/

/-- Record `n` is held and VALID or RECOVERING: an overrun makes it STALE. -/
def State.Falls (s : State) (n : Nat) : Prop :=
  s.kind n ≠ .none ∧ ((s.record n).status = .valid ∨ (s.record n).status = .recovering)

/-- The kind state of a SPEED record is discarded where the record is one of the kind (R82). -/
theorem discardKind_speedKind (s : State) (n : Nat) (hn : n < s.speed.kinds.length) :
    (s.kind n = .speed → (s.discardKind n).speedKind n = (s.speedKind n).discard) ∧
      (s.kind n ≠ .speed → (s.discardKind n).speedKind n = s.speedKind n) := by
  unfold State.discardKind
  cases h : s.kind n with
  | speed => exact ⟨fun _ => s.speedKind_setSpeedKind_self n _ hn, fun hne => absurd rfl hne⟩
  | _ => exact ⟨nofun, fun _ => rfl⟩

theorem discardKind_aspectKind (s : State) (n : Nat) (hn : n < s.aspect.kinds.length) :
    (s.kind n = .aspect → (s.discardKind n).aspectKind n = (s.aspectKind n).discard) ∧
      (s.kind n ≠ .aspect → (s.discardKind n).aspectKind n = s.aspectKind n) := by
  unfold State.discardKind
  cases h : s.kind n with
  | aspect => exact ⟨fun _ => s.aspectKind_setAspectKind_self n _ hn, fun hne => absurd rfl hne⟩
  | _ => exact ⟨nofun, fun _ => rfl⟩

theorem discardKind_recs (s : State) (n : Nat) : (s.discardKind n).recs = s.recs := by
  unfold State.discardKind
  cases s.kind n <;> rfl

theorem discardKind_select (s : State) (n : Nat) : (s.discardKind n).aspect.select = s.aspect.select := by
  unfold State.discardKind
  cases s.kind n <;> rfl

theorem discardKind_status (s : State) (n : Nat) : (s.discardKind n).status = s.status := by
  unfold State.discardKind
  cases s.kind n <;> rfl

/-- The request an overrun makes for record `n` (R69): a raise where it was VALID, a conditional one where it was
RECOVERING. -/
def State.overrunAsk (s : State) (n : Nat) : List PartRequest :=
  if (s.cfg.entry n).held then
    match (s.record n).status with
    | .valid => [.raise (s.staleRequest n 3) none]
    | .recovering => [.condRaise (s.staleRequest n 3)]
    | .empty => []
    | .stale => []
    | .barred => []
  else []

theorem held_iff (s : State) (n : Nat) : (s.cfg.entry n).held = true ↔ s.kind n ≠ .none := by
  simp [RecordEntry.held, State.kind]

theorem overrunRecord_asks (s : State) (n : Nat) : (s.overrunRecord n).2 = s.overrunAsk n := by
  unfold State.overrunRecord State.overrunAsk
  split
  · cases (s.record n).status <;> rfl
  · rfl

theorem overrunRecord_stays (s : State) (n : Nat) (h : ¬s.Falls n) : s.overrunRecord n = (s, []) := by
  unfold State.overrunRecord
  split
  · rename_i hh
    have hk := (held_iff s n).1 hh
    cases hs : (s.record n).status with
    | valid => exact absurd ⟨hk, Or.inl hs⟩ h
    | recovering => exact absurd ⟨hk, Or.inr hs⟩ h
    | _ => rfl
  · rfl

theorem overrunAsk_stays {s : State} {n : Nat} (h : ¬s.Falls n) : s.overrunAsk n = [] := by
  rw [← overrunRecord_asks, overrunRecord_stays s n h]

/-- A record that falls becomes STALE, and RECORD_LEFT_VALID is set where it was VALID. -/
theorem overrunRecord_falls (s : State) (n : Nat) (h : s.Falls n) :
    ((s.record n).status = .valid → (s.overrunRecord n).1 = (s.enterStale n).notify .leftValid) ∧
      ((s.record n).status ≠ .valid → (s.overrunRecord n).1 = s.enterStale n) := by
  obtain ⟨hk, hs⟩ := h
  have hh := (held_iff s n).2 hk
  unfold State.overrunRecord
  rw [if_pos hh]
  rcases hs with hs | hs <;> rw [hs]
  · exact ⟨fun _ => rfl, fun hn => absurd rfl hn⟩
  · exact ⟨nofun, fun _ => rfl⟩

/-- What an overrun has done once it has reached the records `ns` (R68). -/
structure Overran (s t : State) (ns : List Nat) : Prop where
  rest : t = { s with recs := t.recs, speed := { s.speed with kinds := t.speed.kinds },
                      aspect := { s.aspect with kinds := t.aspect.kinds },
                      status := { s.status with
                        notices := { s.status.notices with leftValid := t.status.notices.leftValid } } }
  recsLength : t.recs.length = s.recs.length
  speedsLength : t.speed.kinds.length = s.speed.kinds.length
  aspectsLength : t.aspect.kinds.length = s.aspect.kinds.length
  fallen : ∀ n, n < 24 → n ∈ ns → s.Falls n →
    t.record n = { s.record n with status := .stale, progress := 0 } ∧
      (s.kind n = .speed → t.speedKind n = (s.speedKind n).discard) ∧
      (s.kind n ≠ .speed → t.speedKind n = s.speedKind n) ∧
      (s.kind n = .aspect → t.aspectKind n = (s.aspectKind n).discard) ∧
      (s.kind n ≠ .aspect → t.aspectKind n = s.aspectKind n)
  others : ∀ n, n < 24 → ¬(n ∈ ns ∧ s.Falls n) →
    t.record n = s.record n ∧ t.speedKind n = s.speedKind n ∧ t.aspectKind n = s.aspectKind n
  leftValid : t.status.notices.leftValid = true ↔
    s.status.notices.leftValid = true ∨ ∃ n, n ∈ ns ∧ s.kind n ≠ .none ∧ (s.record n).status = .valid

theorem Overran.start (s : State) : Overran s s [] :=
  ⟨rfl, rfl, rfl, rfl, nofun, fun _ _ _ => ⟨rfl, rfl, rfl⟩, by simp⟩

theorem aspect_eq_kinds {a b : AspectUnit} (h : b.select = a.select) : b = { a with kinds := b.kinds } := by
  cases a
  cases b
  cases h
  rfl

/-- The overrun of one record: what it does there, and to no other. -/
theorem overrunRecord_overran (s : State) (n : Nat) (hshape : ShapeInv s) (hn : n < 24) :
    Overran s (s.overrunRecord n).1 [n] := by
  obtain ⟨-, -, hrecs, hspeeds, haspects, -⟩ := hshape
  by_cases h : s.Falls n
  · have honly := s.overrunRecord_only n
    obtain ⟨hvalid, hrecovering⟩ := overrunRecord_falls s n h
    obtain ⟨hsp, hsp'⟩ := discardKind_speedKind
      (s.setRecord n { s.record n with status := .stale, progress := 0 }) n (by rw [State.setRecord_speed]; omega)
    obtain ⟨hap, hap'⟩ := discardKind_aspectKind
      (s.setRecord n { s.record n with status := .stale, progress := 0 }) n (by rw [State.setRecord_aspect]; omega)
    have hrec : (s.enterStale n).record n = { s.record n with status := .stale, progress := 0 } := by
      rw [State.record, State.enterStale, discardKind_recs]
      exact s.record_setRecord_self n _ (by omega)
    have hselect : (s.enterStale n).aspect.select = s.aspect.select := discardKind_select _ n
    have hstatus : (s.enterStale n).status = s.status := discardKind_status _ n
    have hone : (s.overrunRecord n).1.record n = (s.enterStale n).record n ∧
        (s.overrunRecord n).1.speedKind n = (s.enterStale n).speedKind n ∧
        (s.overrunRecord n).1.aspectKind n = (s.enterStale n).aspectKind n ∧
        (s.overrunRecord n).1.aspect.select = s.aspect.select ∧
        (s.overrunRecord n).1.status = { s.status with notices := { s.status.notices with
          leftValid := (s.overrunRecord n).1.status.notices.leftValid } } ∧
        ((s.overrunRecord n).1.status.notices.leftValid = true ↔
          s.status.notices.leftValid = true ∨ (s.record n).status = .valid) := by
      by_cases hv : (s.record n).status = .valid
      · rw [hvalid hv]
        refine ⟨rfl, rfl, rfl, hselect, ?_, by simp [hv, Notices.add]⟩
        rw [State.notify_status, hstatus]
        rfl
      · rw [hrecovering hv]
        exact ⟨rfl, rfl, rfl, hselect, by rw [hstatus], by simp [hv, hstatus]⟩
    obtain ⟨hr, hs, ha, hsel, hst, hleft⟩ := hone
    refine ⟨?_, honly.recsLength, honly.speedsLength, honly.aspectsLength, ?_, ?_, ?_⟩
    · have e := honly.rest
      rw [aspect_eq_kinds hsel, hst] at e
      exact e
    · rintro m - hm -
      obtain rfl := List.mem_singleton.1 hm
      rw [hr, hs, ha]
      exact ⟨hrec, hsp, hsp', hap, hap'⟩
    · intro m _ hm
      have hne : m ≠ n := fun e => hm ⟨List.mem_singleton.2 e, e ▸ h⟩
      exact ⟨honly.records m hne, honly.speeds m hne, honly.aspects m hne⟩
    · rw [hleft]
      simp [h.1]
  · rw [overrunRecord_stays s n h]
    refine ⟨rfl, rfl, rfl, rfl, ?_, fun _ _ _ => ⟨rfl, rfl, rfl⟩, ?_⟩
    · rintro m - hm hf
      obtain rfl := List.mem_singleton.1 hm
      exact absurd hf h
    · have : ¬(s.kind n ≠ .none ∧ (s.record n).status = .valid) := fun hv => h ⟨hv.1, Or.inl hv.2⟩
      simp only [List.mem_singleton, exists_eq_left, this, or_false]

theorem Overran.falls_iff {s t : State} {ns : List Nat} (h : Overran s t ns) {n : Nat} (hn : n < 24) (hm : n ∉ ns) :
    t.Falls n ↔ s.Falls n := by
  have hk : t.kind n = s.kind n := by rw [State.kind, State.kind, h.rest]
  obtain ⟨hr, -, -⟩ := h.others n hn fun hc => hm hc.1
  rw [State.Falls, State.Falls, hk, hr]

/-- Two changes within what an overrun of records may touch are one. -/
theorem rest_trans {a b c : State}
    (h1 : b = { a with recs := b.recs, speed := { a.speed with kinds := b.speed.kinds },
                       aspect := { a.aspect with kinds := b.aspect.kinds },
                       status := { a.status with
                         notices := { a.status.notices with leftValid := b.status.notices.leftValid } } })
    (h2 : c = { b with recs := c.recs, speed := { b.speed with kinds := c.speed.kinds },
                       aspect := { b.aspect with kinds := c.aspect.kinds },
                       status := { b.status with
                         notices := { b.status.notices with leftValid := c.status.notices.leftValid } } }) :
    c = { a with recs := c.recs, speed := { a.speed with kinds := c.speed.kinds },
                 aspect := { a.aspect with kinds := c.aspect.kinds },
                 status := { a.status with
                   notices := { a.status.notices with leftValid := c.status.notices.leftValid } } } := by
  rw [h2, h1]

/-- The overrun goes on to one record more. -/
theorem Overran.next {s t : State} {ns : List Nat} (h : Overran s t ns) (hshape : ShapeInv t) {n : Nat} (hn : n < 24)
    (hm : n ∉ ns) : Overran s (t.overrunRecord n).1 (ns ++ [n]) := by
  have h1 := overrunRecord_overran t n hshape hn
  have hf := h.falls_iff hn hm
  have hkind : ∀ m, t.kind m = s.kind m := fun m => by rw [State.kind, State.kind, h.rest]
  obtain ⟨hr, hs, ha⟩ := h.others n hn fun hc => hm hc.1
  refine ⟨?_, h1.recsLength.trans h.recsLength, h1.speedsLength.trans h.speedsLength,
    h1.aspectsLength.trans h.aspectsLength, ?_, ?_, ?_⟩
  · exact rest_trans h.rest h1.rest
  · intro m hlt hmem hfalls
    rcases List.mem_append.1 hmem with hin | hin
    · have hne : m ≠ n := fun e => hm (e ▸ hin)
      obtain ⟨hr', hs', ha'⟩ := h1.others m hlt fun hc => hne (List.mem_singleton.1 hc.1)
      rw [hr', hs', ha']
      exact h.fallen m hlt hin hfalls
    · obtain rfl := List.mem_singleton.1 hin
      have := h1.fallen m hlt hin (hf.2 hfalls)
      rw [hr, hs, ha, hkind] at this
      exact this
  · intro m hlt hno
    have hno1 : ¬(m ∈ ns ∧ s.Falls m) := fun hc => hno ⟨List.mem_append_left _ hc.1, hc.2⟩
    obtain ⟨hr', hs', ha'⟩ := h1.others m hlt fun hc => by
      obtain rfl := List.mem_singleton.1 hc.1
      exact hno ⟨List.mem_append_right _ hc.1, hf.1 hc.2⟩
    rw [hr', hs', ha']
    exact h.others m hlt hno1
  · rw [h1.leftValid, h.leftValid, or_assoc]
    simp only [List.mem_singleton, exists_eq_left, hkind, hr, List.mem_append, or_and_right, exists_or]

theorem Overran.shape {s t : State} {ns : List Nat} (h : Overran s t ns) (hs : ShapeInv s) : ShapeInv t := by
  obtain ⟨hcfg, himage, hrecs, hspeeds, haspects, hstages, hjob⟩ := hs
  refine ⟨?_, ?_, h.recsLength.trans hrecs, h.speedsLength.trans hspeeds, h.aspectsLength.trans haspects, ?_, ?_⟩ <;>
    rw [h.rest] <;> assumption

theorem Overran.asks {s t : State} {ns : List Nat} (h : Overran s t ns) {n : Nat} (hn : n < 24) (hm : n ∉ ns) :
    t.overrunAsk n = s.overrunAsk n := by
  obtain ⟨hr, -, -⟩ := h.others n hn fun hc => hm hc.1
  have hcfg : t.cfg = s.cfg := by rw [h.rest]
  rw [State.overrunAsk, State.overrunAsk, hr, State.staleRequest, State.staleRequest, hcfg]

theorem overran_fold (s : State) (hshape : ShapeInv s) : ∀ (ns done : List Nat) (e : Event),
    (∀ n ∈ ns, n < 24) → (done ++ ns).Nodup → Overran s e.1 done →
    Overran s (ns.foldl (fun e n => Event.andThen e fun s => s.overrunRecord n) e).1 (done ++ ns) ∧
      (ns.foldl (fun e n => Event.andThen e fun s => s.overrunRecord n) e).2 = e.2 ++ ns.flatMap s.overrunAsk := by
  intro ns
  induction ns with
  | nil => intro done e _ _ h; simpa using h
  | cons n ns ih =>
    intro done e hlt hnodup h
    have hn := hlt n List.mem_cons_self
    have hm : n ∉ done := fun hin =>
      (List.nodup_append.1 hnodup).2.2 n hin n List.mem_cons_self rfl
    have hasks : (e.1.overrunRecord n).2 = s.overrunAsk n := (overrunRecord_asks e.1 n).trans (h.asks hn hm)
    obtain ⟨h1, h2⟩ := ih (done ++ [n]) (Event.andThen e fun s => s.overrunRecord n)
      (fun m hin => hlt m (List.mem_cons_of_mem _ hin)) (by simpa using hnodup) (h.next (h.shape hshape) hn hm)
    rw [List.append_assoc] at h1
    refine ⟨h1, h2.trans ?_⟩
    simp only [Event.andThen, hasks, List.flatMap_cons, List.append_assoc]

/-- Every held VALID or RECOVERING record has fallen, and each has made its request (R68, R69). -/
theorem overrunRecords_spec (s : State) (hshape : ShapeInv s) :
    Overran s s.overrunRecords.1 recordIndices ∧ s.overrunRecords.2 = recordIndices.flatMap s.overrunAsk := by
  obtain ⟨h1, h2⟩ := overran_fold s hshape recordIndices [] (s, []) (fun n hn => List.mem_range.1 hn)
    List.nodup_range (Overran.start s)
  exact ⟨h1, h2⟩

end Sys2Proof.Machine
end

section
/-! PROOFS. The requests of an overrun, one after another, and the press that may come between them. -/

namespace Sys2Proof.Machine

/-! ### The turns of an overrun (R137, R138) -/

/-- What is taken at one turn of an overrun: a request of the part, or the press that was due. -/
inductive OverrunTurn where
  | request (q : PartRequest)
  | press

def State.takeTurn (s : State) : OverrunTurn → State
  | .request q => (s.takeOne q).1
  | .press => s.press

/-- The state after turns taken one after another. -/
def State.takeTurns (s : State) (ts : List OverrunTurn) : State := ts.foldl State.takeTurn s

theorem State.takeTurns_append (s : State) (ts us : List OverrunTurn) :
    s.takeTurns (ts ++ us) = (s.takeTurns ts).takeTurns us :=
  List.foldl_append

theorem State.takeTurns_cons (s : State) (t : OverrunTurn) (ts : List OverrunTurn) :
    s.takeTurns (t :: ts) = (s.takeTurn t).takeTurns ts := rfl

/-- What every turn keeps, the turns keep. -/
theorem State.takeTurns_keep {P : State → Prop} {ts : List OverrunTurn} (h : ∀ t ∈ ts, ∀ x, P x → P (x.takeTurn t))
    {s : State} (hs : P s) : P (s.takeTurns ts) := by
  induction ts generalizing s with
  | nil => exact hs
  | cons t ts ih =>
    exact ih (fun u hu => h u (List.mem_cons_of_mem _ hu)) (h t List.mem_cons_self s hs)

/-- In RUN a recognized press is judged, elsewhere it is discarded (R139, R140). -/
theorem State.press_run (s : State) (h : s.ctl.part = .run) :
    s.press = (s.withMsg { s.msg with debouncer := .pressed }).judgePress := if_pos h

theorem State.press_out (s : State) (h : s.ctl.part ≠ .run) :
    s.press = s.withMsg { s.msg with debouncer := .pressed } := if_neg h

/-- A press reads no count of free choices. -/
theorem State.press_withFreeCount (s : State) (k : Nat) : (s.withFreeCount k).press = s.press.withFreeCount k := by
  have hack : ∀ (x : State) (c : Nat),
      (x.withFreeCount k).acknowledge c = (x.acknowledge c).withFreeCount k := by
    intro x c
    simp only [State.acknowledge, State.now, State.withFreeCount]
    split <;> rfl
  have hjudge : ∀ x : State, (x.withFreeCount k).judgePress = x.judgePress.withFreeCount k := by
    intro x
    have hmsg : (x.withFreeCount k).msg = x.msg := rfl
    cases hh : x.msg.entries.head? with
    | none =>
      simp only [State.judgePress, hmsg, hh]
      rfl
    | some h =>
      simp only [State.judgePress, hmsg, hh, hack]
      by_cases hd : h.state ≠ .acked ∧ x.cfg.settleTime ≤ elapsed h.headSince x.now
      · rw [if_pos hd]
        exact if_pos hd
      · rw [if_neg hd]
        exact if_neg hd
  by_cases hrun : s.ctl.part = .run
  · rw [State.press_run s hrun, State.press_run (s.withFreeCount k) hrun]
    exact hjudge (s.withMsg { s.msg with debouncer := .pressed })
  · rw [State.press_out s hrun, State.press_out (s.withFreeCount k) hrun]
    rfl

theorem State.takeTurn_withFreeCount (s : State) (k : Nat) (t : OverrunTurn) :
    (s.withFreeCount k).takeTurn t = (s.takeTurn t).withFreeCount k := by
  cases t with
  | request q => exact s.takeOne_withFreeCount k q
  | press => exact s.press_withFreeCount k

theorem State.takeTurns_withFreeCount (s : State) (k : Nat) (ts : List OverrunTurn) :
    (s.withFreeCount k).takeTurns ts = (s.takeTurns ts).withFreeCount k := by
  induction ts generalizing s with
  | nil => rfl
  | cons t ts ih => rw [State.takeTurns_cons, State.takeTurn_withFreeCount, ih, State.takeTurns_cons]

/-! ### The order of the turns -/

/-- A request that is followed by no other. -/
def PartRequest.Plain : PartRequest → Prop
  | .raise _ none => True
  | .raise _ (some _) => False
  | .condRaise _ => True
  | .condClear _ => True
  | .overrun _ => False

theorem PartRequest.Plain.follows {q : PartRequest} (h : q.Plain) (s : State) : (s.takeOne q).2 = [] := by
  match q, h with
  | .raise _ none, _ => rfl
  | .condRaise _, _ =>
    simp only [State.takeOne]
    split <;> rfl
  | .condClear _, _ => rfl

theorem foldl_takeOne_eq_takeTurns (s : State) (qs : List PartRequest) :
    qs.foldl (fun s r => (s.takeOne r).1) s = s.takeTurns (qs.map .request) := by
  rw [State.takeTurns, List.foldl_map]
  rfl

/-- Plain requests are taken in some order. -/
theorem takeAll_plain {f : Nat} {rs : List PartRequest} (s : State) (hf : rs.length ≤ f)
    (h : ∀ r ∈ rs, r.Plain) :
    ∃ (qs : List PartRequest) (k : Nat), qs.Perm rs ∧
      takeAll f rs s = (s.takeTurns (qs.map .request)).withFreeCount k := by
  obtain ⟨qs, k, hp, e⟩ := takeAll_order f rs s hf fun r hr x => (h r hr).follows x
  exact ⟨qs, k, hp, by rw [e, foldl_takeOne_eq_takeTurns]⟩

/-- One turn of the requests takes one of them. -/
theorem takeAll_turn (f : Nat) (rs : List PartRequest) (s : State) (h : rs ≠ []) :
    ∃ (i : Nat) (hi : i < rs.length) (k : Nat), takeAll (f + 1) rs s =
      takeAll f (rs.eraseIdx i ++ (s.takeOne rs[i]).2) ((s.takeOne rs[i]).1.withFreeCount k) := by
  match rs, h with
  | [r], _ => exact ⟨0, Nat.one_pos, (s.takeOne r).1.freeCount, rfl⟩
  | r :: r' :: rest, _ =>
    have hc : (s.choose (r :: r' :: rest).length).1 < (r :: r' :: rest).length := Nat.mod_lt _ (by simp)
    refine ⟨_, hc, s.freeCount + 1, ?_⟩
    have hg : (r :: r' :: rest).getD (s.choose (r :: r' :: rest).length).1 r =
        (r :: r' :: rest)[(s.choose (r :: r' :: rest).length).1] := by
      simp only [List.getD, List.getElem?_eq_getElem hc, Option.getD_some]
    have hfollow : ∀ q, ((s.withFreeCount (s.freeCount + 1)).takeOne q).2 = (s.takeOne q).2 := by
      intro q
      match q with
      | .raise _ none => rfl
      | .raise _ (some _) => rfl
      | .condRaise _ =>
        simp only [State.takeOne, show (s.withFreeCount (s.freeCount + 1)).msg = s.msg from rfl]
        split <;> rfl
      | .condClear _ => rfl
      | .overrun _ => rfl
    rw [← State.takeOne_withFreeCount, ← hfollow]
    simp only [takeAll, hg]
    rfl

/-- The turns of an overrun: the raise of `q`, later the clear of its code, and `others` around them. -/
def OverrunOrder (q : RaiseRequest) (others ts : List OverrunTurn) : Prop :=
  ∃ as bs cs, (as ++ bs ++ cs).Perm others ∧
    ts = as ++ .request (.raise q none) :: (bs ++ .request (.condClear q.code) :: cs)

theorem OverrunOrder.cons {q : RaiseRequest} {others ts : List OverrunTurn} (h : OverrunOrder q others ts)
    (t : OverrunTurn) : OverrunOrder q (t :: others) (t :: ts) := by
  obtain ⟨as, bs, cs, hp, rfl⟩ := h
  exact ⟨t :: as, bs, cs, List.Perm.cons t hp, rfl⟩

theorem OverrunOrder.perm {q : RaiseRequest} {others others' ts : List OverrunTurn} (h : OverrunOrder q others ts)
    (hp : others.Perm others') : OverrunOrder q others' ts := by
  obtain ⟨as, bs, cs, h', rfl⟩ := h
  exact ⟨as, bs, cs, h'.trans hp, rfl⟩

/-- The raise of an overrun is taken at some turn, and its clear at a later one (R137). -/
theorem takeAll_overrun (q : RaiseRequest) (f : Nat) : ∀ (rs others : List PartRequest) (s : State),
    rs.Perm (.overrun q :: others) → (∀ r ∈ others, r.Plain) → rs.length < f →
    ∃ (ts : List OverrunTurn) (k : Nat), OverrunOrder q (others.map .request) ts ∧
      takeAll f rs s = (s.takeTurns ts).withFreeCount k := by
  induction f with
  | zero => intro rs others s _ _ hf; exact absurd hf (Nat.not_lt_zero _)
  | succ f ih =>
    intro rs others s hperm hplain hf
    have hne : rs ≠ [] := fun e => by simpa [e] using hperm.length_eq
    obtain ⟨i, hi, k, e⟩ := takeAll_turn f rs s hne
    have herase := (List.getElem_cons_eraseIdx_perm hi).trans hperm
    have hlen : (rs.eraseIdx i).length < f := by
      rw [List.length_eraseIdx_of_lt hi]
      omega
    rw [e]
    rcases List.mem_cons.1 (hperm.mem_iff.1 (List.getElem_mem hi)) with hq | hq
    · rw [hq] at herase ⊢
      obtain ⟨qs, k', hqs, e'⟩ := takeAll_plain (f := f) (rs := rs.eraseIdx i ++ [.condClear q.code])
        ((s.takeOne (.overrun q)).1.withFreeCount k) (by simpa using hlen)
        (fun r hr => (List.mem_append.1 hr).elim
          (fun hr => hplain r ((List.perm_cons _).1 herase |>.mem_iff.1 hr))
          fun hr => by rw [List.mem_singleton.1 hr]; trivial)
      obtain ⟨bs, cs, rfl⟩ := List.append_of_mem (hqs.mem_iff.2 (List.mem_append_right _ List.mem_cons_self))
      have hbc : (bs ++ cs).Perm others :=
        ((List.perm_cons _).1 (List.perm_middle.symm.trans (hqs.trans (List.perm_append_singleton _ _)))).trans
          ((List.perm_cons _).1 herase)
      refine ⟨_, k', ⟨[], bs.map .request, cs.map .request, ?_, rfl⟩, e'.trans ?_⟩
      · simpa using hbc.map OverrunTurn.request
      · rw [State.takeTurns_withFreeCount, List.map_append]
        rfl
    · obtain ⟨l1, l2, rfl⟩ := List.append_of_mem hq
      have hrest : (rs.eraseIdx i).Perm (.overrun q :: (l1 ++ l2)) :=
        (List.perm_cons _).1 (herase.trans ((List.perm_middle.cons _).trans (List.Perm.swap _ _ _)))
      have hplain' : ∀ r ∈ l1 ++ l2, r.Plain := fun r hr =>
        hplain r (List.perm_middle.mem_iff.2 (List.mem_cons_of_mem _ hr))
      obtain ⟨ts, k', horder, e'⟩ := ih (rs.eraseIdx i) (l1 ++ l2)
        ((s.takeOne rs[i]).1.withFreeCount k) hrest hplain' hlen
      refine ⟨.request rs[i] :: ts, k', (horder.cons _).perm ?_, ?_⟩
      · simpa using (List.perm_middle.map OverrunTurn.request).symm
      · rw [(hplain _ hq).follows, List.append_nil, e', State.takeTurns_withFreeCount]
        rfl

theorem divideRequests_state (rs : List PartRequest) :
    ∀ s : State, ∃ k, (divideRequests rs s).1 = s.withFreeCount k := by
  induction rs with
  | nil => exact fun s => ⟨s.freeCount, rfl⟩
  | cons r rest ih =>
    intro s
    obtain ⟨k, e⟩ := ih (s.choose 2).2
    refine ⟨k, ?_⟩
    simp only [divideRequests]
    split <;> exact e

/-- Plain requests and one more: it is taken at some turn. -/
theorem takeRequests_with (s : State) (rs : List PartRequest) (q : PartRequest) (hplain : ∀ r ∈ rs, r.Plain)
    (hq : q.Plain) :
    ∃ (as bs : List PartRequest) (k : Nat), (as ++ bs).Perm rs ∧ s.takeRequests (rs ++ [q]) =
      (s.takeTurns (as.map .request ++ .request q :: bs.map .request)).withFreeCount k := by
  obtain ⟨qs, k, hp, e⟩ := takeAll_plain (f := 2 * (rs ++ [q]).length) (rs := rs ++ [q]) s (by omega)
    (fun r hr => (List.mem_append.1 hr).elim (hplain r) fun hr => by rwa [List.mem_singleton.1 hr])
  obtain ⟨as, bs, rfl⟩ := List.append_of_mem (hp.mem_iff.2 (List.mem_append_right _ List.mem_cons_self))
  have hab := (List.perm_cons _).1 (List.perm_middle.symm.trans (hp.trans (List.perm_append_singleton _ _)))
  refine ⟨as, bs, k, hab, ?_⟩
  rw [List.map_append] at e
  exact e

/-- The requests of an overrun with the press between its raise and its clear (R137, log 25). -/
theorem takeAround_press (s : State) (rs : List PartRequest) (q : RaiseRequest) (hplain : ∀ r ∈ rs, r.Plain) :
    ∃ (ts : List OverrunTurn) (k : Nat), OverrunOrder q (.press :: rs.map .request) ts ∧
      s.takeAround rs (.raise q none) State.press (.condClear q.code) = (s.takeTurns ts).withFreeCount k := by
  have hparts := divideRequests_perm rs s
  obtain ⟨k0, hd⟩ := divideRequests_state rs s
  have hin : ∀ r, r ∈ (divideRequests rs s).2.1 ∨ r ∈ (divideRequests rs s).2.2 → r.Plain := fun r hr =>
    hplain r (hparts.mem_iff.1 (List.mem_append.2 hr))
  simp only [State.takeAround, hd]
  obtain ⟨as, bs, k1, hab, e1⟩ := takeRequests_with (s.withFreeCount k0) _ (.raise q none)
    (fun r hr => hin r (Or.inl hr)) trivial
  rw [State.takeTurns_withFreeCount] at e1
  rw [e1, State.press_withFreeCount, State.press_withFreeCount]
  obtain ⟨cs, ds, k2, hcd, e2⟩ := takeRequests_with
    (((s.takeTurns (as.map .request ++ .request (.raise q none) :: bs.map .request)).press.withFreeCount
      k0).withFreeCount k1)
    _ (.condClear q.code) (fun r hr => hin r (Or.inr hr)) trivial
  rw [State.takeTurns_withFreeCount, State.takeTurns_withFreeCount] at e2
  refine ⟨_, k2, ⟨as.map .request, bs.map .request ++ .press :: cs.map .request, ds.map .request, ?_, rfl⟩, ?_⟩
  · have hall : ((as ++ bs) ++ (cs ++ ds)).Perm rs := (hab.append hcd).trans hparts
    have hmap := hall.map OverrunTurn.request
    simp only [List.map_append, List.append_assoc, List.cons_append] at hmap ⊢
    rw [← List.append_assoc]
    refine List.perm_middle.trans (List.Perm.cons _ ?_)
    rw [List.append_assoc]
    exact hmap
  · rw [e2]
    simp only [State.takeTurns_append, State.takeTurns_cons]
    rfl

/-- What an overrun does with the requests of the records: each is taken at a turn of its own, and a press that is due
may be. -/
theorem overrunMessages_turns (e : Event) (hplain : ∀ r ∈ e.2, r.Plain) :
    ∃ (others ts : List OverrunTurn) (k : Nat), OverrunOrder overrunRaise others ts ∧
      (others = e.2.map .request ∨ e.1.pressDue = true ∧ others = .press :: e.2.map .request) ∧
      overrunMessages e = (e.1.takeTurns ts).withFreeCount k := by
  have hfinish : ∀ x : State, ∃ (ts : List OverrunTurn) (k : Nat), OverrunOrder overrunRaise (e.2.map .request) ts ∧
      Event.finish (x, e.2 ++ [.overrun overrunRaise]) = (x.takeTurns ts).withFreeCount k := fun x =>
    takeAll_overrun overrunRaise _ _ e.2 x (List.perm_append_singleton _ _) hplain
      (by rw [List.length_append, List.length_singleton]; omega)
  by_cases hdue : e.1.pressDue = true
  · by_cases hc : (e.1.choose 2).1 = 1
    · obtain ⟨ts, k, horder, eq⟩ := takeAround_press (e.1.choose 2).2 e.2 overrunRaise hplain
      refine ⟨_, ts, k, horder, Or.inr ⟨hdue, rfl⟩, ?_⟩
      have h : overrunMessages e = _ := (if_pos hdue).trans (if_pos hc)
      rw [h, eq, State.choose, State.takeTurns_withFreeCount]
      rfl
    · obtain ⟨ts, k, horder, eq⟩ := hfinish (e.1.choose 2).2
      refine ⟨_, ts, k, horder, Or.inl rfl, ?_⟩
      have h : overrunMessages e = _ := (if_pos hdue).trans (if_neg hc)
      rw [h, eq, State.choose, State.takeTurns_withFreeCount]
      rfl
  · obtain ⟨ts, k, horder, eq⟩ := hfinish e.1
    exact ⟨_, ts, k, horder, Or.inl rfl, (if_neg hdue).trans eq⟩

end Sys2Proof.Machine
end

section
/-! PROOFS. What RAISE, CLEAR and ACK do to the entries of a list, their places and head-since times left out. -/

namespace Sys2Proof.Machine

/-! ### Entries without their places -/

/-- An entry with its ordinal and its head-since time left out. -/
def Entry.body (e : Entry) : Entry := { e with ordinal := 0, headSince := 0#32 }

@[simp] theorem Entry.body_code (e : Entry) : e.body.code = e.code := rfl

@[simp] theorem Entry.body_state (e : Entry) : e.body.state = e.state := rfl

theorem findEntry_mem {c : Nat} {es : List Entry} {e : Entry} (h : findEntry c es = some e) : e ∈ es ∧ e.code = c :=
  ⟨List.mem_of_find?_eq_some h, by simpa using List.find?_some h⟩

theorem findEntry_none_iff (c : Nat) (es : List Entry) : findEntry c es = none ↔ ∀ e ∈ es, e.code ≠ c := by
  simp [findEntry]

theorem map_body_markHead (now : Time) (before es : List Entry) :
    (markHead now before es).map Entry.body = es.map Entry.body := by
  rcases markHead_cases now before es with h | ⟨x, t, rfl, h⟩ <;> rw [h]
  rfl

theorem map_body_renumbered (es : List Entry) : (renumbered es).map Entry.body = es.map Entry.body := by
  rw [renumbered, List.map_map]
  rfl

/-- The entries of the unit, each without its place. -/
def MessageUnit.bodies (m : MessageUnit) : List Entry := m.entries.map Entry.body

theorem MessageUnit.bodies_withList (m : MessageUnit) (now : Time) (es : List Entry) :
    (m.withList now es).bodies = es.map Entry.body := map_body_markHead now m.entries es

theorem MessageUnit.bodies_roomForOrdinal (m : MessageUnit) : m.roomForOrdinal.bodies = m.bodies := by
  unfold MessageUnit.roomForOrdinal
  split
  · exact map_body_renumbered m.entries
  · rfl

theorem MessageUnit.length_roomForOrdinal (m : MessageUnit) : m.roomForOrdinal.entries.length = m.entries.length := by
  simpa [MessageUnit.bodies] using congrArg List.length m.bodies_roomForOrdinal

theorem mem_map_body_placeEntry (b e : Entry) (es : List Entry) :
    b ∈ (placeEntry e es).map Entry.body ↔ b = e.body ∨ b ∈ es.map Entry.body := by
  rw [((placeEntry_perm e es).map Entry.body).mem_iff, List.map_cons, List.mem_cons]

theorem mem_map_body_dropEntry (b : Entry) (c : Nat) (es : List Entry) :
    b ∈ (dropEntry c es).map Entry.body ↔ b ∈ es.map Entry.body ∧ b.code ≠ c := by
  simp only [dropEntry, List.mem_map, List.mem_filter, bne_iff_ne]
  constructor
  · rintro ⟨e, ⟨he, hc⟩, rfl⟩
    exact ⟨⟨e, he, rfl⟩, hc⟩
  · rintro ⟨⟨e, he, rfl⟩, hc⟩
    exact ⟨e, ⟨he, hc⟩, rfl⟩

theorem mem_map_body_replaceEntry (b e : Entry) (es : List Entry) :
    b ∈ (replaceEntry e es).map Entry.body ↔ b = e.body ∨ (b ∈ es.map Entry.body ∧ b.code ≠ e.code) := by
  rw [replaceEntry, mem_map_body_placeEntry, mem_map_body_dropEntry]

theorem length_dropEntry_lt {c : Nat} {es : List Entry} {e : Entry} (h : findEntry c es = some e) :
    (dropEntry c es).length < es.length := by
  obtain ⟨hmem, hcode⟩ := findEntry_mem h
  exact List.length_filter_lt_length_iff_exists.2 ⟨e, hmem, by simp [hcode]⟩

theorem length_replaceEntry_le {c : Nat} {es : List Entry} {e : Entry} (h : findEntry c es = some e) (x : Entry)
    (hx : x.code = c) : (replaceEntry x es).length ≤ es.length := by
  rw [replaceEntry, length_placeEntry, hx]
  exact length_dropEntry_lt h

/-! ### RAISE (R133, R134) -/

section
variable (m : MessageUnit) (now : Time) (r : RaiseRequest)

theorem MessageUnit.raise_present {e : Entry} (h : findEntry r.code m.entries = some e) :
    m.raise now r = (m.withList now (replaceEntry (raiseAgain r e) m.entries), .raisedAgain) := by
  rw [MessageUnit.raise, h]

theorem MessageUnit.raise_room (h : findEntry r.code m.entries = none) (hroom : m.entries.length < 32) :
    m.raise now r = (m.roomForOrdinal.createIn now r m.roomForOrdinal.entries, .created) := by
  simp only [MessageUnit.raise, h]
  exact if_pos hroom

theorem MessageUnit.mem_bodies_raise_present {e : Entry} (h : findEntry r.code m.entries = some e) (b : Entry) :
    b ∈ (m.raise now r).1.bodies ↔ b = (raiseAgain r e).body ∨ (b ∈ m.bodies ∧ b.code ≠ r.code) := by
  have hc : (raiseAgain r e).code = r.code := (findEntry_mem h).2
  rw [MessageUnit.raise_present m now r h, MessageUnit.bodies_withList, mem_map_body_replaceEntry, hc]
  rfl

theorem MessageUnit.mem_bodies_createIn (base : List Entry) (b : Entry) :
    b ∈ (m.createIn now r base).bodies ↔ b = (newEntry r now 0).body ∨ b ∈ base.map Entry.body := by
  have h : (m.createIn now r base).bodies = (placeEntry (newEntry r now m.nextOrdinal) base).map Entry.body :=
    map_body_markHead now m.entries _
  rw [h, mem_map_body_placeEntry]
  rfl

theorem MessageUnit.mem_bodies_raise_room (h : findEntry r.code m.entries = none) (hroom : m.entries.length < 32)
    (b : Entry) : b ∈ (m.raise now r).1.bodies ↔ b = (newEntry r now 0).body ∨ b ∈ m.bodies := by
  rw [MessageUnit.raise_room m now r h hroom, MessageUnit.mem_bodies_createIn]
  exact or_congr_right (by rw [← m.bodies_roomForOrdinal]; rfl)

theorem MessageUnit.mem_bodies_raise_absent (h : findEntry r.code m.entries = none) {b : Entry}
    (hb : b ∈ (m.raise now r).1.bodies) : b = (newEntry r now 0).body ∨ b ∈ m.bodies := by
  simp only [MessageUnit.raise, h] at hb
  have hbase : ∀ base : List Entry, (∀ e ∈ base, e ∈ m.roomForOrdinal.entries) →
      b ∈ (m.roomForOrdinal.createIn now r base).bodies → b = (newEntry r now 0).body ∨ b ∈ m.bodies := by
    intro base hsub hin
    rcases (MessageUnit.mem_bodies_createIn m.roomForOrdinal now r base b).1 hin with hnew | hold
    · exact Or.inl hnew
    · right
      rw [← m.bodies_roomForOrdinal]
      exact List.map_subset Entry.body hsub hold
  split at hb
  · exact hbase _ (fun _ he => he) hb
  · split at hb
    · exact hbase _ (fun _ he => List.mem_of_mem_dropLast he) hb
    · exact Or.inr hb

/-- A RAISE of another code brings no entry of this one. -/
theorem MessageUnit.of_mem_bodies_raise {b : Entry} (hb : b ∈ (m.raise now r).1.bodies) (hne : b.code ≠ r.code) :
    b ∈ m.bodies := by
  cases h : findEntry r.code m.entries with
  | some e =>
    rcases (MessageUnit.mem_bodies_raise_present m now r h b).1 hb with rfl | hb
    · exact absurd (findEntry_mem h).2 hne
    · exact hb.1
  | none =>
    rcases MessageUnit.mem_bodies_raise_absent m now r h hb with rfl | hb
    · exact absurd rfl hne
    · exact hb

/-- In a list with room a RAISE of another code takes no entry of this one away. -/
theorem MessageUnit.mem_bodies_raise {b : Entry} (hb : b ∈ m.bodies) (hne : b.code ≠ r.code)
    (hroom : m.entries.length < 32) : b ∈ (m.raise now r).1.bodies := by
  cases h : findEntry r.code m.entries with
  | some e => exact (MessageUnit.mem_bodies_raise_present m now r h b).2 (Or.inr ⟨hb, hne⟩)
  | none => exact (MessageUnit.mem_bodies_raise_room m now r h hroom b).2 (Or.inr hb)

/-- In a list with room a RAISE adds one entry at most, and is neither an eviction nor dropped. -/
theorem MessageUnit.raise_with_room (hroom : m.entries.length < 32) :
    (m.raise now r).1.entries.length ≤ m.entries.length + 1 ∧ (m.raise now r).2 ≠ .evicted ∧
      (m.raise now r).2 ≠ .dropped := by
  cases h : findEntry r.code m.entries with
  | some e =>
    rw [MessageUnit.raise_present m now r h]
    refine ⟨?_, nofun, nofun⟩
    rw [show (m.withList now (replaceEntry (raiseAgain r e) m.entries), RaiseOutcome.raisedAgain).1.entries =
      markHead now m.entries (replaceEntry (raiseAgain r e) m.entries) from rfl, length_markHead]
    exact (length_replaceEntry_le h (raiseAgain r e) (findEntry_mem h).2).trans (Nat.le_succ _)
  | none =>
    rw [MessageUnit.raise_room m now r h hroom]
    refine ⟨?_, nofun, nofun⟩
    rw [show (m.roomForOrdinal.createIn now r m.roomForOrdinal.entries, RaiseOutcome.created).1.entries =
      markHead now m.roomForOrdinal.entries (placeEntry (newEntry r now m.roomForOrdinal.nextOrdinal)
        m.roomForOrdinal.entries) from rfl, length_markHead, length_placeEntry, m.length_roomForOrdinal]

/-- After a RAISE all the entries of its code are alike in state. -/
theorem MessageUnit.raise_alike : ∃ st, ∀ b ∈ (m.raise now r).1.bodies, b.code = r.code → b.state = st := by
  cases h : findEntry r.code m.entries with
  | some e =>
    refine ⟨(raiseAgain r e).state, fun b hb hc => ?_⟩
    rcases (MessageUnit.mem_bodies_raise_present m now r h b).1 hb with rfl | hb
    · rfl
    · exact absurd hc hb.2
  | none =>
    refine ⟨(newEntry r now 0).state, fun b hb hc => ?_⟩
    rcases MessageUnit.mem_bodies_raise_absent m now r h hb with rfl | hb
    · rfl
    · obtain ⟨e, he, rfl⟩ := List.mem_map.1 hb
      exact absurd hc ((findEntry_none_iff _ _).1 h e he)

end

/-! ### CLEAR and ACK (R135, R136) -/

section
variable (m : MessageUnit) (now : Time) (c : Nat)

theorem MessageUnit.clear_absent (h : findEntry c m.entries = none) : m.clear now c = (m, .absent) := by
  rw [MessageUnit.clear, h]

theorem MessageUnit.clear_unacked {e : Entry} (h : findEntry c m.entries = some e) (hs : e.state = .unacked) :
    m.clear now c = (m.withList now (replaceEntry { e with state := .clearedUnacked } m.entries), .found) := by
  simp only [MessageUnit.clear, h, hs]

theorem MessageUnit.clear_acked {e : Entry} (h : findEntry c m.entries = some e) (hs : e.state = .acked) :
    m.clear now c = (m.removeEntry now e, .found) := by
  simp only [MessageUnit.clear, h, hs]

theorem MessageUnit.clear_clearedUnacked {e : Entry} (h : findEntry c m.entries = some e)
    (hs : e.state = .clearedUnacked) : m.clear now c = (m, .found) := by
  simp only [MessageUnit.clear, h, hs]

theorem MessageUnit.mem_bodies_removeEntry {e : Entry} (b : Entry) :
    b ∈ (m.removeEntry now e).bodies ↔ b ∈ m.bodies ∧ b.code ≠ e.code := by
  have h : (m.removeEntry now e).bodies = (dropEntry e.code m.entries).map Entry.body :=
    map_body_markHead now m.entries _
  rw [h, mem_map_body_dropEntry]
  rfl

/-- A CLEAR leaves the entries of another code. -/
theorem MessageUnit.mem_bodies_clear {b : Entry} (hne : b.code ≠ c) :
    b ∈ (m.clear now c).1.bodies ↔ b ∈ m.bodies := by
  cases h : findEntry c m.entries with
  | none => rw [MessageUnit.clear_absent m now c h]
  | some e =>
    have hc := (findEntry_mem h).2
    cases hs : e.state with
    | unacked =>
      rw [MessageUnit.clear_unacked m now c h hs, MessageUnit.bodies_withList, mem_map_body_replaceEntry]
      constructor
      · rintro (rfl | hb)
        · exact absurd hc hne
        · exact hb.1
      · exact fun hb => Or.inr ⟨hb, by rwa [show ({ e with state := .clearedUnacked } : Entry).code = c from hc]⟩
    | acked =>
      rw [MessageUnit.clear_acked m now c h hs, MessageUnit.mem_bodies_removeEntry, hc]
      exact and_iff_left hne
    | clearedUnacked => rw [MessageUnit.clear_clearedUnacked m now c h hs]

theorem MessageUnit.length_clear_le : (m.clear now c).1.entries.length ≤ m.entries.length := by
  cases h : findEntry c m.entries with
  | none => rw [MessageUnit.clear_absent m now c h]
  | some e =>
    have hc := (findEntry_mem h).2
    cases hs : e.state with
    | unacked =>
      rw [MessageUnit.clear_unacked m now c h hs]
      exact (length_markHead now m.entries _).le.trans (length_replaceEntry_le h _ hc)
    | acked =>
      rw [MessageUnit.clear_acked m now c h hs]
      exact (length_markHead now m.entries _).le.trans (List.length_filter_le _ _)
    | clearedUnacked => rw [MessageUnit.clear_clearedUnacked m now c h hs]

/-- Where the entries of a code are alike, a CLEAR leaves those that remain CLEARED_UNACKED. -/
theorem MessageUnit.clear_cleared {st : EntryState} (hall : ∀ b ∈ m.bodies, b.code = c → b.state = st) :
    ∀ b ∈ (m.clear now c).1.bodies, b.code = c → b.state = .clearedUnacked := by
  intro b hb hbc
  cases h : findEntry c m.entries with
  | none =>
    rw [MessageUnit.clear_absent m now c h] at hb
    obtain ⟨e, he, rfl⟩ := List.mem_map.1 hb
    exact absurd hbc ((findEntry_none_iff _ _).1 h e he)
  | some e =>
    obtain ⟨he, hc⟩ := findEntry_mem h
    cases hs : e.state with
    | unacked =>
      rw [MessageUnit.clear_unacked m now c h hs, MessageUnit.bodies_withList, mem_map_body_replaceEntry] at hb
      rcases hb with rfl | hb
      · rfl
      · exact absurd (hbc.trans hc.symm) hb.2
    | acked =>
      rw [MessageUnit.clear_acked m now c h hs, MessageUnit.mem_bodies_removeEntry] at hb
      exact absurd (hbc.trans hc.symm) hb.2
    | clearedUnacked =>
      rw [MessageUnit.clear_clearedUnacked m now c h hs] at hb
      have hst : e.state = st := hall e.body (List.mem_map_of_mem he) hc
      rw [hall b hb hbc, ← hst, hs]

/-- Where the entries of a code are alike, they are after an ACK of any; CLEARED_UNACKED they stay. -/
theorem MessageUnit.ack_alike {k : Nat} {st : EntryState} (hall : ∀ b ∈ m.bodies, b.code = k → b.state = st) :
    ∃ st', (st = .clearedUnacked → st' = .clearedUnacked) ∧
      ∀ b ∈ (m.ack now c).1.bodies, b.code = k → b.state = st' := by
  have hsame : ∀ m' : MessageUnit, (∀ b ∈ m'.bodies, b ∈ m.bodies) → ∃ st', (st = .clearedUnacked →
      st' = .clearedUnacked) ∧ ∀ b ∈ m'.bodies, b.code = k → b.state = st' :=
    fun m' hsub => ⟨st, id, fun b hb => hall b (hsub b hb)⟩
  have hremove : ∀ e, ∀ b ∈ (m.removeEntry now e).bodies, b ∈ m.bodies := fun e b hb =>
    ((MessageUnit.mem_bodies_removeEntry m now b).1 hb).1
  unfold MessageUnit.ack
  cases h : findEntry c m.entries with
  | none => exact hsame _ fun _ hb => hb
  | some e =>
    obtain ⟨he, hc⟩ := findEntry_mem h
    dsimp only
    cases hs : e.state with
    | acked => exact hsame _ fun _ hb => hb
    | clearedUnacked =>
      dsimp only
      split <;> exact hsame _ (hremove e)
    | unacked =>
      dsimp only
      split
      · exact hsame _ (hremove e)
      · by_cases hk : k = c
        · refine ⟨.acked, fun hst => ?_, fun b hb hbk => ?_⟩
          · have := hall e.body (List.mem_map_of_mem he) (hc.trans hk.symm)
            rw [Entry.body_state, hs, hst] at this
            exact absurd this nofun
          · rw [MessageUnit.bodies_withList, mem_map_body_replaceEntry] at hb
            rcases hb with rfl | hb
            · rfl
            · exact absurd (hbk.trans (hk.trans hc.symm)) hb.2
        · refine ⟨st, id, fun b hb hbk => ?_⟩
          rw [MessageUnit.bodies_withList, mem_map_body_replaceEntry] at hb
          rcases hb with rfl | hb
          · exact absurd (hbk.symm.trans hc) hk
          · exact hall b hb.1 hbk

end

end Sys2Proof.Machine
end

section
/-! PROOFS. What the turns of an overrun leave alone, and what they do to the entries of one code. -/

namespace Sys2Proof.Machine

/-! ### One plain request -/

/-- The code a request is about. -/
def PartRequest.code : PartRequest → Nat
  | .raise r _ => r.code
  | .condRaise r => r.code
  | .condClear c => c
  | .overrun r => r.code

/-- A request that may add an entry. -/
def PartRequest.adds : PartRequest → Bool
  | .raise _ _ => true
  | .condRaise _ => true
  | .condClear _ => false
  | .overrun _ => true

/-- A plain request is a RAISE of its code, a CLEAR of it, or nothing. -/
theorem PartRequest.Plain.takeOne {q : PartRequest} (h : q.Plain) (s : State) :
    (∃ r : RaiseRequest, r.code = q.code ∧ q.adds = true ∧ (s.takeOne q).1 = (s.raise r).1) ∨
      (s.takeOne q).1 = s ∨ (s.takeOne q).1 = s.condClear q.code := by
  match q, h with
  | .raise r none, _ => exact Or.inl ⟨r, rfl, rfl, rfl⟩
  | .condRaise r, _ =>
    simp only [State.takeOne]
    split
    · exact Or.inl ⟨r, rfl, rfl, rfl⟩
    · exact Or.inr (Or.inl rfl)
  | .condClear c, _ => exact Or.inr (Or.inr rfl)

theorem State.takeOne_condRaise_present (s : State) (r : RaiseRequest) {e : Entry}
    (h : findEntry r.code s.msg.entries = some e) : (s.takeOne (.condRaise r)).1 = s := by
  rw [State.takeOne, h]
  rfl

theorem State.takeOne_condRaise_absent (s : State) (r : RaiseRequest)
    (h : findEntry r.code s.msg.entries = none) : (s.takeOne (.condRaise r)).1 = (s.raise r).1 := by
  rw [State.takeOne, h]
  rfl

/-! ### What stays -/

theorem MessageUnit.SameBeside.debouncer {m m' : MessageUnit} (h : m.SameBeside m') : m'.debouncer = m.debouncer := by
  unfold MessageUnit.SameBeside at h
  rw [h]

/-- A plain request leaves the kind states, the debouncer and, but for LIST_OVERFLOW, the notices. -/
theorem PartRequest.Plain.takeOne_leaves {q : PartRequest} (h : q.Plain) (s : State) :
    (s.takeOne q).1.aspect = s.aspect ∧ (s.takeOne q).1.msg.debouncer = s.msg.debouncer ∧
      (s.takeOne q).1.status.notices =
        { s.status.notices with listOverflow := (s.takeOne q).1.status.notices.listOverflow } := by
  rcases h.takeOne s with ⟨r, -, -, e⟩ | e | e <;> rw [e]
  · refine ⟨by rw [State.raise_frame], ?_, ?_⟩
    · rw [State.raise_msg]
      exact (s.msg.raise_frame s.now r).debouncer
    · rw [State.raise_status]
      split <;> rfl
  · exact ⟨rfl, rfl, rfl⟩
  · exact ⟨rfl, (s.msg.clear_frame s.now q.code).debouncer, rfl⟩

/-- An acknowledged system's records lose their awaiting flag alone (R113). -/
theorem systemAcknowledged_aspectKind (s : State) (sys n : Nat) :
    ((s.systemAcknowledged sys).aspectKind n).shown = (s.aspectKind n).shown ∧
      ((s.systemAcknowledged sys).aspectKind n).upgrade = (s.aspectKind n).upgrade := by
  have hkinds : (s.systemAcknowledged sys).aspect.kinds = s.aspect.kinds.mapIdx fun n k =>
      if (s.cfg.entry n).kind == .aspect && (s.cfg.entry n).system == sys then { k with awaiting := false } else k := rfl
  rw [State.aspectKind, State.aspectKind, hkinds, List.getD_eq_getElem?_getD, List.getD_eq_getElem?_getD,
    List.getElem?_mapIdx]
  cases s.aspect.kinds[n]? with
  | none => exact ⟨rfl, rfl⟩
  | some k =>
    simp only [Option.map_some, Option.getD_some]
    split <;> exact ⟨rfl, rfl⟩

/-- What every turn of an overrun leaves: the shown aspects, the pending upgrades and, but for LIST_OVERFLOW, the
notices. -/
structure State.Alongside (s t : State) : Prop where
  kinds : ∀ n, (t.aspectKind n).shown = (s.aspectKind n).shown ∧ (t.aspectKind n).upgrade = (s.aspectKind n).upgrade
  notices : t.status.notices = { s.status.notices with listOverflow := t.status.notices.listOverflow }

theorem State.Alongside.refl (s : State) : s.Alongside s := ⟨fun _ => ⟨rfl, rfl⟩, rfl⟩

theorem State.Alongside.trans {a b c : State} (h1 : a.Alongside b) (h2 : b.Alongside c) : a.Alongside c :=
  ⟨fun n => ⟨(h2.kinds n).1.trans (h1.kinds n).1, (h2.kinds n).2.trans (h1.kinds n).2⟩,
    by rw [h2.notices, h1.notices]⟩

theorem State.acknowledge_alongside (s : State) (c : Nat) : s.Alongside (s.acknowledge c) := by
  unfold State.acknowledge
  dsimp only
  split
  · exact ⟨systemAcknowledged_aspectKind (s.withMsg (s.msg.ack s.now c).1) _, rfl⟩
  · exact ⟨fun _ => ⟨rfl, rfl⟩, rfl⟩
  · exact ⟨fun _ => ⟨rfl, rfl⟩, rfl⟩

theorem State.press_alongside (s : State) : s.Alongside s.press := by
  have hpressed : s.Alongside (s.withMsg { s.msg with debouncer := .pressed }) := ⟨fun _ => ⟨rfl, rfl⟩, rfl⟩
  by_cases hrun : s.ctl.part = .run
  · rw [s.press_run hrun]
    refine hpressed.trans ?_
    unfold State.judgePress
    split
    · exact ⟨fun _ => ⟨rfl, rfl⟩, rfl⟩
    · split
      · exact State.acknowledge_alongside _ _
      · exact ⟨fun _ => ⟨rfl, rfl⟩, rfl⟩
  · rw [s.press_out hrun]
    exact hpressed

/-- A turn of an overrun: the press, or a plain request. -/
def OverrunTurn.Plain (t : OverrunTurn) : Prop := t = .press ∨ ∃ q : PartRequest, t = .request q ∧ q.Plain

theorem OverrunTurn.Plain.alongside {t : OverrunTurn} (h : t.Plain) (s : State) : s.Alongside (s.takeTurn t) := by
  rcases h with rfl | ⟨q, rfl, hq⟩
  · exact s.press_alongside
  · obtain ⟨ha, -, hn⟩ := hq.takeOne_leaves s
    refine ⟨fun n => ?_, hn⟩
    rw [show (s.takeTurn (.request q)).aspectKind n = s.aspectKind n from
      congrArg (fun a : AspectUnit => a.kinds.getD n AspectKind.reset) ha]
    exact ⟨rfl, rfl⟩

theorem State.takeTurns_alongside {ts : List OverrunTurn} (h : ∀ t ∈ ts, t.Plain) (s : State) :
    s.Alongside (s.takeTurns ts) :=
  State.takeTurns_keep (fun t ht _ hx => hx.trans ((h t ht).alongside _)) (State.Alongside.refl s)

/-- Requests alone leave the kind states and the debouncer. -/
theorem State.takeTurns_quiet {ts : List OverrunTurn} (h : ∀ t ∈ ts, ∃ q : PartRequest, t = .request q ∧ q.Plain)
    (s : State) : (s.takeTurns ts).aspect = s.aspect ∧ (s.takeTurns ts).msg.debouncer = s.msg.debouncer := by
  refine State.takeTurns_keep (P := fun x => x.aspect = s.aspect ∧ x.msg.debouncer = s.msg.debouncer) ?_ ⟨rfl, rfl⟩
  intro t ht x hx
  obtain ⟨q, rfl, hq⟩ := h t ht
  obtain ⟨ha, hd, -⟩ := hq.takeOne_leaves x
  exact ⟨ha.trans hx.1, hd.trans hx.2⟩

/-- The turns of an overrun are its raise, its clear and the others. -/
theorem OverrunOrder.forall {q : RaiseRequest} {others ts : List OverrunTurn} (h : OverrunOrder q others ts)
    {P : OverrunTurn → Prop} (hraise : P (.request (.raise q none))) (hclear : P (.request (.condClear q.code)))
    (hothers : ∀ t ∈ others, P t) : ∀ t ∈ ts, P t := by
  obtain ⟨as, bs, cs, hp, rfl⟩ := h
  have hin : ∀ t, t ∈ as ++ bs ++ cs → P t := fun t ht => hothers t (hp.mem_iff.1 ht)
  simp only [List.mem_append, List.mem_cons] at hin ⊢
  rintro t (ht | rfl | ht | rfl | ht)
  · exact hin t (Or.inl (Or.inl ht))
  · exact hraise
  · exact hin t (Or.inl (Or.inr ht))
  · exact hclear
  · exact hin t (Or.inr ht)

/-! ### The entry 1125 (R137) -/

/-- A turn of an overrun beside its raise and clear: the press, or a plain request of another code than 1125. -/
def OverrunTurn.Other (t : OverrunTurn) : Prop :=
  t = .press ∨ ∃ q : PartRequest, t = .request q ∧ q.Plain ∧ q.code ≠ 1125

/-- The entries of code 1125 have this state. -/
def State.OverrunEntriesAre (s : State) (st : EntryState) : Prop := ∀ b ∈ s.msg.bodies, b.code = 1125 → b.state = st

theorem State.acknowledge_bodies (s : State) (c : Nat) :
    (s.acknowledge c).msg.bodies = (s.msg.ack s.now c).1.bodies := by
  have hlate : (s.msg.ack s.now c).2 = .late → (s.msg.ack s.now c).1 = s.msg := by
    unfold MessageUnit.ack
    split
    · exact fun _ => rfl
    · split
      · exact fun _ => rfl
      · split <;> exact nofun
      · split <;> exact nofun
  cases h : (s.msg.ack s.now c).2 with
  | late =>
    simp only [State.acknowledge, h, hlate h]
    rfl
  | system sys =>
    simp only [State.acknowledge, h]
    rfl
  | acknowledged =>
    simp only [State.acknowledge, h]
    rfl

theorem State.press_alike {s : State} {st : EntryState} (h : s.OverrunEntriesAre st) :
    ∃ st', (st = .clearedUnacked → st' = .clearedUnacked) ∧ s.press.OverrunEntriesAre st' := by
  by_cases hrun : s.ctl.part = .run
  · rw [s.press_run hrun]
    unfold State.judgePress
    split
    · exact ⟨st, id, h⟩
    · split
      · unfold State.OverrunEntriesAre
        rw [State.acknowledge_bodies]
        exact MessageUnit.ack_alike _ _ _ h
      · exact ⟨st, id, h⟩
  · rw [s.press_out hrun]
    exact ⟨st, id, h⟩

/-- A plain request brings no entry of another code. -/
theorem PartRequest.Plain.of_mem_bodies {q : PartRequest} (h : q.Plain) {s : State} {b : Entry}
    (hb : b ∈ (s.takeOne q).1.msg.bodies) (hne : b.code ≠ q.code) : b ∈ s.msg.bodies := by
  rcases h.takeOne s with ⟨r, hr, -, e⟩ | e | e <;> rw [e] at hb
  · rw [State.raise_msg] at hb
    exact MessageUnit.of_mem_bodies_raise s.msg s.now r hb (hr ▸ hne)
  · exact hb
  · exact (MessageUnit.mem_bodies_clear s.msg s.now q.code hne).1 hb

theorem OverrunTurn.Other.alike {t : OverrunTurn} (ht : t.Other) {s : State} {st : EntryState}
    (h : s.OverrunEntriesAre st) :
    ∃ st', (st = .clearedUnacked → st' = .clearedUnacked) ∧ (s.takeTurn t).OverrunEntriesAre st' := by
  rcases ht with rfl | ⟨q, rfl, hq, hne⟩
  · exact State.press_alike h
  · exact ⟨st, id, fun b hb hc => h b (hq.of_mem_bodies hb (hc ▸ hne.symm)) hc⟩

/-- While the other turns go by, the entries 1125 stay alike, and CLEARED_UNACKED where they are. -/
theorem State.takeTurns_alike {ts : List OverrunTurn} (hts : ∀ t ∈ ts, t.Other) {s : State} {st : EntryState}
    (h : s.OverrunEntriesAre st) :
    ∃ st', (st = .clearedUnacked → st' = .clearedUnacked) ∧ (s.takeTurns ts).OverrunEntriesAre st' := by
  induction ts generalizing s st with
  | nil => exact ⟨st, id, h⟩
  | cons t ts ih =>
    obtain ⟨st1, h1, halike⟩ := (hts t List.mem_cons_self).alike h
    obtain ⟨st2, h2, halike2⟩ := ih (fun u hu => hts u (List.mem_cons_of_mem _ hu)) halike
    exact ⟨st2, h2 ∘ h1, halike2⟩

/-- After an overrun an entry 1125 that is left is CLEARED_UNACKED (R137). -/
theorem OverrunOrder.cleared {others ts : List OverrunTurn} (h : OverrunOrder overrunRaise others ts)
    (hothers : ∀ t ∈ others, t.Other) (s : State) : (s.takeTurns ts).OverrunEntriesAre .clearedUnacked := by
  obtain ⟨as, bs, cs, hp, rfl⟩ := h
  have hin : ∀ t, t ∈ as ++ bs ++ cs → t.Other := fun t ht => hothers t (hp.mem_iff.1 ht)
  rw [State.takeTurns_append, State.takeTurns_cons, State.takeTurns_append, State.takeTurns_cons]
  obtain ⟨st, hraised⟩ : ∃ st,
      ((s.takeTurns as).takeTurn (.request (.raise overrunRaise none))).OverrunEntriesAre st := by
    unfold State.OverrunEntriesAre
    rw [show ((s.takeTurns as).takeTurn (.request (.raise overrunRaise none))).msg = _ from
      State.raise_msg _ overrunRaise]
    exact MessageUnit.raise_alike _ _ overrunRaise
  obtain ⟨st1, -, hbs⟩ := State.takeTurns_alike
    (fun t ht => hin t (List.mem_append_left _ (List.mem_append_right _ ht))) hraised
  have hclear : (((s.takeTurns as).takeTurn (.request (.raise overrunRaise none))).takeTurns bs |>.takeTurn
      (.request (.condClear overrunRaise.code))).OverrunEntriesAre .clearedUnacked :=
    MessageUnit.clear_cleared _ _ _ hbs
  obtain ⟨st2, h2, hcs⟩ := State.takeTurns_alike (fun t ht => hin t (List.mem_append_right _ ht)) hclear
  rwa [h2 rfl] at hcs

/-! ### A list with room (R134) -/

/-- In a list with room for it a plain request adds one entry at most, changes no status, and keeps the entries it is
not a RAISE or CLEAR of. -/
theorem PartRequest.Plain.takeOne_room {q : PartRequest} (h : q.Plain) {s : State} {k : Nat}
    (hroom : s.msg.entries.length + (k + if q.adds then 1 else 0) ≤ 32) :
    (s.takeOne q).1.msg.entries.length + k ≤ 32 ∧ (s.takeOne q).1.status = s.status ∧
      ∀ b ∈ s.msg.bodies, (b.code = q.code → ∃ r, q = .condRaise r) → b ∈ (s.takeOne q).1.msg.bodies := by
  by_cases hpresent : (∃ r, q = .condRaise r) ∧ ∃ e, findEntry q.code s.msg.entries = some e
  · obtain ⟨⟨r, rfl⟩, e, he⟩ := hpresent
    rw [s.takeOne_condRaise_present r he]
    exact ⟨by omega, rfl, fun b hb _ => hb⟩
  · have hother : ∀ b ∈ s.msg.bodies, (b.code = q.code → ∃ r, q = .condRaise r) → b.code ≠ q.code := by
      intro b hb hcond hcode
      obtain ⟨e, he, rfl⟩ := List.mem_map.1 hb
      cases hf : findEntry q.code s.msg.entries with
      | some x => exact hpresent ⟨hcond hcode, x, hf⟩
      | none => exact (findEntry_none_iff _ _).1 hf e he hcode
    rcases h.takeOne s with ⟨r, hr, hadds, e⟩ | e | e <;> rw [e]
    · rw [hadds, if_pos rfl] at hroom
      obtain ⟨hlen, hevicted, hdropped⟩ := s.msg.raise_with_room s.now r (by omega)
      rw [State.raise_msg, State.raise_status, if_neg (not_or.2 ⟨hevicted, hdropped⟩)]
      exact ⟨by omega, rfl, fun b hb hcond =>
        s.msg.mem_bodies_raise s.now r hb (hr ▸ hother b hb hcond) (by omega)⟩
    · exact ⟨by omega, rfl, fun b hb _ => hb⟩
    · have hlen := s.msg.length_clear_le s.now q.code
      refine ⟨?_, rfl, fun b hb hcond => (s.msg.mem_bodies_clear s.now q.code (hother b hb hcond)).2 hb⟩
      exact le_trans (Nat.add_le_add_right hlen k) (by omega)

/-- Plain requests in a list with room for them all. -/
theorem takeTurns_room {qs : List PartRequest} (h : ∀ q ∈ qs, q.Plain) {s : State} {k : Nat}
    (hroom : s.msg.entries.length + (k + qs.countP PartRequest.adds) ≤ 32) :
    (s.takeTurns (qs.map .request)).msg.entries.length + k ≤ 32 ∧
      (s.takeTurns (qs.map .request)).status = s.status ∧
      ∀ b ∈ s.msg.bodies, (∀ q ∈ qs, b.code = q.code → ∃ r, q = .condRaise r) →
        b ∈ (s.takeTurns (qs.map .request)).msg.bodies := by
  induction qs generalizing s with
  | nil => exact ⟨hroom, rfl, fun b hb _ => hb⟩
  | cons q qs ih =>
    rw [List.countP_cons, ← Nat.add_assoc k] at hroom
    obtain ⟨hlen, hstatus, hkeep⟩ := (h q List.mem_cons_self).takeOne_room hroom
    obtain ⟨hlen', hstatus', hkeep'⟩ := ih (fun x hx => h x (List.mem_cons_of_mem _ hx)) hlen
    exact ⟨hlen', hstatus'.trans hstatus, fun b hb hcond =>
      hkeep' b (hkeep b hb (hcond q List.mem_cons_self)) fun x hx => hcond x (List.mem_cons_of_mem _ hx)⟩

/-- Plain requests of other codes bring no entry of this one. -/
theorem takeTurns_of_mem_bodies {qs : List PartRequest} (h : ∀ q ∈ qs, q.Plain) {s : State} {b : Entry}
    (hb : b ∈ (s.takeTurns (qs.map .request)).msg.bodies) (hne : ∀ q ∈ qs, b.code ≠ q.code) : b ∈ s.msg.bodies := by
  induction qs generalizing s with
  | nil => exact hb
  | cons q qs ih =>
    exact (h q List.mem_cons_self).of_mem_bodies
      (ih (fun x hx => h x (List.mem_cons_of_mem _ hx)) hb fun x hx => hne x (List.mem_cons_of_mem _ hx))
      (hne q List.mem_cons_self)

/-- The entry a request raised in a list with room: raised again, or new where the code was absent before. -/
def RaisedEntry (s : State) (r : RaiseRequest) (b : Entry) : Prop :=
  b.code = r.code ∧ b.marker = r.marker ∧ b.state = raisedState b.needsAck ∧
    ((∀ x ∈ s.msg.entries, x.code ≠ r.code) →
      b.cls = r.cls ∧ b.needsAck = r.needsAck ∧ b.source = r.source ∧ b.raiseTime = s.ctl.ms ∧ b.count = 1)

theorem takeTurns_now {qs : List PartRequest} (s : State) : (s.takeTurns (qs.map .request)).now = s.now := by
  refine State.takeTurns_keep (P := fun x => x.now = s.now) ?_ rfl
  intro t ht x hx
  obtain ⟨q, -, rfl⟩ := List.mem_map.1 ht
  have hctl : (x.takeTurn (.request q)).ctl = x.ctl := (x.takeOne_only q).sameFrame.ctl
  rw [State.now, hctl]
  exact hx

/-- A RAISE in a list with room leaves its entry. -/
theorem raise_raisedEntry {s : State} {r : RaiseRequest} (hroom : s.msg.entries.length < 32) :
    ∃ b ∈ (s.raise r).1.msg.bodies, RaisedEntry s r b := by
  rw [State.raise_msg]
  cases h : findEntry r.code s.msg.entries with
  | some e =>
    obtain ⟨hmem, hcode⟩ := findEntry_mem h
    exact ⟨_, (s.msg.mem_bodies_raise_present s.now r h _).2 (Or.inl rfl), hcode, rfl, rfl,
      fun habsent => absurd hcode (habsent e hmem)⟩
  | none =>
    exact ⟨_, (s.msg.mem_bodies_raise_room s.now r h hroom _).2 (Or.inl rfl), rfl, rfl, rfl,
      fun _ => ⟨rfl, rfl, rfl, rfl, rfl⟩⟩

/-- Among plain requests of other codes, in a list with room for all, a raise leaves its entry. -/
theorem takeTurns_raises {qs us : List PartRequest} {q : PartRequest} {r : RaiseRequest} {s : State}
    (hplain : ∀ x ∈ qs ++ us, x.Plain) (hcodes : ∀ x ∈ qs ++ us, x.code ≠ r.code)
    (hq : q = .raise r none ∨ q = .condRaise r ∧ ∀ x ∈ s.msg.entries, x.code ≠ r.code)
    (hroom : s.msg.entries.length + (qs ++ q :: us).countP PartRequest.adds ≤ 32) :
    ∃ b ∈ (s.takeTurns ((qs ++ q :: us).map .request)).msg.bodies, RaisedEntry s r b := by
  have hadds : q.adds = true := by rcases hq with rfl | ⟨rfl, -⟩ <;> rfl
  have hplainq : q.Plain := by rcases hq with rfl | ⟨rfl, -⟩ <;> trivial
  rw [List.countP_append, List.countP_cons, hadds, if_pos rfl] at hroom
  obtain ⟨hlen, -, -⟩ := takeTurns_room (qs := qs) (s := s) (k := us.countP PartRequest.adds + 1)
    (fun x hx => hplain x (List.mem_append_left _ hx)) (by omega)
  have habsent : (∀ x ∈ s.msg.entries, x.code ≠ r.code) →
      ∀ x ∈ (s.takeTurns (qs.map .request)).msg.entries, x.code ≠ r.code := by
    intro h x hx hcode
    obtain ⟨e, he, hbody⟩ := List.mem_map.1 (takeTurns_of_mem_bodies (fun y hy => hplain y (List.mem_append_left _ hy))
      (List.mem_map_of_mem hx) fun y hy => hcode ▸ (hcodes y (List.mem_append_left _ hy)).symm)
    exact h e he ((congrArg Entry.code hbody).trans hcode)
  have hnow : (s.takeTurns (qs.map .request)).now = s.now := takeTurns_now s
  rw [List.map_append, List.map_cons, State.takeTurns_append, State.takeTurns_cons]
  generalize s.takeTurns (qs.map .request) = x at hlen habsent hnow ⊢
  have hraise : (x.takeOne q).1 = (x.raise r).1 := by
    rcases hq with rfl | ⟨rfl, hno⟩
    · rfl
    · exact x.takeOne_condRaise_absent r ((findEntry_none_iff _ _).2 (habsent hno))
  obtain ⟨b, hb, hcode, hmarker, hstate, hnew⟩ := raise_raisedEntry (s := x) (r := r) (by omega)
  obtain ⟨hlen', -, -⟩ := hplainq.takeOne_room (s := x) (k := us.countP PartRequest.adds)
    (by rw [hadds, if_pos rfl]; omega)
  obtain ⟨-, -, hkeep⟩ := takeTurns_room (qs := us) (s := (x.takeOne q).1) (k := 0)
    (fun y hy => hplain y (List.mem_append_right _ hy)) (by omega)
  refine ⟨b, hkeep b (hraise ▸ hb) fun y hy hc => ?_, hcode, hmarker, hstate, fun hno => ?_⟩
  · exact absurd (hc.symm.trans hcode) (hcodes y (List.mem_append_right _ hy))
  · obtain ⟨hcls, hneeds, hsource, htime, hcount⟩ := hnew (habsent hno)
    exact ⟨hcls, hneeds, hsource, htime.trans hnow, hcount⟩

end Sys2Proof.Machine
end

section
/-! PROOFS. An ACK press recognized during an overrun, where the head of the list is the entry 1125 (R137, log 25). -/

namespace Sys2Proof.Machine

/-! ### The head replaced -/

/-- An entry that rises within its order stays before those it was before (R131). -/
theorem before_of_group_le {h h' y : Entry} (hb : h.before y = true) (hcls : h'.cls = h.cls)
    (hord : h'.ordinal = h.ordinal) (hgroup : h'.group ≤ h.group) : h'.before y = true := by
  simp only [Entry.before, Bool.or_eq_true, Bool.and_eq_true, decide_eq_true_eq, beq_iff_eq, hcls, hord] at *
  omega

theorem dropEntry_others {c : Nat} {es : List Entry} (h : ∀ y ∈ es, y.code ≠ c) : dropEntry c es = es :=
  List.filter_eq_self.2 fun y hy => by simpa using h y hy

theorem dropEntry_cons_self {e : Entry} {es : List Entry} (h : ∀ y ∈ es, y.code ≠ e.code) :
    dropEntry e.code (e :: es) = es := by
  rw [dropEntry, List.filter_cons_of_neg (by simp)]
  exact dropEntry_others h

theorem dropEntry_cons_ne {c : Nat} {e : Entry} (es : List Entry) (h : e.code ≠ c) :
    dropEntry c (e :: es) = e :: dropEntry c es :=
  List.filter_cons_of_pos (by simpa using h)

theorem dropEntry_placeEntry {e : Entry} {es : List Entry} (h : ∀ y ∈ es, y.code ≠ e.code) :
    dropEntry e.code (placeEntry e es) = es := by
  induction es with
  | nil => exact dropEntry_cons_self h
  | cons y ys ih =>
    simp only [placeEntry]
    split
    · exact dropEntry_cons_self h
    · rw [dropEntry_cons_ne _ (h y List.mem_cons_self)]
      exact congrArg (y :: ·) (ih fun z hz => h z (List.mem_cons_of_mem _ hz))

theorem findEntry_cons_self (e : Entry) (es : List Entry) : findEntry e.code (e :: es) = some e := by
  simp [findEntry]

theorem findEntry_cons_ne {c : Nat} {e : Entry} (es : List Entry) (h : e.code ≠ c) :
    findEntry c (e :: es) = findEntry c es := by
  simp [findEntry, h]

theorem findEntry_placeEntry {e : Entry} {es : List Entry} (h : ∀ y ∈ es, y.code ≠ e.code) :
    findEntry e.code (placeEntry e es) = some e := by
  induction es with
  | nil => exact findEntry_cons_self e []
  | cons y ys ih =>
    simp only [placeEntry]
    split
    · exact findEntry_cons_self e _
    · rw [findEntry_cons_ne _ (h y List.mem_cons_self)]
      exact ih fun z hz => h z (List.mem_cons_of_mem _ hz)

theorem placeEntry_first {e : Entry} {es : List Entry} (h : ∀ y ∈ es, e.before y = true) :
    placeEntry e es = e :: es := by
  cases es with
  | nil => rfl
  | cons y ys => exact if_pos (h y List.mem_cons_self)

theorem markHead_same (now : Time) {h h' : Entry} (before after : List Entry) (hc : h'.code = h.code) :
    markHead now (h :: before) (h' :: after) = h' :: after :=
  if_pos (congrArg some hc.symm)

theorem markHead_other (now : Time) {h h' : Entry} (before after : List Entry) (hc : h'.code ≠ h.code) :
    markHead now (h :: before) (h' :: after) = { h' with headSince := now } :: after :=
  if_neg fun e => hc (Option.some.inj e).symm

/-- The head changed in place: it stays the head where it stays before the others. -/
theorem withList_replace_head {m : MessageUnit} (now : Time) {h h' : Entry} {rest : List Entry}
    (hes : m.entries = h :: rest) (hc : h'.code = h.code) (hothers : ∀ y ∈ rest, y.code ≠ h.code)
    (hfirst : ∀ y ∈ rest, h'.before y = true) :
    m.withList now (replaceEntry h' m.entries) = { m with entries := h' :: rest } := by
  rw [MessageUnit.withList, hes, replaceEntry, hc, dropEntry_cons_self hothers, placeEntry_first hfirst,
    markHead_same now rest rest hc]

/-! ### The head acknowledged and cleared -/

/-- A list whose head is taken out: the next entry stands at position 0 from now on (R132). -/
def nextHead (now : Time) : List Entry → List Entry
  | [] => []
  | y :: ys => { y with headSince := now } :: ys

/-- The head, placed again as acknowledged, is found, and its removal leaves the others. -/
theorem acknowledged_then_removed (now : Time) {c : Nat} {h a : Entry} {rest : List Entry} (hh : h.code = c)
    (ha : a.code = c) (hothers : ∀ y ∈ rest, y.code ≠ c) :
    findEntry c (markHead now (h :: rest) (placeEntry a rest)) = some a ∧
      markHead now (markHead now (h :: rest) (placeEntry a rest))
        (dropEntry c (markHead now (h :: rest) (placeEntry a rest))) = nextHead now rest := by
  subst ha
  have hfirst : ∀ l, markHead now (h :: rest) (a :: l) = a :: l := fun l => markHead_same now rest l hh.symm
  cases rest with
  | nil =>
    rw [placeEntry, hfirst, findEntry_cons_self, dropEntry_cons_self fun _ hy => absurd hy List.not_mem_nil]
    exact ⟨rfl, rfl⟩
  | cons y ys =>
    have hy := hothers y List.mem_cons_self
    have hy' : ({ y with headSince := now } : Entry).code ≠ a.code := hy
    have hys : ∀ z ∈ ys, z.code ≠ a.code := fun z hz => hothers z (List.mem_cons_of_mem _ hz)
    by_cases hb : a.before y = true
    · rw [placeEntry, if_pos hb, hfirst, findEntry_cons_self, dropEntry_cons_self hothers, markHead_other now _ _ hy]
      exact ⟨rfl, rfl⟩
    · rw [placeEntry, if_neg hb, markHead_other now _ _ (hh ▸ hy), findEntry_cons_ne _ hy', findEntry_placeEntry hys,
        dropEntry_cons_ne _ hy', dropEntry_placeEntry hys]
      exact ⟨rfl, markHead_same now _ _ rfl⟩

theorem map_still_nextHead (now : Time) (es : List Entry) :
    (nextHead now es).map Entry.still = es.map Entry.still := by
  cases es <;> rfl

theorem pairwise_nextHead (now : Time) {es : List Entry} (h : es.Pairwise fun x y => x.before y = true) :
    (nextHead now es).Pairwise fun x y => x.before y = true := by
  cases es with
  | nil => exact h
  | cons y ys => exact List.pairwise_cons.2 (List.pairwise_cons.1 h)

/-! ### The entry 1125 at the head -/

/-- The list's head is the entry 1125, which needs acknowledgement, and the list is in order. -/
structure OverrunAtHead (m : MessageUnit) (h : Entry) (rest : List Entry) : Prop where
  entries : m.entries = h :: rest
  code : h.code = 1125
  needsAck : h.needsAck = true
  order : (h :: rest).Pairwise fun x y => x.before y = true
  others : ∀ y ∈ rest, y.code ≠ h.code

theorem ListInv.overrunAtHead {s : State} {h : Entry} {rest : List Entry} (hinv : ListInv s)
    (hes : s.msg.entries = h :: rest) (hcode : h.code = 1125) (hneeds : h.needsAck = true) :
    OverrunAtHead s.msg h rest := by
  obtain ⟨horder, -, hcodes, -⟩ := hinv
  rw [hes] at horder hcodes
  refine ⟨hes, hcode, hneeds, horder, fun y hy hc => ?_⟩
  rw [List.map_cons, List.nodup_cons] at hcodes
  exact hcodes.1 (hc ▸ List.mem_map_of_mem hy)

theorem OverrunAtHead.othersOf {m : MessageUnit} {h : Entry} {rest : List Entry} (hm : OverrunAtHead m h rest) :
    othersOf 1125 m.entries = rest := by
  rw [Machine.othersOf, hm.entries, List.filter_cons_of_neg (by simpa using hm.code)]
  exact List.filter_eq_self.2 fun y hy => by simpa [hm.code] using hm.others y hy

/-- The head, changed so that it rises within its order if at all. -/
theorem OverrunAtHead.replace {m : MessageUnit} {h h' : Entry} {rest : List Entry} (hm : OverrunAtHead m h rest)
    (now : Time) (hcode : h'.code = h.code) (hcls : h'.cls = h.cls) (hord : h'.ordinal = h.ordinal)
    (hneeds : h'.needsAck = h.needsAck) (hgroup : h'.group ≤ h.group) :
    m.withList now (replaceEntry h' m.entries) = { m with entries := h' :: rest } ∧
      OverrunAtHead { m with entries := h' :: rest } h' rest := by
  obtain ⟨hfirst, hrest⟩ := List.pairwise_cons.1 hm.order
  have hbefore : ∀ y ∈ rest, h'.before y = true := fun y hy => before_of_group_le (hfirst y hy) hcls hord hgroup
  exact ⟨withList_replace_head now hm.entries hcode hm.others hbefore, rfl, hcode.trans hm.code,
    hneeds.trans hm.needsAck, List.pairwise_cons.2 ⟨hbefore, hrest⟩, fun y hy => hcode ▸ hm.others y hy⟩

theorem OverrunAtHead.find {m : MessageUnit} {h : Entry} {rest : List Entry} (hm : OverrunAtHead m h rest) :
    findEntry 1125 m.entries = some h := by
  rw [hm.entries, ← hm.code, findEntry_cons_self]

/-- The entry 1125 after the raise of an overrun (R133). -/
def raisedHead (h : Entry) : Entry := raiseAgain overrunRaise h

/-- The raise of an overrun, where its entry is the head (R133). -/
theorem OverrunAtHead.raise {m : MessageUnit} {h : Entry} {rest : List Entry} (hm : OverrunAtHead m h rest)
    (now : Time) : (m.raise now overrunRaise).1 = { m with entries := raisedHead h :: rest } ∧
      OverrunAtHead { m with entries := raisedHead h :: rest } (raisedHead h) rest := by
  have hgroup : (raisedHead h).group ≤ h.group := by
    simp [Entry.group, raisedHead, raiseAgain, hm.needsAck, raisedState]
  obtain ⟨e, hm'⟩ := hm.replace now (h' := raisedHead h) rfl rfl rfl rfl hgroup
  exact ⟨(congrArg Prod.fst (m.raise_present now overrunRaise hm.find)).trans e, hm'⟩

theorem OverrunAtHead.raisedHead_state {m : MessageUnit} {h : Entry} {rest : List Entry}
    (hm : OverrunAtHead m h rest) : (raisedHead h).state = .unacked := by
  rw [raisedHead, raiseAgain, hm.needsAck]
  rfl

/-- The clear of an overrun, where its entry is the head and waits (R135). -/
theorem OverrunAtHead.clear {m : MessageUnit} {h : Entry} {rest : List Entry} (hm : OverrunAtHead m h rest)
    (now : Time) (hs : h.state = .unacked) :
    (m.clear now 1125).1 = { m with entries := { h with state := .clearedUnacked } :: rest } ∧
      OverrunAtHead { m with entries := { h with state := .clearedUnacked } :: rest }
        { h with state := .clearedUnacked } rest := by
  obtain ⟨e, hm'⟩ := hm.replace now (h' := { h with state := .clearedUnacked }) rfl rfl rfl rfl (Nat.zero_le _)
  exact ⟨(congrArg Prod.fst (m.clear_unacked now 1125 hm.find hs)).trans e, hm'⟩

/-- An ACK of the entry 1125 at the head, and the clear of the overrun after it: the entry goes to the recall stack
(R136, R142). -/
theorem OverrunAtHead.ack_clear {m : MessageUnit} {h : Entry} {rest : List Entry} (hm : OverrunAtHead m h rest)
    (now : Time) (hs : h.state = .unacked) :
    ((m.ack now 1125).1.clear now 1125).1 = { m with
      entries := nextHead now rest, recalls := pushRecall now { h with state := .acked } m.recalls } := by
  have hack : (m.ack now 1125).1 = m.withList now (replaceEntry { h with state := .acked } m.entries) := by
    simp only [MessageUnit.ack, hm.find, hs]
    rfl
  have hlist : m.withList now (replaceEntry { h with state := .acked } m.entries) =
      { m with entries := markHead now (h :: rest) (placeEntry { h with state := .acked } rest) } := by
    rw [MessageUnit.withList, hm.entries, replaceEntry,
      show ({ h with state := .acked } : Entry).code = h.code from rfl, dropEntry_cons_self hm.others]
  obtain ⟨hfind, hgone⟩ := acknowledged_then_removed now (a := { h with state := .acked }) hm.code hm.code
    fun y hy => hm.code ▸ hm.others y hy
  have hlast : ∀ x : MessageUnit,
      x.entries = markHead now (h :: rest) (placeEntry { h with state := .acked } rest) →
      (x.clear now 1125).1 = { x with
        entries := nextHead now rest, recalls := pushRecall now { h with state := .acked } x.recalls } := by
    intro x hx
    have hcode : ({ h with state := .acked } : Entry).code = 1125 := hm.code
    rw [x.clear_acked now 1125 (hx ▸ hfind) rfl, MessageUnit.removeEntry, hcode, MessageUnit.withList, hx, hgone]
  rw [hack, hlist]
  exact hlast _ rfl

/-! ### The two outcomes -/

/-- The list with its head changed in place, as the statement has it. -/
theorem listBecomes_head {m m' : MessageUnit} {now : Time} {h h' : Entry} {rest : List Entry}
    (hes : m.entries = h :: rest) (hes' : m'.entries = h' :: rest)
    (horder : (h' :: rest).Pairwise fun x y => x.before y = true) (hcode : h'.code = h.code)
    (hsince : h'.headSince = h.headSince) : ListBecomes m m' now (h' :: rest) := by
  refine ⟨by rw [hes'], by rwa [hes'], fun x hx => ?_⟩
  rw [hes', List.head?_cons] at hx
  obtain rfl := Option.some.inj hx
  rw [hes, List.head?_cons]
  exact hsince.trans (if_pos hcode.symm).symm

/-- The list with its head gone, as the statement has it. -/
theorem listBecomes_nextHead {m m' : MessageUnit} {now : Time} {h : Entry} {rest : List Entry}
    (hes : m.entries = h :: rest) (hes' : m'.entries = nextHead now rest)
    (horder : rest.Pairwise fun x y => x.before y = true) (hothers : ∀ y ∈ rest, y.code ≠ h.code) :
    ListBecomes m m' now rest := by
  refine ⟨by rw [hes', map_still_nextHead], by rw [hes']; exact pairwise_nextHead now horder, fun x hx => ?_⟩
  rw [hes, List.head?_cons]
  cases rest with
  | nil => rw [hes'] at hx; cases hx
  | cons y ys =>
    rw [hes', nextHead, List.head?_cons] at hx
    obtain rfl := Option.some.inj hx
    exact (if_neg (hothers y List.mem_cons_self).symm).symm

/-- A press in RUN, the head waiting and settled: it is acknowledged (R140). -/
theorem press_settled {s : State} (hrun : s.ctl.part = .run) {h : Entry} {rest : List Entry}
    (hes : s.msg.entries = h :: rest) (hs : h.state ≠ .acked) (hsettle : s.cfg.settleTime ≤ elapsed h.headSince s.now) :
    s.press = (s.withMsg { s.msg with debouncer := .pressed }).acknowledge h.code := by
  rw [s.press_run hrun, State.judgePress]
  have hhead : (s.withMsg { s.msg with debouncer := .pressed }).msg.entries.head? = some h := by
    rw [show (s.withMsg { s.msg with debouncer := .pressed }).msg.entries = s.msg.entries from rfl, hes]
    rfl
  rw [hhead]
  exact if_pos ⟨hs, hsettle⟩

/-- An ACK of an entry that is no system's code changes the message unit as the unit's ACK does, where it finds it. -/
theorem acknowledge_overrun_msg {s : State} {h : Entry} {rest : List Entry} (hm : OverrunAtHead s.msg h rest)
    (hs : h.state = .unacked) : (s.acknowledge 1125).msg = (s.msg.ack s.now 1125).1 := by
  have hout : (s.msg.ack s.now 1125).2 = .acknowledged := by
    simp only [MessageUnit.ack, hm.find, hs]
    rfl
  simp only [State.acknowledge, hout]
  rfl

/-- An overrun of no record, the entry 1125 at the head, waiting and settled, and a press due (R137, log 25). -/
theorem overrunMessages_head {s : State} {h : Entry} {rest : List Entry} (hm : OverrunAtHead s.msg h rest)
    (hrun : s.ctl.part = .run) (hdue : s.pressDue = true) (hsettle : s.cfg.settleTime ≤ elapsed h.headSince s.now) :
    (overrunMessages (s, [])).msg =
        { s.msg with entries := { raisedHead h with state := .clearedUnacked } :: rest } ∨
      (overrunMessages (s, [])).msg = { s.msg with
        entries := nextHead s.now rest
        recalls := pushRecall s.now { raisedHead h with state := .acked } s.msg.recalls
        debouncer := .pressed } := by
  obtain ⟨hraise, hraised⟩ := hm.raise s.now
  have hstate := hm.raisedHead_state
  by_cases hc : (s.choose 2).1 = 1
  · right
    have he : overrunMessages (s, []) = (((s.choose 2).2.raise overrunRaise).1.press.condClear 1125) :=
      (if_pos hdue).trans ((if_pos hc).trans (by
        rw [State.takeAround, divideRequests, List.nil_append, List.nil_append, State.takeRequests_raise,
          State.takeRequests_condClear]
        rfl))
    have hx : ((s.choose 2).2.raise overrunRaise).1.msg = { s.msg with entries := raisedHead h :: rest } :=
      (State.raise_msg _ _).trans hraise
    have hframe := ((s.choose_only 2).trans ((s.choose 2).2.raise_only overrunRaise)).sameFrame
    generalize ((s.choose 2).2.raise overrunRaise).1 = x at he hx hframe
    have hnow : x.now = s.now := by rw [State.now, hframe.ctl, State.now]
    have hpress := press_settled (s := x) (h := raisedHead h) (rest := rest) (by rw [hframe.ctl, hrun]) (by rw [hx])
      (by rw [hstate]; nofun) (by rw [hframe.cfg, hnow]; exact hsettle)
    have hpressed : OverrunAtHead (x.withMsg { x.msg with debouncer := .pressed }).msg (raisedHead h) rest :=
      ⟨by rw [show (x.withMsg { x.msg with debouncer := .pressed }).msg.entries = x.msg.entries from rfl, hx],
        hraised.code, hraised.needsAck, hraised.order, hraised.others⟩
    have hacked := acknowledge_overrun_msg hpressed hstate
    have hthen := (State.acknowledge_only (x.withMsg { x.msg with debouncer := .pressed }) 1125).sameFrame
    have hnow' : ((x.withMsg { x.msg with debouncer := .pressed }).acknowledge 1125).now = s.now := by
      rw [State.now, hthen.ctl]
      exact hnow
    have hclear := hpressed.ack_clear s.now hstate
    rw [he, hpress, hraised.code, State.condClear_frame, hnow', hacked,
      show (x.withMsg { x.msg with debouncer := .pressed }).now = s.now from hnow, hclear, State.withMsg, hx]
  · left
    have he : overrunMessages (s, []) = ((s.choose 2).2.raise overrunRaise).1.condClear 1125 :=
      (if_pos hdue).trans (if_neg hc)
    obtain ⟨hclear, -⟩ := hraised.clear s.now hstate
    have hmsg : ((s.choose 2).2.raise overrunRaise).1.msg = (s.msg.raise s.now overrunRaise).1 := State.raise_msg _ _
    have hnow : ((s.choose 2).2.raise overrunRaise).1.now = s.now := by
      rw [State.raise_frame]
      rfl
    rw [he, State.condClear_frame, hmsg, hraise, hnow]
    exact hclear

end Sys2Proof.Machine
end

section
/-! PROOFS. The overrun as a whole: O21. -/

namespace Sys2Proof.Machine

/-! ### The requests of the records -/

theorem mem_overrunAsk {s : State} {n : Nat} {q : PartRequest} (h : q ∈ s.overrunAsk n) :
    ((s.record n).status = .valid ∧ q = .raise (s.staleRequest n 3) none) ∨
      ((s.record n).status = .recovering ∧ q = .condRaise (s.staleRequest n 3)) := by
  unfold State.overrunAsk at h
  split at h
  · cases hs : (s.record n).status with
    | valid => rw [hs] at h; exact Or.inl ⟨rfl, List.mem_singleton.1 h⟩
    | recovering => rw [hs] at h; exact Or.inr ⟨rfl, List.mem_singleton.1 h⟩
    | _ => rw [hs] at h; exact absurd h List.not_mem_nil
  · exact absurd h List.not_mem_nil

/-- A record's request is a plain one of its stale code (R69, R138). -/
theorem plain_of_mem_overrunAsk {s : State} {n : Nat} {q : PartRequest} (h : q ∈ s.overrunAsk n) :
    q.Plain ∧ q.code = 1024 + n := by
  rcases mem_overrunAsk h with ⟨-, rfl⟩ | ⟨-, rfl⟩ <;> exact ⟨trivial, rfl⟩

theorem overrunAsk_valid {s : State} {n : Nat} (hk : s.kind n ≠ .none) (hs : (s.record n).status = .valid) :
    s.overrunAsk n = [.raise (s.staleRequest n 3) none] := by
  rw [State.overrunAsk, if_pos ((held_iff s n).2 hk), hs]

theorem overrunAsk_recovering {s : State} {n : Nat} (hk : s.kind n ≠ .none)
    (hs : (s.record n).status = .recovering) : s.overrunAsk n = [.condRaise (s.staleRequest n 3)] := by
  rw [State.overrunAsk, if_pos ((held_iff s n).2 hk), hs]

/-- The requests of these records. -/
def State.overrunAsks (s : State) (ns : List Nat) : List PartRequest := ns.flatMap s.overrunAsk

theorem mem_overrunAsks {s : State} {ns : List Nat} {q : PartRequest} (h : q ∈ s.overrunAsks ns) :
    q.Plain ∧ ∃ n ∈ ns, q ∈ s.overrunAsk n := by
  obtain ⟨n, hn, hq⟩ := List.mem_flatMap.1 h
  exact ⟨(plain_of_mem_overrunAsk hq).1, n, hn, hq⟩

theorem code_ne_of_mem_overrunAsks {s : State} {ns : List Nat} {q : PartRequest} (h : q ∈ s.overrunAsks ns) {n : Nat}
    (hn : n ∉ ns) : q.code ≠ 1024 + n := by
  obtain ⟨-, m, hm, hq⟩ := mem_overrunAsks h
  rw [(plain_of_mem_overrunAsk hq).2]
  intro e
  exact hn (Nat.add_left_cancel e ▸ hm)

/-- There is at most one request for each record that falls. -/
theorem countP_overrunAsks_le {s : State} {p : Nat → Bool} (hp : ∀ n, s.Falls n → p n = true) (ns : List Nat) :
    (s.overrunAsks ns).countP PartRequest.adds ≤ ns.countP p := by
  induction ns with
  | nil => exact Nat.zero_le _
  | cons n ns ih =>
    rw [State.overrunAsks, List.flatMap_cons, List.countP_append, List.countP_cons, Nat.add_comm]
    refine Nat.add_le_add ih ?_
    by_cases h : s.Falls n
    · rw [hp n h, if_pos rfl]
      obtain ⟨hk, hs | hs⟩ := h
      · rw [overrunAsk_valid hk hs]
        exact List.countP_le_length
      · rw [overrunAsk_recovering hk hs]
        exact List.countP_le_length
    · rw [overrunAsk_stays h]
      exact Nat.zero_le _

/-! ### The turns of the whole overrun -/

theorem OverrunOrder.perm_all {q : RaiseRequest} {others ts : List OverrunTurn} (h : OverrunOrder q others ts) :
    ts.Perm (.request (.raise q none) :: .request (.condClear q.code) :: others) := by
  obtain ⟨as, bs, cs, hp, rfl⟩ := h
  refine List.perm_middle.trans (List.Perm.cons _ ?_)
  rw [← List.append_assoc]
  exact List.perm_middle.trans (List.Perm.cons _ hp)

/-- Without a press the turns are requests: the raise of the overrun, its clear, and those of the records. -/
theorem OverrunOrder.requests {q : RaiseRequest} {rs : List PartRequest} {ts : List OverrunTurn}
    (h : OverrunOrder q (rs.map .request) ts) :
    ∃ qs : List PartRequest, ts = qs.map .request ∧ qs.Perm (.raise q none :: .condClear q.code :: rs) := by
  have hperm : ts.Perm ((.raise q none :: .condClear q.code :: rs).map OverrunTurn.request) := h.perm_all
  have hcomp : Relation.Comp (fun x y => x = y.map OverrunTurn.request) List.Perm ts _ :=
    (congrFun (congrFun (List.eq_map_comp_perm OverrunTurn.request) ts) _).mpr hperm
  obtain ⟨qs, rfl, hqs⟩ := hcomp
  exact ⟨qs, rfl, hqs⟩

theorem overrun_plain {s : State} {qs : List PartRequest}
    (hqs : qs.Perm (.raise overrunRaise none :: .condClear 1125 :: s.overrunAsks recordIndices)) :
    ∀ q ∈ qs, q.Plain := by
  intro q hq
  rcases List.mem_cons.1 (hqs.mem_iff.1 hq) with rfl | hq
  · trivial
  · rcases List.mem_cons.1 hq with rfl | hq
    · trivial
    · exact (mem_overrunAsks hq).1

section
variable {s : State} (hshape : ShapeInv s)
include hshape

/-- The overrun of the records of `s` and their messages: turns taken from the state with the records fallen. -/
theorem overrun_turns : ∃ (others ts : List OverrunTurn) (k : Nat), OverrunOrder overrunRaise others ts ∧
    (others = (s.overrunAsks recordIndices).map .request ∨
      s.pressDue = true ∧ others = .press :: (s.overrunAsks recordIndices).map .request) ∧
    overrunMessages s.overrunRecords = (s.overrunRecords.1.takeTurns ts).withFreeCount k := by
  obtain ⟨hover, hasks⟩ := overrunRecords_spec s hshape
  have hdue : s.overrunRecords.1.pressDue = s.pressDue := by
    rw [State.pressDue, State.pressDue, State.now, hover.rest]
    rfl
  rw [← hdue]
  have hturns := overrunMessages_turns s.overrunRecords
    (fun q hq => (mem_overrunAsks (ns := recordIndices) (hasks ▸ hq)).1)
  rw [hasks] at hturns
  exact hturns

/-- With no press due, the turns are the requests alone. -/
theorem overrun_requests (hdue : s.pressDue = false) : ∃ (qs : List PartRequest) (k : Nat),
    qs.Perm (.raise overrunRaise none :: .condClear 1125 :: s.overrunAsks recordIndices) ∧
    overrunMessages s.overrunRecords = (s.overrunRecords.1.takeTurns (qs.map .request)).withFreeCount k := by
  obtain ⟨others, ts, k, horder, hothers, e⟩ := overrun_turns hshape
  rcases hothers with rfl | ⟨hd, -⟩
  · obtain ⟨qs, rfl, hqs⟩ := horder.requests
    exact ⟨qs, k, hqs, e⟩
  · rw [hdue] at hd
    cases hd

/-- What every overrun in service leaves, and the entry 1125 (R137). -/
theorem overrun_alongside : s.overrunRecords.1.Alongside (overrunMessages s.overrunRecords) ∧
    (overrunMessages s.overrunRecords).OverrunEntriesAre .clearedUnacked := by
  obtain ⟨others, ts, k, horder, hothers, e⟩ := overrun_turns hshape
  have hother : ∀ t ∈ others, t.Other := by
    have hask : ∀ t ∈ (s.overrunAsks recordIndices).map OverrunTurn.request, t.Other := by
      intro t ht
      obtain ⟨q, hq, rfl⟩ := List.mem_map.1 ht
      obtain ⟨hplain, n, hn, hqn⟩ := mem_overrunAsks hq
      have hlt : n < 24 := List.mem_range.1 hn
      exact Or.inr ⟨q, rfl, hplain, by rw [(plain_of_mem_overrunAsk hqn).2]; omega⟩
    rcases hothers with rfl | ⟨-, rfl⟩
    · exact hask
    · exact List.forall_mem_cons.2 ⟨Or.inl rfl, hask⟩
  have hplain : ∀ t ∈ ts, t.Plain := horder.forall (Or.inr ⟨_, rfl, trivial⟩) (Or.inr ⟨_, rfl, trivial⟩)
    fun t ht => (hother t ht).elim Or.inl fun ⟨q, hq, hp, _⟩ => Or.inr ⟨q, hq, hp⟩
  rw [e]
  exact ⟨(State.takeTurns_alongside hplain _).trans ⟨fun _ => ⟨rfl, rfl⟩, rfl⟩, horder.cleared hother _⟩

/-- With no press due an overrun leaves the kind states and the debouncer as the records' fall does. -/
theorem overrun_quiet (hdue : s.pressDue = false) :
    (overrunMessages s.overrunRecords).aspect = s.overrunRecords.1.aspect ∧
      (overrunMessages s.overrunRecords).msg.debouncer = s.overrunRecords.1.msg.debouncer := by
  obtain ⟨qs, k, hqs, e⟩ := overrun_requests hshape hdue
  rw [e]
  exact State.takeTurns_quiet (fun t ht => by
    obtain ⟨q, hq, rfl⟩ := List.mem_map.1 ht
    exact ⟨q, rfl, overrun_plain hqs q hq⟩) s.overrunRecords.1

/-! ### A list with room for every message (R68, R69) -/

section
variable {p : Nat → Bool} (hp : ∀ n, s.Falls n → p n = true)
  (hroom : s.msg.entries.length + (List.range 24).countP p < 32)
include hp hroom

theorem overrun_fits {qs : List PartRequest}
    (hqs : qs.Perm (.raise overrunRaise none :: .condClear 1125 :: s.overrunAsks recordIndices)) :
    s.overrunRecords.1.msg.entries.length + qs.countP PartRequest.adds ≤ 32 := by
  have hmsg : s.overrunRecords.1.msg = s.msg := by rw [(overrunRecords_spec s hshape).1.rest]
  have hcount := countP_overrunAsks_le hp recordIndices
  have hrange : recordIndices.countP p = (List.range 24).countP p := rfl
  rw [hmsg, hqs.countP_eq, List.countP_cons, List.countP_cons]
  simp only [PartRequest.adds, if_true, Bool.false_eq_true, if_false]
  omega

/-- The overrun raises no overflow. -/
theorem overrun_status (hdue : s.pressDue = false) :
    (overrunMessages s.overrunRecords).status = s.overrunRecords.1.status := by
  obtain ⟨qs, k, hqs, e⟩ := overrun_requests hshape hdue
  obtain ⟨-, hstatus, -⟩ := takeTurns_room (overrun_plain hqs) (s := s.overrunRecords.1) (k := 0)
    (by rw [Nat.zero_add]; exact overrun_fits hshape hp hroom hqs)
  rw [e]
  exact hstatus

/-- The stale message of a RECOVERING record is not raised again where the list holds it (R69). -/
theorem overrun_keeps_entry (hdue : s.pressDue = false) {n : Nat} (hn : n < 24)
    (hs : (s.record n).status = .recovering) {x : Entry} (hx : x ∈ s.msg.entries) (hcode : x.code = 1024 + n) :
    x.body ∈ (overrunMessages s.overrunRecords).msg.bodies := by
  obtain ⟨qs, k, hqs, e⟩ := overrun_requests hshape hdue
  obtain ⟨-, -, hkeep⟩ := takeTurns_room (overrun_plain hqs) (s := s.overrunRecords.1) (k := 0)
    (by rw [Nat.zero_add]; exact overrun_fits hshape hp hroom hqs)
  have hmsg : s.overrunRecords.1.msg = s.msg := by rw [(overrunRecords_spec s hshape).1.rest]
  rw [e]
  refine hkeep x.body (by rw [hmsg]; exact List.mem_map_of_mem hx) fun q hq hc => ?_
  rw [Entry.body_code, hcode] at hc
  rcases List.mem_cons.1 (hqs.mem_iff.1 hq) with rfl | hq
  · exact absurd hc (by simp only [PartRequest.code, overrunRaise, partRaise]; omega)
  · rcases List.mem_cons.1 hq with rfl | hq
    · exact absurd hc (by simp only [PartRequest.code]; omega)
    · obtain ⟨-, m, -, hqm⟩ := mem_overrunAsks hq
      rw [(plain_of_mem_overrunAsk hqm).2] at hc
      obtain rfl := Nat.add_left_cancel hc
      rcases mem_overrunAsk hqm with ⟨hv, -⟩ | ⟨-, rfl⟩
      · rw [hs] at hv
        cases hv
      · exact ⟨_, rfl⟩

/-- The stale message of a record that falls is raised, for a RECOVERING one where the list does not hold it (R69). -/
theorem overrun_raises_entry (hdue : s.pressDue = false) {n : Nat} (hn : n < 24) (hk : s.kind n ≠ .none)
    (hs : (s.record n).status = .valid ∨
      ((s.record n).status = .recovering ∧ ∀ x ∈ s.msg.entries, x.code ≠ 1024 + n)) :
    ∃ b ∈ (overrunMessages s.overrunRecords).msg.bodies, RaisedEntry s (s.staleRequest n 3) b := by
  obtain ⟨qs, k, hqs, e⟩ := overrun_requests hshape hdue
  have hmsg : s.overrunRecords.1.msg = s.msg := by rw [(overrunRecords_spec s hshape).1.rest]
  have hctl : s.overrunRecords.1.ctl = s.ctl := by rw [(overrunRecords_spec s hshape).1.rest]
  obtain ⟨q, hask, hq⟩ : ∃ q, s.overrunAsk n = [q] ∧ (q = .raise (s.staleRequest n 3) none ∨
      q = .condRaise (s.staleRequest n 3) ∧ ∀ x ∈ s.msg.entries, x.code ≠ 1024 + n) := by
    rcases hs with hv | ⟨hr, hno⟩
    · exact ⟨_, overrunAsk_valid hk hv, Or.inl rfl⟩
    · exact ⟨_, overrunAsk_recovering hk hr, Or.inr ⟨rfl, hno⟩⟩
  have hin : n ∈ recordIndices := List.mem_range.2 hn
  obtain ⟨l1, l2, hsplit⟩ := List.append_of_mem hin
  have hnodup : (l1 ++ n :: l2).Nodup := hsplit ▸ List.nodup_range
  have hnotin : n ∉ l1 ++ l2 := (List.nodup_middle.1 hnodup |> List.nodup_cons.1).1
  have hasks : (s.overrunAsks recordIndices).Perm (q :: s.overrunAsks (l1 ++ l2)) := by
    rw [hsplit, State.overrunAsks, State.overrunAsks, List.flatMap_append, List.flatMap_cons, hask, List.flatMap_append]
    exact List.perm_middle
  have hperm : qs.Perm (q :: .raise overrunRaise none :: .condClear 1125 :: s.overrunAsks (l1 ++ l2)) :=
    hqs.trans ((((hasks.cons _).trans (List.Perm.swap _ _ _)).cons _).trans (List.Perm.swap _ _ _))
  obtain ⟨as, bs, rfl⟩ := List.append_of_mem (hperm.mem_iff.2 List.mem_cons_self)
  have hrest := (List.perm_cons _).1 (List.perm_middle.symm.trans hperm)
  have hraises := takeTurns_raises (qs := as) (us := bs) (q := q) (r := s.staleRequest n 3) (s := s.overrunRecords.1)
    (fun y hy => overrun_plain hqs y (List.perm_middle.mem_iff.2 (List.mem_cons_of_mem _ hy)))
    (fun y hy => ?_) (by rw [hmsg]; exact hq) (overrun_fits hshape hp hroom hqs)
  · rw [e]
    obtain ⟨b, hb, hcode, hmarker, hstate, hnew⟩ := hraises
    rw [hmsg, hctl] at hnew
    exact ⟨b, hb, hcode, hmarker, hstate, hnew⟩
  · rcases List.mem_cons.1 (hrest.mem_iff.1 hy) with rfl | hy
    · simp only [PartRequest.code, overrunRaise, partRaise, State.staleRequest]
      omega
    · rcases List.mem_cons.1 hy with rfl | hy
      · simp only [PartRequest.code, partRaise, State.staleRequest]
        omega
      · exact code_ne_of_mem_overrunAsks hy hnotin

end

end

/-! ### The tick that raises the overrun -/

/-- The state in which the records fall: the debt at 8, the arm disarmed, OVERRUN set, no memory word known (R13,
log 7). -/
def State.overrunStart (s : State) : State := (s.overdue.notify .overrun).withMem s.mem.forget

theorem refreshTick_inService (s : State) (hserv : s.inService = true) (h7 : s.path.refresh.debt = 7)
    (harm : s.path.refresh.armed = true) :
    s.refreshTick = overrunMessages s.overrunStart.overrunRecords :=
  (refreshTick_overdue s h7 harm).trans (if_pos hserv)

theorem pressDue_false {s : State} (h : ∀ m, s.msg.debouncer = .pressing m → (s.ctl.ms - m).toNat < 30) :
    s.pressDue = false := by
  cases hd : s.msg.debouncer with
  | pressing m =>
    simp only [State.pressDue, hd, decide_eq_false_iff_not, Nat.not_le]
    exact h m hd
  | _ => simp only [State.pressDue, hd]

theorem pressDue_true {s : State} {m : Time} (hd : s.msg.debouncer = .pressing m) (h : 30 ≤ (s.ctl.ms - m).toNat) :
    s.pressDue = true := by
  simp only [State.pressDue, hd, decide_eq_true_eq]
  exact h

/-- An overrun changes what its records, its messages and a press change. -/
theorem overrunMessages_frame {s : State} (hshape : ShapeInv s) :
    overrunMessages s.overrunRecords = { s with
      recs := s.overrunRecords.1.recs
      speed := { s.speed with kinds := s.overrunRecords.1.speed.kinds }
      aspect := { s.aspect with kinds := (overrunMessages s.overrunRecords).aspect.kinds }
      msg := { s.msg with entries := (overrunMessages s.overrunRecords).msg.entries
                          nextOrdinal := (overrunMessages s.overrunRecords).msg.nextOrdinal
                          recalls := (overrunMessages s.overrunRecords).msg.recalls
                          debouncer := (overrunMessages s.overrunRecords).msg.debouncer }
      status := (overrunMessages s.overrunRecords).status
      freeCount := (overrunMessages s.overrunRecords).freeCount } := by
  have h1 := (overrunRecords_spec s hshape).1.rest
  have h2 := (overrunMessages_only s.overrunRecords).1
  generalize s.overrunRecords.1 = x at h1 h2 ⊢
  generalize overrunMessages s.overrunRecords = y at h2 ⊢
  rw [h2, h1]

end Sys2Proof.Machine
end

section
/-! PROOFS. What an overrun in RUN or RETAIN leaves behind, clause by clause: O21. -/

namespace Sys2Proof.Machine

section
variable {s : State} (hshape : ShapeInv s) {n : Nat} (hn : n < 24)
include hshape hn

theorem overrunMessages_record :
    (s.Falls n → (overrunMessages s.overrunRecords).record n = { s.record n with status := .stale, progress := 0 }) ∧
      (¬s.Falls n → (overrunMessages s.overrunRecords).record n = s.record n) := by
  have hover := (overrunRecords_spec s hshape).1
  have hrecs : (overrunMessages s.overrunRecords).recs = s.overrunRecords.1.recs := by
    rw [overrunMessages_frame hshape]
  rw [State.record, hrecs]
  exact ⟨fun h => (hover.fallen n hn (List.mem_range.2 hn) h).1, fun h => (hover.others n hn fun hc => h hc.2).1⟩

theorem overrunMessages_speedKind :
    (s.Falls n ∧ s.kind n = .speed → (overrunMessages s.overrunRecords).speedKind n = (s.speedKind n).discard) ∧
      (¬(s.Falls n ∧ s.kind n = .speed) → (overrunMessages s.overrunRecords).speedKind n = s.speedKind n) := by
  have hover := (overrunRecords_spec s hshape).1
  have hkinds : (overrunMessages s.overrunRecords).speed.kinds = s.overrunRecords.1.speed.kinds := by
    rw [overrunMessages_frame hshape]
  rw [State.speedKind, hkinds]
  refine ⟨fun ⟨h, hk⟩ => (hover.fallen n hn (List.mem_range.2 hn) h).2.1 hk, fun hno => ?_⟩
  by_cases h : s.Falls n
  · exact (hover.fallen n hn (List.mem_range.2 hn) h).2.2.1 fun hk => hno ⟨h, hk⟩
  · exact (hover.others n hn fun hc => h hc.2).2.1

/-- The kind state of an ASPECT record once the records have fallen, before the messages. -/
theorem overrunRecords_aspectKind :
    (s.Falls n ∧ s.kind n = .aspect → s.overrunRecords.1.aspectKind n = (s.aspectKind n).discard) ∧
      (¬(s.Falls n ∧ s.kind n = .aspect) → s.overrunRecords.1.aspectKind n = s.aspectKind n) := by
  have hover := (overrunRecords_spec s hshape).1
  refine ⟨fun ⟨h, hk⟩ => ?_, fun hno => ?_⟩
  · obtain ⟨-, -, -, hdiscard, -⟩ := hover.fallen n hn (List.mem_range.2 hn) h
    exact hdiscard hk
  · by_cases h : s.Falls n
    · obtain ⟨-, -, -, -, hsame⟩ := hover.fallen n hn (List.mem_range.2 hn) h
      exact hsame fun hk => hno ⟨h, hk⟩
    · exact (hover.others n hn fun hc => h hc.2).2.2

theorem overrunMessages_aspectKind :
    (s.Falls n ∧ s.kind n = .aspect → ((overrunMessages s.overrunRecords).aspectKind n).shown = none ∧
      ((overrunMessages s.overrunRecords).aspectKind n).upgrade = none) ∧
    (¬(s.Falls n ∧ s.kind n = .aspect) →
      ((overrunMessages s.overrunRecords).aspectKind n).shown = (s.aspectKind n).shown ∧
      ((overrunMessages s.overrunRecords).aspectKind n).upgrade = (s.aspectKind n).upgrade) := by
  obtain ⟨hfalls, hstays⟩ := overrunRecords_aspectKind hshape hn
  obtain ⟨hshown, hupgrade⟩ := (overrun_alongside hshape).1.kinds n
  rw [hshown, hupgrade]
  refine ⟨fun h => ?_, fun h => ?_⟩
  · rw [hfalls h]
    exact ⟨rfl, rfl⟩
  · rw [hstays h]
    exact ⟨rfl, rfl⟩

theorem overrunMessages_awaiting (hdue : s.pressDue = false) :
    ((overrunMessages s.overrunRecords).aspectKind n).awaiting = (s.aspectKind n).awaiting := by
  obtain ⟨hfalls, hstays⟩ := overrunRecords_aspectKind hshape hn
  rw [State.aspectKind, (overrun_quiet hshape hdue).1, ← State.aspectKind]
  by_cases h : s.Falls n ∧ s.kind n = .aspect
  · rw [hfalls h]
    rfl
  · rw [hstays h]

end

/-- Of the notices an overrun changes RECORD_LEFT_VALID, and LIST_OVERFLOW. -/
theorem overrunMessages_notices {s : State} (hshape : ShapeInv s) :
    (overrunMessages s.overrunRecords).status.notices.overrun = s.status.notices.overrun ∧
      ((overrunMessages s.overrunRecords).status.notices.leftValid = true ↔ s.status.notices.leftValid = true ∨
        ∃ n, n < 24 ∧ s.kind n ≠ .none ∧ (s.record n).status = .valid) := by
  have hover := (overrunRecords_spec s hshape).1
  have hleft := hover.leftValid
  have hoverrun : s.overrunRecords.1.status.notices.overrun = s.status.notices.overrun := by
    rw [hover.rest]
  rw [(overrun_alongside hshape).1.notices]
  refine ⟨hoverrun, hleft.trans (or_congr_right (exists_congr fun n => and_congr_left fun _ => ?_))⟩
  exact List.mem_range

/-- The entries a raise left, as the statement has them. -/
theorem exists_entry_of_body {s t : State} {n : Nat} {b : Entry} (hb : b ∈ t.msg.bodies)
    (hraised : RaisedEntry s (s.staleRequest n 3) b) :
    ∃ e ∈ t.msg.entries, e.code = 1024 + n ∧ e.marker = 3#8 ∧ e.state = (if e.needsAck then .unacked else .acked) ∧
      ((∀ x ∈ s.msg.entries, x.code ≠ 1024 + n) →
        e.cls = (s.cfg.entry n).staleClass ∧ e.needsAck = (s.cfg.entry n).staleNeedsAck ∧
          e.source = .interposer ∧ e.raiseTime = s.ctl.ms ∧ e.count = 1) := by
  obtain ⟨e, he, rfl⟩ := List.mem_map.1 hb
  exact ⟨e, he, hraised⟩

/-- The notices and counts an overrun leaves in a list with room. -/
theorem overrunRecords_status {s : State} (hshape : ShapeInv s) :
    s.overrunRecords.1.status.counts = s.status.counts ∧
      s.overrunRecords.1.status.notices.listOverflow = s.status.notices.listOverflow := by
  have hrest := (overrunRecords_spec s hshape).1.rest
  exact ⟨by rw [hrest], by rw [hrest]⟩

theorem countUp_eq {k : Nat} (h : k ≤ 255) : countUp k = if k = 255 then 255 else k + 1 := by
  unfold countUp
  split <;> split <;> omega

theorem overrunRecords_none {s : State} (hshape : ShapeInv s) (hnone : ∀ n, n < 24 → ¬s.Falls n) :
    s.overrunRecords = (s.overrunRecords.1, []) := by
  have hnil : s.overrunRecords.2 = [] := (overrunRecords_spec s hshape).2.trans
    (List.flatMap_eq_nil_iff.2 fun n hn => overrunAsk_stays (hnone n (List.mem_range.1 hn)))
  rw [← hnil]

/-- The list of an overrun of no record, the entry 1125 at the head and a press due in RUN (R137, R140, log 25). -/
theorem overrunMessages_press {s : State} (hshape : ShapeInv s) (hlist : ListInv s) (hrun : s.ctl.part = .run)
    {m : Time} (hpress : s.msg.debouncer = .pressing m) (hlong : 30 ≤ (s.ctl.ms - m).toNat) {h : Entry}
    {rest : List Entry} (hes : s.msg.entries = h :: rest) (hcode : h.code = 1125) (hneeds : h.needsAck = true)
    (hsettle : s.cfg.settleTime ≤ elapsed h.headSince s.now) (hnone : ∀ n, n < 24 → ¬s.Falls n) :
    ((overrunMessages s.overrunRecords).msg =
        { s.msg with entries := (overrunMessages s.overrunRecords).msg.entries } ∧
      ListBecomes s.msg (overrunMessages s.overrunRecords).msg s.ctl.ms
        ({ h with count := if h.count = 255 then 255 else h.count + 1, marker := 0#8, state := .clearedUnacked } ::
          othersOf 1125 s.msg.entries)) ∨
    ((overrunMessages s.overrunRecords).msg = { s.msg with
        entries := (overrunMessages s.overrunRecords).msg.entries
        recalls := ({ code := 1125, cls := h.cls, marker := 0#8, raiseTime := h.raiseTime,
                      removeTime := s.ctl.ms } :: s.msg.recalls).take 10
        debouncer := .pressed } ∧
      ListBecomes s.msg (overrunMessages s.overrunRecords).msg s.ctl.ms (othersOf 1125 s.msg.entries)) := by
  have hm := hlist.overrunAtHead hes hcode hneeds
  have hrest := (overrunRecords_spec s hshape).1.rest
  have hmsg : s.overrunRecords.1.msg = s.msg := by rw [hrest]
  have hctl : s.overrunRecords.1.ctl = s.ctl := by rw [hrest]
  have hcfg : s.overrunRecords.1.cfg = s.cfg := by rw [hrest]
  have hnow : s.overrunRecords.1.now = s.ctl.ms := by rw [State.now, hctl]
  have hdue : s.overrunRecords.1.pressDue = true := pressDue_true (hmsg ▸ hpress) (by rw [hctl]; exact hlong)
  have hhead := overrunMessages_head (s := s.overrunRecords.1) (hmsg.symm ▸ hm) (by rw [hctl, hrun]) hdue
    (by rw [hcfg, hnow]; exact hsettle)
  rw [hmsg, hnow, ← overrunRecords_none hshape hnone] at hhead
  rw [hm.othersOf]
  have hcount : h.count ≤ 255 := by
    obtain ⟨-, -, -, -, hentries, -⟩ := hlist
    obtain ⟨-, -, -, hc⟩ := hentries h (hes ▸ List.mem_cons_self)
    exact hc
  rcases hhead with e | e <;> rw [e]
  · left
    have hcleared : ({ raisedHead h with state := .clearedUnacked } : Entry) =
        { h with count := if h.count = 255 then 255 else h.count + 1, marker := 0#8, state := .clearedUnacked } := by
      rw [← countUp_eq hcount]
      rfl
    obtain ⟨-, hraised⟩ := hm.raise s.ctl.ms
    obtain ⟨-, hcl⟩ := hraised.clear s.ctl.ms hm.raisedHead_state
    rw [hcleared] at hcl ⊢
    exact ⟨rfl, listBecomes_head hes rfl hcl.order rfl rfl⟩
  · right
    refine ⟨?_, listBecomes_nextHead hes rfl (List.pairwise_cons.1 hm.order).2 hm.others⟩
    rw [pushRecall, show ({ raisedHead h with state := .acked } : Entry).code = 1125 from hcode]
    rfl

/-- Settles O21. -/
theorem refreshOverrunMakesRecordsStale : Obligations.RefreshOverrunMakesRecordsStale := by
  intro s hshape0 hserv htick h7 harm falls noPressDue
  have hshape : ShapeInv s.overrunStart := hshape0
  have hdue : noPressDue → s.overrunStart.pressDue = false := pressDue_false (s := s.overrunStart)
  obtain ⟨halong, hcleared⟩ := overrun_alongside hshape
  obtain ⟨hoverrun, hleft⟩ := overrunMessages_notices hshape
  have hframe := overrunMessages_frame hshape
  refine ⟨_, (exec_refreshTick s htick).trans (congrArg complete (refreshTick_inService s hserv h7 harm)),
    fun n hn => ?_, fun n hn => ?_, hoverrun, hleft, fun e he => hcleared e.body (List.mem_map_of_mem he),
    ?_, ?_, ?_, ?_, ?_, ?_⟩
  · by_cases h : falls n
    · exact ((overrunMessages_record hshape hn).1 h).trans (if_pos h).symm
    · exact ((overrunMessages_record hshape hn).2 h).trans (if_neg h).symm
  · obtain ⟨hspeed, hspeed'⟩ := overrunMessages_speedKind hshape hn
    obtain ⟨haspect, haspect'⟩ := overrunMessages_aspectKind hshape hn
    refine ⟨?_, ?_, ?_, fun hno => overrunMessages_awaiting hshape hn (hdue hno)⟩
    · by_cases h : falls n ∧ s.kind n = .speed
      · exact (hspeed h).trans (if_pos h).symm
      · exact (hspeed' h).trans (if_neg h).symm
    · by_cases h : falls n ∧ s.kind n = .aspect
      · exact (haspect h).1.trans (if_pos h).symm
      · exact (haspect' h).1.trans (if_neg h).symm
    · by_cases h : falls n ∧ s.kind n = .aspect
      · exact (haspect h).2.trans (if_pos h).symm
      · exact (haspect' h).2.trans (if_neg h).symm
  · show (overrunMessages s.overrunStart.overrunRecords).path = _
    rw [hframe]
    rfl
  · show (overrunMessages s.overrunStart.overrunRecords).mem = _
    rw [hframe]
    rfl
  · show (overrunMessages s.overrunStart.overrunRecords).driveLines = _
    generalize overrunMessages s.overrunStart.overrunRecords = y at hframe
    rw [hframe]
    rfl
  · intro hno
    refine (overrun_quiet hshape (hdue hno)).2.trans ?_
    rw [(overrunRecords_spec _ hshape).1.rest]
    rfl
  · intro hno _ hroom
    have hp : ∀ n, s.overrunStart.Falls n → decide (falls n) = true := fun n h => decide_eq_true h
    have hstatus := overrun_status hshape hp hroom (hdue hno)
    obtain ⟨hcounts, hoverflow⟩ := overrunRecords_status hshape
    refine ⟨(congrArg (fun x => x.counts) hstatus).trans hcounts,
      (congrArg (fun x => x.notices.listOverflow) hstatus).trans hoverflow,
      fun n hn hk => ⟨fun hs => ?_, fun hs x hx hcode => ?_⟩⟩
    · obtain ⟨b, hb, hraised⟩ := overrun_raises_entry hshape hp hroom (hdue hno) hn hk hs
      exact exists_entry_of_body hb hraised
    · obtain ⟨e, he, hbody⟩ := List.mem_map.1 (overrun_keeps_entry hshape hp hroom (hdue hno) hn hs hx hcode)
      exact ⟨e, he, (congrArg Entry.code hbody :), (congrArg Entry.marker hbody :), (congrArg Entry.state hbody :),
        (congrArg Entry.count hbody :)⟩
  · intro m h rest hlist hrun hpress hlong hes hcode hneeds hsettle hnone
    exact overrunMessages_press hshape hlist hrun hpress hlong hes hcode hneeds hsettle hnone

end Sys2Proof.Machine
end

section
/-! PROOFS. The tables of the configuration and the address classifier: O60. -/

namespace Sys2Proof.Machine

/-! ### Fields of a word (00, section 0.6) -/

theorem bits_eq (w : Word) (hi lo : Nat) : bits w hi lo = w.toNat / 2 ^ lo % 2 ^ (hi - lo + 1) := rfl

theorem bit_iff (w : Word) (i : Nat) : bit w i = true ↔ w.toNat / 2 ^ i % 2 = 1 := by
  rw [bit, beq_iff_eq, bits_eq, Nat.sub_self, Nat.zero_add, pow_one]

theorem flagBit_bit (w : Word) (i j : Nat) : flagBit (bit w i) j = 2 ^ j * (w.toNat / 2 ^ i % 2) := by
  rcases Nat.mod_two_eq_zero_or_one (w.toNat / 2 ^ i) with h | h
  · have hb : ¬bit w i = true := by rw [bit_iff]; omega
    rw [flagBit, if_neg hb, h, Nat.mul_zero]
  · rw [flagBit, if_pos ((bit_iff w i).2 h), h, Nat.mul_one]

/-- An address of a table: its bit 16 from a bit of one word, the rest from another word (Tables 2.1 and 3.1). -/
theorem addrOf_toNat (v low : Word) (i : Nat) :
    (addrOf (bit v i) low).toNat = 65536 * (v.toNat / 2 ^ i % 2) + low.toNat := by
  have hlow := low.isLt
  rw [addrOf, flagBit_bit, BitVec.toNat_ofNat]
  omega

/-! ### The entries of the tables (R19, R35, R37) -/

theorem region_is (c : Sections) (i : Nat) : RegionIs c i (c.region i) := by
  have hv := (at0 c.regions (3 * i)).isLt
  have hmatch : bits (at0 c.regions (3 * i)) 15 14 = (at0 c.regions (3 * i)).toNat / 16384 := by
    rw [bits_eq]; omega
  refine ⟨?_, ?_, ?_, ?_, ?_, ?_, ?_, ?_, ?_, ?_, ?_, ?_, ?_, ?_, addrOf_toNat _ _ 7, addrOf_toNat _ _ 6, ?_⟩
  case refine_15 => simp only [Sections.region, bits_eq]; omega
  all_goals
    intro h
    simp only [Sections.region, hmatch, bits_eq, Nat.reducePow, Nat.reduceSub, Nat.reduceAdd, h]
    rfl

theorem entry_is (c : Sections) (n : Nat) : RecordEntryIs c n (c.entry n) := by
  have hv := (at0 c.records (4 * n)).isLt
  have hlast := (at0 c.records (4 * n + 3)).isLt
  have hkind : (c.entry n).kind = kindOf ((at0 c.records (4 * n)).toNat / 8192) := by
    show kindOf (bits _ 15 13) = _
    rw [bits_eq]
    congr 1
    omega
  have hinput : (c.entry n).inputField = (at0 c.records (4 * n)).toNat / 512 % 16 := rfl
  refine ⟨?_, ?_, ?_, ?_, ?_, rfl, addrOf_toNat _ _ 6, addrOf_toNat _ _ 5, rfl, rfl, rfl, bit_iff _ 2, ?_, rfl, rfl⟩
  case refine_1 => exact fun h => hkind.trans (by rw [h]; rfl)
  case refine_6 =>
    show bits _ 15 8 = _
    rw [bits_eq]
    omega
  all_goals
    intro h
    rw [h] at hkind
    simp only [RecordEntry.inputs, RecordEntry.length, hkind, hinput]
    exact ⟨rfl, rfl, rfl⟩

/-! ### Matching (R21) -/

theorem Region.hits_off {e : Region} (a : Addr) (h : e.matchType = .off) : e.hits a = false := by
  rw [Region.hits, h]

theorem Region.hits_range {e : Region} (a : Addr) (h : e.matchType = .range) :
    e.hits a = true ↔ e.opA.toNat ≤ a.toNat ∧ a.toNat ≤ e.opB.toNat := by
  simp only [Region.hits, h, Bool.and_eq_true, decide_eq_true_eq]

theorem Region.hits_pair {e : Region} (a : Addr) (h : e.matchType = .pair) :
    e.hits a = true ↔ a = e.opA ∨ a = e.opB := by
  simp only [Region.hits, h, Bool.or_eq_true, beq_iff_eq]

/-- A MASKED element compares the address with operand A where operand B has a 1. -/
theorem Region.hits_masked {e : Region} (a : Addr) (h : e.matchType = .masked) :
    e.hits a = true ↔ ∀ i, i < 17 → e.opB.getLsbD i = true → a.getLsbD i = e.opA.getLsbD i := by
  simp only [Region.hits, h, beq_iff_eq]
  constructor
  · intro heq i _ hb
    have hbit := congrArg (fun x => BitVec.getLsbD x i) heq
    simpa only [BitVec.getLsbD_and, hb, Bool.and_true] using hbit
  · intro hall
    refine BitVec.eq_of_getLsbD_eq fun i hi => ?_
    rw [BitVec.getLsbD_and, BitVec.getLsbD_and]
    cases hb : e.opB.getLsbD i with
    | false => rw [Bool.and_false, Bool.and_false]
    | true => rw [hall i hi hb]

/-! ### Copy areas (R24) -/

theorem RecordEntry.inCopy_iff (e : RecordEntry) (a : Addr) :
    e.inCopy a = true ↔ ∃ b, (b = e.copyA ∨ b = e.copyB) ∧ b.toNat ≤ a.toNat ∧ a.toNat < b.toNat + e.length := by
  simp only [RecordEntry.inCopy, Bool.or_eq_true, Bool.and_eq_true, decide_eq_true_eq]
  constructor
  · rintro (h | h)
    · exact ⟨_, Or.inl rfl, h⟩
    · exact ⟨_, Or.inr rfl, h⟩
  · rintro ⟨b, rfl | rfl, h⟩
    · exact Or.inl h
    · exact Or.inr h

theorem Sections.inCopyArea_iff (c : Sections) (a : Addr) :
    c.inCopyArea a = true ↔ ∃ n, n < 24 ∧ ∃ b, (b = (c.entry n).copyA ∨ b = (c.entry n).copyB) ∧
      b.toNat ≤ a.toNat ∧ a.toNat < b.toNat + (c.entry n).length := by
  simp only [Sections.inCopyArea, recordIndices, List.any_eq_true, List.mem_range, RecordEntry.inCopy_iff]

/-! ### The class of an address (R22, R23) -/

theorem PortSet.includes_iff (x : PortSet) (p : ReqPort) :
    x.includes p = true ↔ x = .both ∨ (x = .upstream ∧ p = .upstream) ∨ (x = .scan ∧ p = .scan) := by
  cases x <;> cases p <;> decide

/-- Element `i` matches the address and applies to the port. -/
def Sections.applies (c : Sections) (p : ReqPort) (a : Addr) (i : Nat) : Bool :=
  (c.region i).hits a && (c.region i).ports.includes p

theorem Sections.applies_iff (c : Sections) (p : ReqPort) (a : Addr) (i : Nat) :
    c.applies p a i = true ↔ (c.region i).hits a = true ∧
      ((c.region i).ports = .both ∨ ((c.region i).ports = .upstream ∧ p = .upstream) ∨
        ((c.region i).ports = .scan ∧ p = .scan)) := by
  rw [Sections.applies, Bool.and_eq_true, PortSet.includes_iff]

theorem Sections.decide_eq (c : Sections) (p : ReqPort) (a : Addr) :
    c.decide p a = ((List.range 40).find? (c.applies p a)).map c.region := List.find?_map ..

theorem Sections.classify_copy {c : Sections} {a : Addr} (p : ReqPort) (h : c.inCopyArea a = true) :
    c.classify p a = .copy := if_pos h

/-- Outside the copy areas, with no element that applies. -/
theorem Sections.classify_unmatched {c : Sections} {p : ReqPort} {a : Addr} (h : ¬c.inCopyArea a = true)
    (hno : ∀ i, i < 40 → ¬c.applies p a i = true) : c.classify p a = .unmatched := by
  have hnone : (List.range 40).find? (c.applies p a) = none :=
    List.find?_eq_none.2 fun i hi => hno i (List.mem_range.1 hi)
  rw [Sections.classify, if_neg h, Sections.decide_eq, hnone]
  rfl

/-- Outside the copy areas the lowest element that applies decides. -/
theorem Sections.classify_lowest {c : Sections} {p : ReqPort} {a : Addr} {i : Nat} (h : ¬c.inCopyArea a = true)
    (hi : i < 40) (happlies : c.applies p a i = true) (hlow : ∀ j, j < i → ¬c.applies p a j = true) :
    c.classify p a = (c.region i).classOf a := by
  have hsome : (List.range 40).find? (c.applies p a) = some i :=
    List.find?_range_eq_some.2 ⟨happlies, List.mem_range.2 hi, fun j hj => by
      rw [Bool.eq_false_iff.2 (hlow j hj)]; rfl⟩
  rw [Sections.classify, if_neg h, Sections.decide_eq, hsome]
  rfl

/-- Settles O60: the fields read off the tables' words, then the lowest element by `Sections.classify_lowest`. -/
theorem lowestMatchingElementDecides : Obligations.LowestMatchingElementDecides := by
  refine ⟨region_is, entry_is, fun e a => ⟨e.hits_off a, e.hits_range a, e.hits_pair a, e.hits_masked a⟩,
    fun c p a => ?_⟩
  simp only [← Sections.inCopyArea_iff, ← Sections.applies_iff]
  refine ⟨Sections.classify_copy p, Sections.classify_unmatched, fun i hno hi happlies hlow => ?_⟩
  rw [Sections.classify_lowest hno hi happlies hlow]
  refine ⟨?_, ?_, ?_, ?_, ?_, ?_, ?_⟩ <;> intro h <;> rw [Region.classOf, h] <;> rfl

end Sys2Proof.Machine
end

section
/-! PROOFS. The copy areas of the records are apart, and who writes the indication memory: O10. -/

namespace Sys2Proof.Machine

/-! ### What the consistency check says of the copy areas (R168, Table 10.2 code 3) -/

theorem Sections.fails3_of_check {c : Sections} (h : c.check = none) : c.fails3 = false := by
  rw [Bool.eq_false_iff]
  intro h3
  unfold Sections.check at h
  split_ifs at h

theorem someOverlap_iff (xs : List (Nat × Nat)) :
    someOverlap xs = false ↔ xs.Pairwise fun x y => areasMeet x y = false := by
  induction xs with
  | nil => simp [someOverlap]
  | cons x xs ih => simp [someOverlap, ih]

theorem areasMeet_false_iff (x y : Nat × Nat) : areasMeet x y = false ↔ y.1 + y.2 ≤ x.1 ∨ x.1 + x.2 ≤ y.1 := by
  rw [Bool.eq_false_iff, areasMeet, Ne, Bool.and_eq_true, decide_eq_true_eq, decide_eq_true_eq]
  omega

theorem areasMeet_comm (x y : Nat × Nat) : areasMeet x y = areasMeet y x := Bool.and_comm _ _

theorem Sections.mem_heldRecords (c : Sections) (n : Nat) : n ∈ c.heldRecords ↔ n < 24 ∧ (c.entry n).held = true := by
  simp [Sections.heldRecords, recordIndices]

/-- The area of copy `x` of record `n`: base and length (R38). -/
def Sections.copyArea (c : Sections) (n : Nat) (x : Copy) : Nat × Nat :=
  (((c.entry n).base x).toNat, (c.entry n).length)

theorem Sections.copyAreas_eq (c : Sections) :
    c.copyAreas = c.heldRecords.flatMap fun n => [c.copyArea n .a, c.copyArea n .b] := rfl

/-- No copy area passes the last address. -/
theorem Sections.copyArea_fits {c : Sections} (h : c.check = none) {n : Nat} (hn : n ∈ c.heldRecords) (x : Copy) :
    ((c.entry n).base x).toNat + (c.entry n).length ≤ 131072 := by
  have h3 := c.fails3_of_check h
  have hmem : c.copyArea n x ∈ c.copyAreas := by
    rw [c.copyAreas_eq, List.mem_flatMap]
    exact ⟨n, hn, by cases x <;> simp⟩
  simp only [Sections.fails3, Bool.or_eq_false_iff, List.any_eq_false, decide_eq_true_eq] at h3
  have hfit := h3.1.1 _ hmem
  simp only [Sections.copyArea, Config.lastAddress] at hfit
  omega

/-- Two copy areas share no address, unless they are the same copy of the same record. -/
theorem Sections.copyAreas_apart {c : Sections} (h : c.check = none) {n m : Nat} (hn : n ∈ c.heldRecords)
    (hm : m ∈ c.heldRecords) {x y : Copy} (hne : n ≠ m ∨ x ≠ y) :
    areasMeet (c.copyArea n x) (c.copyArea m y) = false := by
  have h3 := c.fails3_of_check h
  simp only [Sections.fails3, Bool.or_eq_false_iff] at h3
  have hpair := (someOverlap_iff _).1 h3.1.2
  rw [c.copyAreas_eq, List.pairwise_flatMap] at hpair
  obtain ⟨hsame, hother⟩ := hpair
  have hsym : Std.Symm fun i j => ∀ p ∈ [c.copyArea i .a, c.copyArea i .b],
      ∀ q ∈ [c.copyArea j .a, c.copyArea j .b], areasMeet p q = false :=
    ⟨fun i j hij p hp q hq => (areasMeet_comm p q).trans (hij q hq p hp)⟩
  by_cases heq : n = m
  · subst heq
    have hab : areasMeet (c.copyArea n .a) (c.copyArea n .b) = false := by simpa using hsame n hn
    have hxy : x ≠ y := hne.resolve_left (not_not.2 rfl)
    cases x <;> cases y
    · exact absurd rfl hxy
    · exact hab
    · exact (areasMeet_comm _ _).trans hab
    · exact absurd rfl hxy
  · exact hother.forall hn hm heq _ (by cases x <;> simp) _ (by cases y <;> simp)

/-! ### Addresses of the copies (R38) -/

/-- An entry with a window of some length is in use. -/
theorem RecordEntry.held_of_lt_length {e : RecordEntry} {k : Nat} (h : k < e.length) : e.held = true := by
  rw [RecordEntry.held, bne_iff_ne]
  intro hnone
  rw [RecordEntry.length, hnone] at h
  exact absurd h (Nat.not_lt_zero k)

/-- The check word lies in the window (Table 3.2). -/
theorem RecordEntry.inputs_lt_length {e : RecordEntry} (h : e.held = true) : e.inputs < e.length := by
  rw [RecordEntry.held, bne_iff_ne] at h
  unfold RecordEntry.inputs RecordEntry.length
  cases hk : e.kind with
  | none => exact absurd hk h
  | plain => exact Nat.lt_succ_self _
  | speed | aspect | select => dsimp only; omega

/-- The record table has 24 entries, and past it every entry reads as not in use (R35). -/
theorem Sections.held_lt {c : Sections} (hshape : c.shaped) {n : Nat} (h : (c.entry n).held = true) : n < 24 := by
  obtain ⟨-, -, hrecords, -⟩ := hshape
  by_contra hn
  have hword : at0 c.records (4 * n) = 0#16 := List.getD_eq_default _ _ (by omega)
  have hkind : (c.entry n).kind = .none := by
    simp only [Sections.entry, hword]
    rfl
  rw [RecordEntry.held, hkind] at h
  exact absurd h (by decide)

theorem State.mem_heldRecords {s : State} {n k : Nat} (hn : n < 24) (hk : k < (s.cfg.entry n).length) :
    n ∈ s.cfg.heldRecords := (s.cfg.mem_heldRecords n).2 ⟨hn, RecordEntry.held_of_lt_length hk⟩

/-- Under a configuration that passes the check no copy address wraps. -/
theorem State.copyAddr_toNat {s : State} (h : s.cfg.check = none) {n k : Nat} (hn : n < 24)
    (hk : k < (s.cfg.entry n).length) (x : Copy) :
    (s.copyAddr n x k).toNat = ((s.cfg.entry n).base x).toNat + k := by
  have hfit := s.cfg.copyArea_fits h (State.mem_heldRecords hn hk) x
  rw [State.copyAddr, BitVec.toNat_add, BitVec.toNat_ofNat]
  omega

/-- Words of different copies lie at different addresses. -/
theorem State.copyAddr_ne {s : State} (h : s.cfg.check = none) {n m k j : Nat} (hn : n < 24) (hm : m < 24)
    (hk : k < (s.cfg.entry n).length) (hj : j < (s.cfg.entry m).length) {x y : Copy} (hne : n ≠ m ∨ x ≠ y) :
    s.copyAddr n x k ≠ s.copyAddr m y j := by
  intro heq
  have hnat := congrArg BitVec.toNat heq
  rw [State.copyAddr_toNat h hn hk, State.copyAddr_toNat h hm hj] at hnat
  have hapart := s.cfg.copyAreas_apart h (State.mem_heldRecords hn hk) (State.mem_heldRecords hm hj) hne
  simp only [areasMeet_false_iff, Sections.copyArea] at hapart
  omega

/-- A word of a copy has a COPY address (R24). -/
theorem State.copyAddr_inCopyArea {s : State} (h : s.cfg.check = none) {n k : Nat} (hn : n < 24)
    (hk : k < (s.cfg.entry n).length) (x : Copy) : s.cfg.inCopyArea (s.copyAddr n x k) = true := by
  rw [Sections.inCopyArea_iff]
  refine ⟨n, hn, (s.cfg.entry n).base x, by cases x <;> simp [RecordEntry.base], ?_⟩
  rw [State.copyAddr_toNat h hn hk]
  omega

/-! ### Where a WRITE goes (Table 2.2) -/

/-- The memory address that a transaction of this disposition uses. -/
def Disposition.address : Disposition → Option Addr
  | .memory a => some a
  | .memoryPost a _ => some a
  | .memoryRecord a _ _ => some a
  | .heldAtStart => none
  | .dropped => none
  | .droppedCopy => none
  | .answered _ => none
  | .answeredFree => none
  | .answeredStatus0 => none
  | .heldForPin => none

/-- A window write that needs memory goes to the back copy of a record that is in use and not pinned, at most to its
check word (R40). -/
theorem State.decideWindowWrite_address {s : State} {n k : Nat} {a : Addr}
    (h : (s.decideWindowWrite n k).address = some a) :
    a = s.copyAddr n (s.record n).front.other k ∧ s.pinned n = false ∧ (s.cfg.entry n).held = true ∧
      k ≤ (s.cfg.entry n).inputs := by
  unfold State.decideWindowWrite at h
  split_ifs at h with hbarred hpinned hout
  · cases h
  · cases h
  · cases h
  · rw [not_or, Nat.not_lt, not_not] at hout
    obtain ⟨hk, hheld⟩ := hout
    cases h
    exact ⟨rfl, Bool.eq_false_iff.2 hpinned, hheld, hk⟩

/-- In RUN and RETAIN a WRITE that needs memory goes to its own address, outside the copy areas, or to the back copy of a
record. -/
theorem State.write_address {s : State} (hs : s.inService = true) {x a : Addr} {w : Word}
    (h : (s.disposition (.write x w)).address = some a) :
    (a = x ∧ s.cfg.inCopyArea x = false) ∨ ∃ n k, (s.decideWindowWrite n k).address = some a := by
  rw [s.disposition_write x w hs] at h
  have hout : s.cfg.classify .upstream x ≠ .copy → s.cfg.inCopyArea x = false := fun hne =>
    Bool.eq_false_iff.2 fun hin => hne (Sections.classify_copy _ hin)
  cases hc : s.cfg.classify .upstream x with
  | record n k =>
    rw [hc] at h
    exact Or.inr ⟨n, k, h⟩
  | pass | unmatched | post =>
    rw [hc] at h
    cases h
    exact Or.inl ⟨rfl, hout (by rw [hc]; exact nofun)⟩
  | copy | protect | slot | recalled | status =>
    rw [hc] at h
    cases h

theorem Copy.ne_other (x : Copy) : x ≠ x.other := by cases x <;> exact nofun

/-- In RUN and RETAIN no WRITE goes to a word of a front copy, nor to a word of a pinned record's copies. -/
theorem State.write_misses {s : State} (hshape : ShapeInv s) (hs : s.inService = true) (hcheck : s.cfg.check = none)
    {x a : Addr} {w : Word} (h : (s.disposition (.write x w)).address = some a) {n k : Nat} (hn : n < 24)
    (hk : k < (s.cfg.entry n).length) {y : Copy} (hy : y = (s.record n).front ∨ s.pinned n = true) :
    s.copyAddr n y k ≠ a := by
  rcases State.write_address hs h with ⟨rfl, hout⟩ | ⟨m, j, hm⟩
  · rintro rfl
    rw [State.copyAddr_inCopyArea hcheck hn hk] at hout
    exact absurd hout (by decide)
  · obtain ⟨rfl, hpin, hheld, hj⟩ := State.decideWindowWrite_address hm
    have hlast := RecordEntry.inputs_lt_length hheld
    refine State.copyAddr_ne hcheck hn (s.cfg.held_lt hshape.1 hheld) hk (by omega) ?_
    by_cases hnm : n = m
    · subst hnm
      rcases hy with rfl | hpinned
      · exact Or.inr (Copy.ne_other _)
      · rw [hpin] at hpinned
        exact absurd hpinned (by decide)
    · exact Or.inl hnm

end Sys2Proof.Machine
end

section
/-! PROOFS. Which commands write the indication memory, and where: O10. -/

namespace Sys2Proof.Machine

/-! ### The upstream port writes at a grant alone (R3, R4) -/

theorem State.dispose_mem (s : State) (r : UpstreamRequest) : (s.dispose r).mem = s.mem := by
  rw [(s.dispose_only r).rest]

theorem State.arrive_mem (s : State) (r : UpstreamRequest) : (s.arrive r).mem = s.mem := by
  unfold State.arrive
  split
  · exact s.dispose_mem r
  all_goals rfl

theorem State.releasePinHeld_mem (s : State) : s.releasePinHeld.mem = s.mem := by
  unfold State.releasePinHeld
  split
  · exact State.dispose_mem _ _
  all_goals rfl

theorem State.releaseUpstream_mem (s : State) : s.releaseUpstream.mem = s.mem := by
  unfold State.releaseUpstream
  split
  · exact State.dispose_mem _ _
  all_goals rfl

theorem State.columnDone_mem (s : State) : s.columnDone.mem = s.mem := by
  obtain ⟨p, h⟩ := columnDone_path s
  rw [h]
  rfl

/-- The memory after some write of `r`, if `r` is a WRITE whose disposition in `s` needs memory, or the memory as it was. -/
def State.WritesOf (s : State) (r : UpstreamRequest) (m : Memory) : Prop :=
  m = s.mem ∨ ∃ x w a, r = .write x w ∧ (s.disposition r).address = some a ∧ m = s.mem.write a w

theorem State.serveMemory_mem {s : State} {r : UpstreamRequest} {a : Addr} (h : (s.disposition r).address = some a) :
    s.WritesOf r (s.upstreamGranted.serveMemory r a).mem := by
  cases r with
  | read x => exact Or.inl rfl
  | write x w => exact Or.inr ⟨x, w, a, rfl, h, rfl⟩

/-- A granted transaction writes where its disposition says (R4). -/
theorem State.serveGranted_mem (s : State) (r : UpstreamRequest) :
    s.WritesOf r (s.upstreamGranted.serveGranted r).mem := by
  have hfree : ((s.upstreamGranted.dispose r).freePort).mem = s.mem := State.dispose_mem _ _
  rw [State.serveGranted, State.upstreamGranted_disposition]
  cases hd : s.disposition r with
  | memory a => exact State.serveMemory_mem (by rw [hd]; rfl)
  | memoryPost a k =>
    simp only [(State.capture_sameFrame _ k _).mem]
    exact State.serveMemory_mem (by rw [hd]; rfl)
  | memoryRecord a n k =>
    simp only [(Event.finish_sameFrame (State.writeStep_only _ n k _)).mem]
    exact State.serveMemory_mem (by rw [hd]; rfl)
  | _ => exact Or.inl hfree

/-- The memory after a WRITE that some upstream transaction makes, or the memory as it was. -/
def State.WritesSome (s : State) (m : Memory) : Prop := ∃ r, s.WritesOf r m

theorem State.WritesSome.same (s : State) : s.WritesSome s.mem := ⟨.read 0#17, Or.inl rfl⟩

theorem State.grantUpstream_mem (s : State) : s.WritesSome s.grantUpstream.mem := by
  cases h : s.path.up with
  | claiming r =>
    rw [s.grantUpstream_claiming r h]
    exact ⟨r, s.serveGranted_mem r⟩
  | _ => simp only [State.grantUpstream, h]; exact .same s

theorem State.arbitrate_mem (s : State) : s.WritesSome s.arbitrate.mem := by
  unfold State.arbitrate
  split
  · split
    · exact .same s
    · exact s.grantUpstream_mem
    · unfold State.grantScan
      split <;> exact .same s
    · exact .same s
  all_goals exact .same s

/-- Where a transaction needs no memory, it is no claimant after its arrival. -/
theorem State.dispose_up (s : State) (r : UpstreamRequest) :
    s.dispose r = s.withUp (.claiming r) ∨ ∀ q, (s.dispose r).path.up ≠ .claiming q := by
  unfold State.dispose
  split
  case h_8 | h_9 | h_10 => exact Or.inl rfl
  all_goals exact Or.inr nofun

theorem State.deskWrite_mem (s : State) (a : Addr) (w : Word) : s.WritesSome (s.deskWrite a w).mem := by
  have hd : s.WritesSome (s.dispose (.write a w)).mem := by rw [s.dispose_mem]; exact .same s
  rw [s.deskWrite_eq]
  split
  · exact .same s
  · split
    · rw [State.columnDone_mem]
      rcases s.dispose_up (.write a w) with h | h
      · rw [h, State.grantUpstream_claiming _ _ rfl]
        obtain hm | ⟨x, v, b, hr, hdisp, hm⟩ := State.serveGranted_mem (s.withUp (.claiming (.write a w))) (.write a w)
        · rw [hm]
          exact .same s
        · rw [hm]
          refine ⟨_, Or.inr ⟨x, v, b, hr, ?_, rfl⟩⟩
          rw [← hdisp]
          exact congrArg Disposition.address (s.disposition_withPath _ _ rfl).symm
      · have hstay : (s.dispose (.write a w)).grantUpstream = s.dispose (.write a w) := by
          unfold State.grantUpstream
          split
          · exact absurd ‹_› (h _)
          all_goals rfl
        rw [hstay]
        exact hd
    · exact hd

/-! ### Every command (R1, R13, R18) -/

/-- What a command can do to the memory: nothing, lose its contents, or make the write of an upstream transaction. -/
inductive MemTurn (s : State) (m : Memory) : Prop where
  | kept (h : m = s.mem)
  | lost (h : m = s.mem.forget)
  | write (h : s.WritesSome m)

/-- What `exec` answers leaves such a memory. -/
def MemTurnOf (s : State) (o : Host.Outcome State Fault Refusal) : Prop := ∃ t, o = complete t ∧ MemTurn s t.mem

theorem MemTurnOf.ite {s : State} {p : Prop} [Decidable p] {o o' : Host.Outcome State Fault Refusal}
    (h : MemTurnOf s o) (h' : MemTurnOf s o') : MemTurnOf s (if p then o else o') := by
  split
  · exact h
  · exact h'

theorem memTurnOf_kept {s t : State} (h : t.mem = s.mem := by rfl) : MemTurnOf s (complete t) := ⟨t, rfl, .kept h⟩

theorem memTurnOf_lost {s t : State} (h : t.mem = s.mem.forget := by rfl) : MemTurnOf s (complete t) := ⟨t, rfl, .lost h⟩

/-- A command that takes effect only under its condition, and then keeps the memory. -/
theorem memTurnOf_guarded {s t : State} {p : Prop} [Decidable p] (h : t.mem = s.mem := by rfl) :
    MemTurnOf s (if p then complete t else complete s) := .ite (memTurnOf_kept h) (memTurnOf_kept rfl)

/-! ### Bursts, overruns and held traffic -/

theorem State.endBurst_mem (s : State) (phase : BurstPhase) : (s.endBurst phase).mem = s.mem := by
  unfold State.endBurst
  rw [State.releasePinHeld_mem]
  split <;> rfl

theorem State.deliver_mem (s : State) (b : Burst) (w : Word) : (s.deliver b w).mem = s.mem := by
  by_cases h : b.left ≤ 1
  · rw [s.deliver_last b w h]
    exact State.endBurst_mem _ _
  · rw [s.deliver_more b w (by omega)]
    rfl

theorem State.serveScanWord_mem (s : State) (b : Burst) : (s.serveScanWord b).mem = s.mem := by
  unfold State.serveScanWord
  split
  · split
    · exact State.deliver_mem _ _ _
    · rfl
  · exact s.deliver_mem _ _
  · exact State.deliver_mem _ _ _

theorem State.disposeBurst_mem (s : State) (start : Addr) (count : BitVec 8) :
    (s.disposeBurst start count).mem = s.mem := by
  unfold State.disposeBurst
  split <;> rfl

theorem State.arriveBurst_mem (s : State) (start : Addr) (count : BitVec 8) :
    (s.arriveBurst start count).mem = s.mem := by
  unfold State.arriveBurst
  split
  · exact s.disposeBurst_mem start count
  all_goals rfl

theorem State.releaseBurst_mem (s : State) : s.releaseBurst.mem = s.mem := by
  unfold State.releaseBurst
  split
  · exact State.disposeBurst_mem _ _ _
  all_goals rfl

theorem State.takeUp_mem (s : State) (inRun : Bool) (f : State → State) (h : ∀ u, (f u).mem = u.mem) :
    (s.takeUp inRun f).mem = s.mem := by
  unfold State.takeUp
  split
  · exact h _
  · exact h s

theorem State.releaseHeld_mem (s : State) : s.releaseHeld.mem = s.mem := by
  unfold State.releaseHeld
  split
  · exact (State.takeUp_mem _ _ _ State.releaseBurst_mem).trans (State.takeUp_mem _ _ _ State.releaseUpstream_mem)
  · exact (State.releaseBurst_mem _).trans s.releaseUpstream_mem

theorem State.startupLoad_mem (s : State) : s.startupLoad.mem = s.mem := by
  unfold State.startupLoad
  split
  · dsimp only
    split
    · exact State.enterRun_mem _
    · rfl
  · rfl

/-- An overrun loses the contents of the memory (R13, log 7). -/
theorem State.overrun_mem (s : State) : s.overrun.mem = s.mem.forget := by
  unfold State.overrun
  dsimp only
  split
  · rw [(overrunMessages_only _).sameFrame.mem, (State.overrunRecords_sameFrame _).mem]
    rfl
  · rfl

theorem memTurnOf_refreshTick (s : State) : MemTurnOf s (complete s.refreshTick) := by
  unfold State.refreshTick
  dsimp only
  split
  · exact memTurnOf_lost (State.overrun_mem _)
  · exact memTurnOf_kept

/-! ### The maintenance link -/

theorem State.takeEnterConfig_mem (s : State) : s.takeEnterConfig.mem = s.mem := by
  unfold State.takeEnterConfig
  split
  case h_3 | h_4 => split <;> rfl
  all_goals rfl

theorem State.takeResume_mem (s : State) : s.takeResume.mem = s.mem := by
  unfold State.takeResume
  split
  · split
    · exact s.enterRun_mem
    · rfl
  · rfl

theorem State.takeRelease_mem (s : State) (n : Nat) : (s.takeRelease n).mem = s.mem := by
  unfold State.takeRelease
  split
  · exact (Event.finish_sameFrame (s.releaseRecord_only n)).mem
  · rfl

theorem State.performCommand_mem (s : State) (request : List Byte) (code : Nat) (arg : Byte) :
    (s.performCommand request code arg).mem = s.mem ∨ (s.performCommand request code arg).mem = s.mem.forget := by
  have plain : ∀ (k : Nat) (f : State → State), (f s).mem = s.mem → (s.withoutArgument k arg f).mem = s.mem := by
    intro k f hf
    unfold State.withoutArgument
    split
    · exact hf
    · rfl
  unfold State.performCommand
  split
  · exact Or.inl (plain _ _ s.takeEnterConfig_mem)
  · exact Or.inl (plain _ _ s.takeResume_mem)
  · exact Or.inl (plain _ _ (by unfold State.takeStore; split <;> rfl))
  · exact Or.inl (plain _ _ (by unfold State.takeLoad; split <;> rfl))
  · split
    · exact Or.inl rfl
    · exact Or.inl (s.takeRelease_mem _)
  · exact Or.inl (plain _ _ rfl)
  · unfold State.withoutArgument
    split
    · exact Or.inr rfl
    · exact Or.inl rfl
  · exact Or.inl rfl

/-- A transfer of the link keeps the memory, or restarts the part (R161). -/
theorem State.linkTransfer_mem (s : State) (x : LinkTransfer) :
    (s.linkTransfer x).mem = s.mem ∨ (s.linkTransfer x).mem = s.mem.forget := by
  have hrequest : ∀ q, ((s.answerAddress x.target).performRequest x.bytes q).mem = s.mem ∨
      ((s.answerAddress x.target).performRequest x.bytes q).mem = s.mem.forget := by
    intro q
    unfold State.performRequest
    split
    · exact Or.inl rfl
    · split
      · exact Or.inl rfl
      · split
        · exact State.performCommand_mem (s.answerAddress x.target) _ _ _
        · split <;> exact Or.inl rfl
  unfold State.linkTransfer
  dsimp only
  split
  · split
    · exact Or.inl rfl
    · split
      · exact Or.inl rfl
      · exact hrequest _
  · exact Or.inl rfl

theorem memTurnOf_link (s : State) (x : LinkTransfer) : MemTurnOf s (complete (s.linkTransfer x)) :=
  (s.linkTransfer_mem x).elim (fun h => memTurnOf_kept h) fun h => memTurnOf_lost h

theorem memTurnOf_storeDone (s : State) (faults : List (Nat × Word)) : MemTurnOf s (execStoreDone faults s) := by
  have hstore : ∀ c, (s.endStore c faults).mem = s.mem := fun c => by
    unfold State.endStore
    dsimp only
    split <;> rfl
  unfold execStoreDone
  split
  · exact memTurnOf_kept (hstore _)
  all_goals exact memTurnOf_kept

theorem memTurnOf_loadDone (s : State) : MemTurnOf s (execLoadDone s) := by
  have hload : s.endLoad.mem = s.mem := by
    unfold State.endLoad
    split <;> rfl
  unfold execLoadDone
  split
  · exact memTurnOf_kept hload
  all_goals exact memTurnOf_kept

theorem memTurnOf_initialRefreshDone (s : State) : MemTurnOf s (execInitialRefreshDone s) := by
  unfold execInitialRefreshDone
  split
  · split <;> exact memTurnOf_kept
  · exact memTurnOf_kept

theorem memTurnOf_scanWord (s : State) : MemTurnOf s (execScanWord s) := by
  unfold execScanWord
  split
  · exact .ite memTurnOf_kept (memTurnOf_kept (s.serveScanWord_mem _))
  all_goals exact memTurnOf_kept

theorem State.deskInput_mem (s : State) (high : Bool) : (s.deskInput high).mem = s.mem := by
  unfold State.deskInput
  split <;> rfl

theorem State.deskChange_mem (s : State) : s.deskChange.mem = s.mem := by
  unfold State.deskChange State.followDesk
  split <;> rfl

/-- The memory after every command. -/
theorem exec_memTurn (c : Instr) (s : State) : MemTurnOf s (exec c s) := by
  have hpost : ∀ a w, MemTurnOf s (complete (s.deskWrite a w)) := fun a w => ⟨_, rfl, .write (s.deskWrite_mem a w)⟩
  cases c with
  | powerOn | supplyDip | resetLine => exact memTurnOf_lost
  | powerUpEnd straps => exact memTurnOf_guarded
  | memoryInitPauseEnd => exact memTurnOf_guarded
  | initialRefreshDone => exact memTurnOf_initialRefreshDone s
  | startupLoadDone => exact memTurnOf_guarded ((State.releaseHeld_mem _).trans s.startupLoad_mem)
  | deskOnInputChange high => exact memTurnOf_kept (s.deskInput_mem high)
  | deskOnFilterChange => exact memTurnOf_guarded s.deskChange_mem
  | millisecondTick => exact .ite memTurnOf_kept memTurnOf_kept
  | refreshTick => exact .ite (memTurnOf_refreshTick s) memTurnOf_kept
  | arbiterGrant => exact ⟨_, rfl, .write s.arbitrate_mem⟩
  | refreshDone => exact memTurnOf_guarded
  | upstreamColumnDone => exact memTurnOf_kept s.columnDone_mem
  | upstreamArrival r => exact memTurnOf_kept (s.arrive_mem r)
  | statusWord0Read a => exact memTurnOf_kept (s.arrive_mem _)
  | scanBurstArrival start count => exact memTurnOf_kept (s.arriveBurst_mem start count)
  | scanWord => exact memTurnOf_scanWord s
  | freshnessExpiry n => exact memTurnOf_guarded (Event.finish_sameFrame (s.expire_only n)).mem
  | changeoverTimerExpiry => exact memTurnOf_guarded (State.takeRequests_only _ _).sameFrame.mem
  | axlePulse | ackLineAsserted | ackLineReleased | readTransfer => exact memTurnOf_kept
  | resetLineReleased | supplyGoodAfterDip => exact memTurnOf_kept
  | axleWindowEnd | ackReleaseSettled => exact memTurnOf_guarded
  | ackPress => exact memTurnOf_guarded s.press_only.sameFrame.mem
  | postMessageWord | postRaise | postClear | postAck | badPost => exact hpost _ _
  | storeDone faults => exact memTurnOf_storeDone s faults
  | loadDone => exact memTurnOf_loadDone s
  | linkAddressProbe | readRequest | sectionWrite | enterConfig | resume | store | load | release | clearRecall
  | restart | badCommand => exact memTurnOf_link s _

/-- Settles O10: a command writes by an upstream transaction alone (`exec_memTurn`), which goes neither to a front copy nor
to a copy of a pinned record (`State.write_misses`). -/
theorem shownCopiesAreNeverWritten : Obligations.ShownCopiesAreNeverWritten := by
  intro c s t hshape hs hcheck hexec hepoch n k hn hk
  suffices h : ∀ y, y = (s.record n).front ∨ s.pinned n = true →
      t.mem.read (s.copyAddr n y k) = s.mem.read (s.copyAddr n y k) from
    ⟨h _ (Or.inl rfl), fun hp y => h y (Or.inr hp)⟩
  intro y hy
  obtain ⟨u, hu, hturn⟩ := exec_memTurn c s
  rw [hu] at hexec
  cases hexec
  rw [State.driveLines_mem] at hepoch ⊢
  rcases hturn with hkept | hlost | ⟨r, hsame | ⟨x, w, a, rfl, haddr, hwrite⟩⟩
  · rw [hkept]
  · rw [hlost] at hepoch
    exact absurd hepoch (Nat.succ_ne_self _)
  · rw [hsame]
  · rw [hwrite]
    exact Memory.read_write_other _ _ _ _ (State.write_misses hshape hs hcheck haddr hn hk hy)

end Sys2Proof.Machine
end

section
/-! PROOFS. Arriving transactions in RUN and RETAIN, by their class: O24, O25. -/

namespace Sys2Proof.Machine

/-! ### Words the part supplies (Tables 6.3, 6.4 and 8.2) -/

theorem eq_word_of_toNat {w : Word} {n : Nat} (h : w.toNat = n % 65536) : w = word n :=
  BitVec.eq_of_toNat_eq (h.trans (word_toNat n).symm)

/-- The presented words by their tables are those the record's kind holds. -/
theorem presented_of_is {s : State} {n : Nat} {ws : List Word} (h : PresentedIs s n ws) : s.presented n = some ws := by
  unfold PresentedIs at h
  unfold State.presented
  cases hk : s.kind n <;> rw [hk] at h
  case speed =>
    obtain ⟨p, hp, rfl⟩ := h
    simp only [hp]
  case aspect =>
    obtain ⟨x, w0, w1, hx, rfl, h0, h1⟩ := h
    have hupgrade : flagBit (s.aspectKind n).upgrade.isSome 4 = if (s.aspectKind n).upgrade = none then 0 else 16 := by
      cases (s.aspectKind n).upgrade <;> rfl
    simp only [AspectKind.presented, hx, hupgrade, eq_word_of_toNat h0, eq_word_of_toNat h1]
    rfl
  case select =>
    obtain ⟨m, f, q, w0, w1, w2, any, hm, hf, hq, rfl, hany, h0, h1, h2⟩ := h
    have hflag : s.anyAwaiting = any := by
      rw [Bool.eq_iff_iff, hany]
      simp [State.anyAwaiting, recordIndices]
    rw [Nat.mul_comm 16] at h1
    rw [Nat.mul_comm 256] at h2
    simp only [State.selectPresented, hm, hf, hq, hflag, eq_word_of_toNat h0, eq_word_of_toNat h1, eq_word_of_toNat h2]
    rfl
  all_goals exact h.elim

theorem partNumber_eq (p : PartState) : partNumber p = p.code := by cases p <;> rfl

theorem causeNumber_eq (c : ResetCause) : causeNumber c = c.code := by cases c <;> rfl

theorem statusNumber_eq (x : Status) : statusNumber x = x.code := by cases x <;> rfl

theorem reasonNumber_eq (r : Reason) : reasonNumber r = r.code := by cases r <;> rfl

theorem PartState.code_le (p : PartState) : p.code ≤ 6 := by cases p <;> decide

theorem ResetCause.code_le (c : ResetCause) : c.code ≤ 4 := by cases c <;> decide

theorem isOpen_flag (x : WriteState) : flagBit x.isOpen 12 = if x = .closed then 0 else 4096 := by cases x <;> rfl

/-- Bits 5 to 0 of STATUS word 0, the highest first. -/
theorem Notices.toNat_eq (x : Notices) :
    x.toNat = (if x.copyWrite then 32 else 0) + (if x.overrun then 16 else 0) + (if x.listOverflow then 8 else 0) +
      (if x.barred then 4 else 0) + (if x.refusal then 2 else 0) + (if x.leftValid then 1 else 0) := by
  simp only [Notices.toNat, flagBit, Nat.reducePow]
  omega

theorem Notices.toNat_lt (x : Notices) : x.toNat < 64 := by
  rw [x.toNat_eq]
  split_ifs <;> omega

/-- The words of the STATUS window (R152, R153, Table 8.2). -/
theorem State.statusWord_is (s : State) (k : Nat) : StatusWordIs s k (s.statusWord k) := by
  have hpart := s.ctl.part.code_le
  have hcause := s.ctl.cause.code_le
  have hnotices := s.status.notices.toNat_lt
  have hload := s.ctl.loadFailure.isLt
  have hms := s.ctl.ms.isLt
  refine ⟨?_, ?_, ?_, ?_, ?_, ?_, ?_, ?_, ?_⟩
  · rintro rfl
    rw [State.statusWord, word_toNat, partNumber_eq]
    have := s.status.notices.toNat_eq
    simp only [State.part]
    omega
  · rintro rfl
    rw [State.statusWord, word_toNat, partNumber_eq, causeNumber_eq]
    simp only [State.part]
    omega
  · rintro rfl
    rw [State.statusWord, word_toNat]
  · rintro rfl
    rw [State.statusWord, word_toNat]
    omega
  · rintro rfl
    rw [State.statusWord, word_toNat, Nat.mul_comm]
  · rintro rfl
    rw [State.statusWord, word_toNat, Nat.mul_comm]
  · rintro rfl
    rw [State.statusWord, word_toNat, Nat.mul_comm]
  · rintro rfl
    rw [State.statusWord, word_toNat]
    cases s.speed.axle.vx <;> rfl
  · rintro n rfl
    rw [State.statusWord, RecordState.statusWord, word_toNat, isOpen_flag, statusNumber_eq, reasonNumber_eq,
      Nat.mul_comm 8192, Nat.mul_comm 512, Nat.mul_comm 16]

/-! ### An arrival by its disposition (R3) -/

theorem dispose_address {s : State} {r : UpstreamRequest} {a : Addr} (h : (s.disposition r).address = some a) :
    s.dispose r = s.withUp (.claiming r) := by
  unfold State.dispose
  cases hd : s.disposition r with
  | memory | memoryPost | memoryRecord => rfl
  | _ => rw [hd] at h; cases h

section
variable {s : State} {r : UpstreamRequest} (hidle : s.path.up = .idle)
include hidle

theorem exec_arrival_idle : exec (.upstreamArrival r) s = complete (s.dispose r) := by
  rw [exec_upstreamArrival, s.arrive_idle r hidle]

/-- A transaction that needs memory becomes a claimant. -/
theorem arrival_claims {a : Addr} (h : (s.disposition r).address = some a) :
    ∃ t, exec (.upstreamArrival r) s = .next t ∧ t.path = { s.path with up := .claiming r } ∧
      t = { s with path := t.path, lines := t.lines } :=
  answers_path (exec_arrival_idle hidle) (dispose_address h)

theorem completeRead_idle (w : Word) : s.completeRead w = s.withPath { s.path with upData := w } := by
  rw [State.completeRead, ← hidle]

theorem completeWrite_idle : s.completeWrite = s := by
  rw [State.completeWrite, State.withUp, ← hidle]
  rfl

/-- A READ that the part answers completes at once. -/
theorem arrival_answered {w : Word} (h : s.disposition r = .answered w) :
    ∃ t, exec (.upstreamArrival r) s = .next t ∧ t.path = { s.path with upData := w } ∧
      t = { s with path := t.path, lines := t.lines } := by
  refine answers_path (exec_arrival_idle hidle) ?_
  rw [State.dispose, h]
  exact completeRead_idle hidle w

theorem arrival_dropped (h : s.disposition r = .dropped) :
    ∃ t, exec (.upstreamArrival r) s = .next t ∧ t = { s with lines := t.lines } :=
  answers_same (by rw [exec_arrival_idle hidle, State.dispose, h, completeWrite_idle hidle])

theorem arrival_heldForPin (h : s.disposition r = .heldForPin) :
    ∃ t, exec (.upstreamArrival r) s = .next t ∧ t.path = { s.path with up := .heldForPin r } ∧
      t = { s with path := t.path, lines := t.lines } :=
  answers_path (exec_arrival_idle hidle) (by rw [State.dispose, h]; rfl)

end

/-! ### Reads (Table 2.2) -/

/-- A word past the check word of a VALID record's window is a presented word (R51). -/
theorem State.windowWord_presented (s : State) (n k : Nat) (front : Copy) (pres : Option (List Word))
    (hk : k < (s.cfg.entry n).length) (hi : (s.cfg.entry n).inputs < k) :
    s.windowWord n k front .valid pres = .supplied (at0 (pres.getD []) (k - (s.cfg.entry n).inputs - 1)) := by
  simp only [State.windowWord, Nat.not_le.2 hk, Nat.not_le.2 hi, if_true, if_false]

/-- Settles O24: the disposition of a READ by its class, and the words the part supplies. -/
theorem arrivingReadByClass : Obligations.ArrivingReadByClass := by
  intro s a hs hidle claims answered
  have hread : ∀ c, s.cfg.classify .upstream a = c → s.disposition (.read a) = s.decideRead a c := fun c hc =>
    hc ▸ s.disposition_read a hs
  have hclaims : ∀ {c b}, s.cfg.classify .upstream a = c → (s.decideRead a c).address = some b → claims :=
    fun hc hb => arrival_claims hidle (by rw [hread _ hc]; exact hb)
  have hanswered : ∀ {c w}, s.cfg.classify .upstream a = c → s.decideRead a c = .answered w → answered w :=
    fun hc hw => arrival_answered hidle (by rw [hread _ hc]; exact hw)
  refine ⟨?_, fun k hc => hclaims hc rfl, fun n k hc hk => ⟨fun hv hi => ?_, fun ws hv hi hp => ?_, fun hv => ?_⟩,
    fun k hc hk => ?_, fun k hc hk => ?_, fun k hc h1 hk => ⟨_, hanswered hc ?_, s.statusWord_is k⟩⟩
  · rintro (hc | hc | hc | hc) <;> exact hclaims hc rfl
  · refine hclaims hc (b := s.copyAddr n (s.record n).front k) ?_
    rw [State.decideRead, State.windowNow, hv, s.windowWord_memory n k _ _ hk hi]
    rfl
  · refine hanswered hc ?_
    rw [State.decideRead, State.windowNow, hv, s.windowWord_presented n k _ _ hk hi, presented_of_is hp]
    rfl
  · refine hanswered hc ?_
    rw [State.decideRead, State.windowNow, s.windowWord_substitute n k _ _ _ hk hv]
    rfl
  · obtain ⟨w, hw, his⟩ := s.slotWord_is k hk
    exact ⟨w, hanswered hc (by rw [State.decideRead, hw]; rfl), his⟩
  · obtain ⟨w, hw, his⟩ := s.recallWord_is k hk
    exact ⟨w, hanswered hc (by rw [State.decideRead, hw]; rfl), his⟩
  · rw [State.decideRead, if_neg (by omega), if_pos hk]

/-! ### Writes (Table 2.2) -/

/-- A write into a copy area is dropped, counted and noticed (R24). -/
theorem arrival_droppedCopy {s : State} {r : UpstreamRequest} (hidle : s.path.up = .idle)
    (h : s.disposition r = .droppedCopy) :
    exec (.upstreamArrival r) s = complete (s.countCopyWrite.notify .copyWrite) := by
  rw [exec_arrival_idle hidle, State.dispose, h, completeWrite_idle hidle]

/-- Settles O25: the disposition of a WRITE by its class. -/
theorem arrivingWriteByClass : Obligations.ArrivingWriteByClass := by
  intro s a w hs hidle claims dropped
  have hwrite : ∀ c, s.cfg.classify .upstream a = c → s.disposition (.write a w) = s.decideWrite a c := fun c hc =>
    hc ▸ s.disposition_write a w hs
  have hclaims : ∀ {c b}, s.cfg.classify .upstream a = c → (s.decideWrite a c).address = some b → claims :=
    fun hc hb => arrival_claims hidle (by rw [hwrite _ hc]; exact hb)
  have hdropped : ∀ {c}, s.cfg.classify .upstream a = c → s.decideWrite a c = .dropped → dropped :=
    fun hc hd => arrival_dropped hidle (by rw [hwrite _ hc]; exact hd)
  refine ⟨?_, fun k hc => hclaims hc rfl, fun hc => hdropped hc rfl, ?_, fun hc => ?_, fun n k hc hkind => ?_⟩
  · rintro (hc | hc) <;> exact hclaims hc rfl
  · rintro k (hc | hc | hc) <;> exact hdropped hc rfl
  · exact ⟨_, arrival_droppedCopy hidle (hwrite _ hc), rfl, rfl, rfl⟩
  · have hheld : (s.cfg.entry n).held = true := (held_iff s n).2 hkind
    refine ⟨fun hb => hdropped hc ?_, fun hb hp => arrival_heldForPin hidle ?_, fun hb hp hi => hdropped hc ?_,
      fun hb hp hi => hclaims hc (b := s.backAddr n k) ?_⟩
    · rw [State.decideWrite, State.decideWindowWrite, if_pos hb]
    · rw [hwrite _ hc, State.decideWrite, State.decideWindowWrite, if_neg hb, if_pos hp]
    · rw [State.decideWrite, State.decideWindowWrite, if_neg hb, if_neg (Bool.eq_false_iff.1 hp), if_pos (Or.inl hi)]
    · have hin : ¬((s.cfg.entry n).inputs < k ∨ ¬(s.cfg.entry n).held = true) := by
        rw [not_or, not_not]
        exact ⟨Nat.not_lt.2 hi, hheld⟩
      rw [State.decideWrite, State.decideWindowWrite, if_neg hb, if_neg (Bool.eq_false_iff.1 hp), if_neg hin]
      rfl

end Sys2Proof.Machine
end

section
/-! PROOFS. Section writes of the maintenance link: O57. First the values a section refuses, then the write. -/

namespace Sys2Proof.Machine

/-! ### Values a section refuses (R158 check 5) -/

theorem bit_false_iff (w : Word) (i : Nat) : (!bit w i) = true ↔ ¬w.toNat / 2 ^ i % 2 = 1 := by
  rw [Bool.not_eq_true', Bool.eq_false_iff, Ne, bit_iff]

theorem word_eq_zero_iff (w : Word) : w = 0#16 ↔ w.toNat = 0 := by
  rw [← BitVec.toNat_inj]
  rfl

/-- R92, R120, R129. -/
theorem partWordOk_iff (ws : List Word) (u : Nat) (hu : u < 6) :
    partWordOk u (at0 ws u) = true ↔ ¬RefusesValue 0 ws u := by
  have hcases : u = 0 ∨ u = 1 ∨ u = 2 ∨ u = 3 ∨ u = 4 ∨ u = 5 := by omega
  rcases hcases with rfl | rfl | rfl | rfl | rfl | rfl <;> simp only [partWordOk, RefusesValue] <;>
    simp only [Bool.and_eq_true, decide_eq_true_eq, beq_iff_eq, true_and] <;> omega

/-- R19. -/
theorem regionOk_iff (ws : List Word) (u : Nat) : regionOk ws u = true ↔ ¬RefusesValue 1 ws u := by
  simp only [regionOk, Bool.and_eq_true, Bool.or_eq_true, decide_eq_true_eq, bne_iff_ne, beq_iff_eq, bit_false_iff]
  simp only [RefusesValue, bits_eq, Nat.reducePow, Nat.reduceSub, Nat.reduceAdd, Nat.div_one]
  omega

/-- R35. -/
theorem recordOk_iff (ws : List Word) (u : Nat) : recordOk ws u = true ↔ ¬RefusesValue 2 ws u := by
  have h0 := (at0 ws (4 * u)).isLt
  have h3 := (at0 ws (4 * u + 3)).isLt
  simp only [recordOk, Bool.and_eq_true, Bool.or_eq_true, decide_eq_true_eq, beq_iff_eq, bit_false_iff,
    Bool.ite_eq_true_distrib, ite_prop_iff_or, word_eq_zero_iff]
  simp only [RefusesValue, bits_eq, Nat.reducePow, Nat.reduceSub, Nat.reduceAdd, Nat.div_one]
  omega

/-- R79. -/
theorem speedOk_iff (ws : List Word) (u : Nat) : speedOk ws u = true ↔ ¬RefusesValue 3 ws u := by
  have h0 := (at0 ws (4 * u)).isLt
  have h2 := (at0 ws (4 * u + 2)).isLt
  have h3 := (at0 ws (4 * u + 3)).isLt
  simp only [speedOk, Bool.and_eq_true, decide_eq_true_eq, beq_iff_eq, bit_false_iff]
  simp only [RefusesValue, bits_eq, Nat.reducePow, Nat.reduceSub, Nat.reduceAdd, Nat.div_one]
  omega

/-- R106. -/
theorem aspectOk_iff (ws : List Word) (u : Nat) : aspectOk ws u = true ↔ ¬RefusesValue 4 ws u := by
  simp only [aspectOk, Bool.and_eq_true, decide_eq_true_eq, bne_iff_ne, List.all_eq_true, List.mem_range, beq_iff_eq]
  simp only [RefusesValue, bits_eq, Nat.reducePow, Nat.reduceSub, Nat.reduceAdd, not_or, not_exists, not_and, not_not,
    Nat.not_lt, and_assoc, ne_eq]

/-- R128. -/
theorem messageWordOk_iff (ws : List Word) (u : Nat) :
    (bits (at0 ws u) 15 2 == 0) = true ↔ ¬RefusesValue 6 ws u := by
  have h := (at0 ws u).isLt
  simp only [RefusesValue, beq_iff_eq, bits_eq, Nat.reducePow, Nat.reduceSub, Nat.reduceAdd]
  omega

/-- The model's test of a unit of sections 0 to 6 is that of the statement. -/
theorem unitOk_iff {i : Nat} (ws : List Word) {u : Nat} (hi : i ≤ 6) (hu : i = 0 → u < 6) :
    unitOk i ws u = true ↔ ¬RefusesValue i ws u := by
  have hcases : i = 0 ∨ i = 1 ∨ i = 2 ∨ i = 3 ∨ i = 4 ∨ i = 5 ∨ i = 6 := by omega
  rcases hcases with rfl | rfl | rfl | rfl | rfl | rfl | rfl
  · exact partWordOk_iff ws u (hu rfl)
  · exact regionOk_iff ws u
  · exact recordOk_iff ws u
  · exact speedOk_iff ws u
  · exact aspectOk_iff ws u
  · exact iff_of_true rfl id
  · exact messageWordOk_iff ws u

/-! ### The units a write covers -/

theorem unitSize_pos (i : Nat) : 0 < unitSize i := by
  unfold unitSize
  split_ifs <;> decide

theorem mem_unitsCovered {i o n u : Nat} (hn : 1 ≤ n) :
    u ∈ unitsCovered i o n ↔ unitSize i * u < o + n ∧ o < unitSize i * (u + 1) := by
  have hpos := unitSize_pos i
  have hfirst : o / unitSize i ≤ u ↔ o < unitSize i * (u + 1) := by
    rw [← Nat.lt_succ_iff, Nat.div_lt_iff_lt_mul hpos, Nat.mul_comm]
  have hlast : u ≤ (o + n - 1) / unitSize i ↔ unitSize i * u < o + n := by
    rw [Nat.le_div_iff_mul_le hpos, Nat.mul_comm]
    omega
  rw [← hfirst, ← hlast]
  simp only [unitsCovered, List.mem_map, List.mem_range]
  constructor
  · rintro ⟨j, hj, rfl⟩
    omega
  · rintro ⟨hu, ho⟩
    exact ⟨u - o / unitSize i, by omega, by omega⟩

/-- The write passes check 5 exactly where no unit it covers holds a refused value. -/
theorem writeOk_iff {i o n : Nat} (after : List Word) (hi : i ≤ 6) (hn : 1 ≤ n) (hsize : i = 0 → o + n ≤ 6) :
    writeOk i o n after = true ↔
      ∀ u, unitSize i * u < o + n → o < unitSize i * (u + 1) → ¬RefusesValue i after u := by
  simp only [writeOk, List.all_eq_true, mem_unitsCovered hn, and_imp]
  refine forall_congr' fun u => forall_congr' fun hu => forall_congr' fun _ => unitOk_iff after hi fun h0 => ?_
  have hend := hsize h0
  rw [h0, show unitSize 0 = 1 from rfl, Nat.one_mul] at hu
  omega

/-! ### The words a write puts in a section (R158) -/

theorem at0_set (ws : List Word) (o i : Nat) (w : Word) :
    at0 (ws.set o w) i = if i = o ∧ i < ws.length then w else at0 ws i := by
  by_cases h : i = o
  · subst h
    by_cases hl : i < ws.length
    · rw [if_pos ⟨rfl, hl⟩]
      exact getD_set_self ws i w _ hl
    · rw [if_neg (fun h => hl h.2), List.set_eq_of_length_le (Nat.not_lt.1 hl)]
  · rw [if_neg (fun hi => h hi.1)]
    exact getD_set_ne ws o i w _ h

theorem at0_overwrite (data : List Word) : ∀ (ws : List Word) (o i : Nat), at0 (overwrite ws o data) i =
    if o ≤ i ∧ i < o + data.length ∧ i < ws.length then at0 data (i - o) else at0 ws i := by
  induction data with
  | nil =>
    intro ws o i
    rw [if_neg (by simp only [List.length_nil]; omega), overwrite]
  | cons w rest ih =>
    intro ws o i
    rw [overwrite, ih, at0_set, List.length_set, List.length_cons]
    rcases Nat.lt_trichotomy i o with hlt | rfl | hgt
    · rw [if_neg (by omega), if_neg (by omega), if_neg (by omega)]
    · rw [if_neg (by omega), Nat.sub_self]
      exact if_congr (by omega) rfl rfl
    · have hnext : at0 (w :: rest) (i - o) = at0 rest (i - (o + 1)) := by
        rw [show i - o = (i - (o + 1)) + 1 by omega]
        rfl
      rw [hnext, if_neg (c := i = o ∧ i < ws.length) (by omega)]
      exact if_congr (by omega) rfl rfl

/-- Words of one length that agree at every offset. -/
theorem eq_of_at0 {xs ys : List Word} (hl : xs.length = ys.length) (h : ∀ i, at0 xs i = at0 ys i) : xs = ys := by
  refine List.ext_getElem hl fun i hx hy => ?_
  have hi := h i
  rwa [at0, at0, List.getD_eq_getElem _ _ hx, List.getD_eq_getElem _ _ hy] at hi

theorem wordsOf_length : ∀ bs : List Byte, (wordsOf bs).length = bs.length / 2
  | [] => rfl
  | [_] => by simp [wordsOf]
  | _ :: _ :: rest => by
    rw [wordsOf, List.length_cons, wordsOf_length rest, List.length_cons, List.length_cons]
    omega

/-! ### A request that is framed right (R154, R155) -/

theorem acknowledges_iff (s : State) (target : BitVec 7) : s.acknowledges target = true ↔ LinkTakes s target := by
  simp only [State.acknowledges, State.linkAnswers, State.part, LinkTakes, Bool.and_eq_true, Bool.or_eq_true,
    beq_iff_eq, Option.isNone_iff_eq_none, decide_eq_true_eq, and_assoc, or_assoc]

theorem parseRequest_framed {x : LinkTransfer} {q : LinkRequest} (h : WellFramed x q) :
    parseRequest x.target x.bytes = some q := by
  obtain ⟨b0, b1, b2, b3, rest, hbytes, rfl, hlen, hcheck⟩ := h
  rw [hbytes] at hlen hcheck ⊢
  simp only [parseRequest, hlen, ne_eq, not_true, if_false]
  split
  · rename_i hflag
    rw [List.getLastD_eq_getLast?, hcheck hflag, Option.getD_some, if_pos rfl]
  · rfl

/-- A request has at least one word. -/
theorem WellFramed.count_pos {x : LinkTransfer} {q : LinkRequest} (h : WellFramed x q) : 1 ≤ q.count := by
  obtain ⟨b0, b1, b2, b3, rest, -, rfl, -⟩ := h
  exact Nat.succ_pos _

/-- A write request carries as many words as its control word says. -/
theorem WellFramed.data_length {x : LinkTransfer} {q : LinkRequest} (h : WellFramed x q) (hw : q.isRead = false) :
    q.data.length = q.count := by
  obtain ⟨b0, b1, b2, b3, rest, hbytes, rfl, hlen, -⟩ := h
  have hmsb : b0.msb = false := hw
  have hrest : 2 * (b0.toNat % 8 + 1) ≤ rest.length := by
    simp only [hbytes, List.length_cons, LinkRequest.byteCount, requestOf, hmsb, Bool.false_eq_true, if_false] at hlen
    omega
  simp only [requestOf, hmsb, Bool.false_eq_true, if_false, wordsOf_length, List.length_take]
  omega

theorem linkTransfer_framed {s : State} {x : LinkTransfer} {q : LinkRequest} (ht : LinkTakes s x.target)
    (hq : WellFramed x q) : s.linkTransfer x = (s.answerAddress x.target).performRequest x.bytes q := by
  have hparse := parseRequest_framed hq
  obtain ⟨b0, b1, b2, b3, rest, hbytes, -⟩ := hq
  unfold State.linkTransfer
  dsimp only
  rw [if_pos ((acknowledges_iff s _).2 ht), hparse, hbytes]

/-- A request that ends with a result, the section number and no detail: nothing but the link changes. -/
theorem exec_sectionWrite_finishes {s : State} {x : LinkTransfer} {q : LinkRequest} (ht : LinkTakes s x.target)
    (hq : WellFramed x q) {c : Sections} {r : LinkResult}
    (h : (s.answerAddress x.target).performRequest x.bytes q =
      ((s.answerAddress x.target).withCfg c).finishRequest r q.sectionNo 0) :
    ∃ t, exec (.sectionWrite x) s = .next t ∧ t.cfg = c ∧
      LinkDone s t (BitVec.ofNat 16 (4096 * r.code + 256 * min q.sectionNo 15)) ∧
      t = { s with cfg := t.cfg, link := t.link, lines := t.lines } := by
  have hexec : exec (.sectionWrite x) s = complete (s.linkTransfer x) := rfl
  rw [linkTransfer_framed ht hq, h] at hexec
  refine ⟨_, hexec, rfl, ?_, rfl⟩
  have hack := (acknowledges_iff s _).2 ht
  simp only [LinkDone, State.driveLines_link, State.finishRequest, State.withLink_link, State.withCfg_link,
    State.answerAddress, hack, resultWord, word, Nat.add_zero, Nat.mul_comm r.code, Nat.mul_comm (min _ _)]

/-! ### The checks of a section write (R158) -/

theorem rangeCheck_badSection {q : LinkRequest} (h : sectionSize q.sectionNo = none) :
    rangeCheck q = some .badSection := by
  rw [rangeCheck, h]

/-- A write request to a section that exists is checked for its range alone. -/
theorem rangeCheck_write {q : LinkRequest} (hw : q.isRead = false) {size : Nat}
    (h : sectionSize q.sectionNo = some size) :
    rangeCheck q = if size ≤ q.offset + q.count - 1 then some .badRange else none := by
  have hread : ¬(q.isRead = true ∧ q.sectionNo = 14) := fun hr => by simp [hw] at hr
  simp only [rangeCheck, h, if_neg hread]

theorem performRequest_unranged {q : LinkRequest} {r : LinkResult} (s : State) (bytes : List Byte)
    (h : rangeCheck q = some r) : s.performRequest bytes q = s.finishRequest r q.sectionNo 0 := by
  rw [State.performRequest, h]

section
variable {s : State} {bytes : List Byte} {q : LinkRequest} (hrange : rangeCheck q = none) (hw : q.isRead = false)
  (h14 : q.sectionNo ≠ 14)
include hrange hw h14

/-- A write request in range to another section than the command section, refused by one of checks 3 to 5. -/
theorem performRequest_refused {r : LinkResult} (hcheck : s.writeCheck q = some r) :
    s.performRequest bytes q = s.finishRequest r q.sectionNo 0 := by
  rw [State.performRequest, hrange, hw, if_neg h14, hcheck]
  rfl

/-- And one that passes them. -/
theorem performRequest_written (hcheck : s.writeCheck q = none) : s.performRequest bytes q = s.performWrite q := by
  rw [State.performRequest, hrange, hw, if_neg h14, hcheck]
  rfl

end

/-- The section after a write, given word by word (R158). -/
theorem eq_overwrite {ws data after : List Word} {o n : Nat} (hn : data.length = n) (hl : after.length = ws.length)
    (h : ∀ i, at0 after i = if o ≤ i ∧ i < o + n ∧ i < after.length then at0 data (i - o) else at0 ws i) :
    after = overwrite ws o data := by
  refine eq_of_at0 (hl.trans (overwrite_length data ws o).symm) fun i => ?_
  rw [h, at0_overwrite, hn, hl]

/-- Section 0 has six words (Table 9.3). -/
theorem sectionSize_part {size : Nat} (h : sectionSize 0 = some size) : size = 6 := by
  cases h
  rfl

/-- Settles O57: checks 1 and 2 by `rangeCheck`, 3 to 5 by `writeCheck`, whose test of a unit is the statement's
(`unitOk_iff`). -/
theorem sectionWriteIsAppliedWholeOrRefused : Obligations.SectionWriteIsAppliedWholeOrRefused := by
  refine ⟨rfl, fun c ws => rfl, fun s x q ht hq hw => ?_⟩
  intro refused
  have hcount := hq.count_pos
  have hrefused : ∀ r : LinkResult, (s.answerAddress x.target).performRequest x.bytes q =
      (s.answerAddress x.target).finishRequest r q.sectionNo 0 → refused r.code := by
    intro r h
    obtain ⟨t, hexec, hcfg, hdone, hrest⟩ := exec_sectionWrite_finishes (c := s.cfg) ht hq h
    exact ⟨t, hexec, hdone, by rw [hcfg] at hrest; exact hrest⟩
  refine ⟨fun hsize => hrefused .badSection (performRequest_unranged _ _ (rangeCheck_badSection hsize)), ?_⟩
  intro size hsize
  have hrange := rangeCheck_write hw hsize
  refine ⟨fun hlt => hrefused .badRange (performRequest_unranged _ _ (by rw [hrange, if_pos (by omega)])), fun hle => ?_⟩
  rw [if_neg (by omega)] at hrange
  have hrefusedBy : q.sectionNo ≠ 14 → ∀ r, (s.answerAddress x.target).writeCheck q = some r → refused r.code :=
    fun h14 r h => hrefused r (performRequest_refused hrange hw h14 h)
  refine ⟨fun h89 => hrefusedBy (by omega) .readOnly (if_pos h89), fun h6 hs => hrefusedBy (by omega) .notInConfig ?_,
    fun h6 hs after hl hafter => ?_⟩
  · have hs' : (s.answerAddress x.target).inService = true := hs
    rw [State.writeCheck, if_neg (by omega), if_pos hs']
  · have hs' : ¬(s.answerAddress x.target).inService = true := Bool.eq_false_iff.1 hs
    have hcfg : (s.answerAddress x.target).cfg = s.cfg := rfl
    have hover := eq_overwrite (hq.data_length hw) hl hafter
    have hok := writeOk_iff (i := q.sectionNo) (o := q.offset) (n := q.count) after h6 hcount fun h0 => by
      rw [h0] at hsize
      exact sectionSize_part hsize ▸ hle
    have hcheck : (s.answerAddress x.target).writeCheck q =
        if writeOk q.sectionNo q.offset q.count after then none else some .badValue := by
      rw [State.writeCheck, if_neg (by omega), if_neg hs', hcfg, ← hover]
    refine ⟨fun ⟨u, hend, hstart, hvalue⟩ => hrefusedBy (by omega) .badValue ?_, fun hgood => ?_⟩
    · rw [hcheck, if_neg fun h => hok.1 h u hend hstart hvalue]
    · rw [if_pos (hok.2 hgood)] at hcheck
      have hwritten : (s.answerAddress x.target).performRequest x.bytes q =
          ((s.answerAddress x.target).withCfg (s.cfg.put q.sectionNo after)).finishRequest .ok q.sectionNo 0 := by
        rw [performRequest_written hrange hw (by omega) hcheck, State.performWrite, hcfg, ← hover]
      obtain ⟨t, hexec, hput, hdone, hrest⟩ := exec_sectionWrite_finishes ht hq hwritten
      rw [Nat.min_eq_left (by omega : q.sectionNo ≤ 15), LinkResult.code, Nat.mul_zero, Nat.zero_add] at hdone
      exact ⟨t, hexec, hput, hdone, hrest⟩

end Sys2Proof.Machine
end

section
/-! PROOFS. Action words of the posts: O53. -/

namespace Sys2Proof.Machine

/-! ### Action words (Table 7.1) -/

theorem actionWord_toNat (marker : Byte) (ignored action : BitVec 4) :
    (actionWord marker ignored action).toNat = 256 * marker.toNat + 16 * ignored.toNat + action.toNat := by
  have hignored := ignored.isLt
  have haction := action.isLt
  have hlow : ignored.toNat <<< 4 + action.toNat < 2 ^ (4 + 4) := by
    rw [Nat.shiftLeft_eq]
    omega
  rw [actionWord, BitVec.toNat_append, BitVec.toNat_append, ← Nat.shiftLeft_add_eq_or_of_lt haction,
    ← Nat.shiftLeft_add_eq_or_of_lt hlow, Nat.shiftLeft_eq, Nat.shiftLeft_eq]
  omega

theorem bits_actionWord (marker : Byte) (ignored action : BitVec 4) :
    bits (actionWord marker ignored action) 3 0 = action.toNat := by
  have haction := action.isLt
  rw [bits_eq, actionWord_toNat]
  omega

theorem highByte_actionWord (marker : Byte) (ignored action : BitVec 4) :
    highByte (actionWord marker ignored action) = marker := by
  have hignored := ignored.isLt
  have haction := action.isLt
  have hmarker := marker.isLt
  refine BitVec.eq_of_toNat_eq ?_
  rw [highByte, BitVec.extractLsb'_toNat, actionWord_toNat, Nat.shiftRight_eq_div_pow]
  omega

/-! ### The capture of an action word (R127) -/

theorem capture_action (s : State) (c : Nat) (w : Word) (hc : c < 4) : s.capture (2 * c + 1) w = s.captureAction c w := by
  have h1 : ¬8 ≤ 2 * c + 1 := by omega
  have h2 : ¬(2 * c + 1) % 2 = 0 := by omega
  have h3 : (2 * c + 1) / 2 = c := by omega
  rw [State.capture, if_neg h1, if_neg h2, h3]

/-- What a captured action word does besides emptying the stage: the staged code's action, or a bad post (R127). -/
def State.acted (s : State) (c : Nat) (w : Word) : State :=
  match s.stage c, postActionOf w with
  | some st, some act =>
    if badPostTest (s.cfg.classLimit c) st act then s.countBadPost else s.postPerform c st (highByte w) act
  | _, _ => s.countBadPost

theorem captureAction_eq (s : State) (c : Nat) (w : Word) : s.captureAction c w = (s.acted c w).setStage c none := by
  unfold State.captureAction State.acted
  cases s.stage c with
  | none => rfl
  | some st =>
    cases postActionOf w with
    | none => rfl
    | some act => exact (apply_ite (fun x : State => x.setStage c none) _ _ _).symm

theorem acted_unstaged {s : State} {c : Nat} (w : Word) (h : s.stage c = none) : s.acted c w = s.countBadPost := by
  rw [State.acted, h]

theorem acted_invalid {s : State} {c : Nat} {w : Word} (h : postActionOf w = none) : s.acted c w = s.countBadPost := by
  rw [State.acted, h]
  cases s.stage c <;> rfl

theorem acted_staged {s : State} {c : Nat} {w : Word} {st : Stage} {act : PostAction} (hst : s.stage c = some st)
    (hact : postActionOf w = some act) :
    s.acted c w =
      if badPostTest (s.cfg.classLimit c) st act then s.countBadPost else s.postPerform c st (highByte w) act := by
  rw [State.acted, hst, hact]

/-! ### The actions (R134 to R136) -/

/-- What an action changes: the message unit but for its stages, the status unit and the awaiting flags. -/
structure State.Acts (s t : State) : Prop where
  rest : t = { s with msg := t.msg, status := t.status, aspect := { s.aspect with kinds := t.aspect.kinds } }
  stages : t.msg.stages = s.msg.stages

theorem MessageUnit.SameBeside.stages {m m' : MessageUnit} (h : m.SameBeside m') : m'.stages = m.stages := by
  unfold MessageUnit.SameBeside at h
  rw [h]

theorem State.postClear_found {s : State} {code : Nat} (h : (s.msg.clear s.now code).2 = .found) :
    s.postClear code = s.condClear code := by
  rw [State.postClear, h]

theorem State.postClear_absent {s : State} {code : Nat} (h : (s.msg.clear s.now code).2 = .absent) :
    s.postClear code = s.countStrayClear := by
  rw [State.postClear, h]

theorem State.countBadPost_acts (s : State) : s.Acts s.countBadPost := ⟨rfl, rfl⟩

theorem State.acknowledge_acts (s : State) (code : Nat) : s.Acts (s.acknowledge code) := by
  have hstages := (s.msg.ack_frame s.now code).stages
  unfold State.acknowledge
  dsimp only
  split
  · exact ⟨rfl, hstages⟩
  · exact ⟨rfl, hstages⟩
  · exact ⟨rfl, rfl⟩

theorem State.postPerform_acts (s : State) (c : Nat) (st : Stage) (marker : Byte) (act : PostAction) :
    s.Acts (s.postPerform c st marker act) := by
  cases act with
  | raise =>
    refine ⟨?_, ?_⟩
    · rw [State.postPerform, State.raise_frame]
    · rw [State.postPerform, State.raise_msg, (s.msg.raise_frame _ _).stages]
  | clear =>
    cases h : (s.msg.clear s.now st.code).2 with
    | found =>
      rw [State.postPerform, State.postClear_found h]
      exact ⟨rfl, (s.msg.clear_frame s.now st.code).stages⟩
    | absent =>
      rw [State.postPerform, State.postClear_absent h]
      exact ⟨rfl, rfl⟩
  | ack => exact s.acknowledge_acts _

theorem State.acted_acts (s : State) (c : Nat) (w : Word) : s.Acts (s.acted c w) := by
  unfold State.acted
  split
  · split
    · exact s.countBadPost_acts
    · exact s.postPerform_acts _ _ _ _
  · exact s.countBadPost_acts

/-- A CLEAR finds its code exactly where an entry has it (R135). -/
theorem MessageUnit.clear_found_iff (m : MessageUnit) (now : Time) (code : Nat) :
    (m.clear now code).2 = .found ↔ ∃ e ∈ m.entries, e.code = code := by
  have hfind : findEntry code m.entries = none ↔ ¬∃ e ∈ m.entries, e.code = code := by
    rw [findEntry_none_iff]
    simp only [not_exists, not_and, ne_eq]
  unfold MessageUnit.clear
  split
  · rename_i h
    exact iff_of_false nofun (hfind.1 h)
  · rename_i e h
    refine iff_of_true ?_ ⟨e, findEntry_mem h⟩
    split <;> rfl

/-- A late ACK leaves the unit as it is (R136). -/
theorem MessageUnit.ack_late {m : MessageUnit} {now : Time} {code : Nat} (h : (m.ack now code).2 = .late) :
    (m.ack now code).1 = m := by
  unfold MessageUnit.ack at h ⊢
  split
  · rfl
  · rename_i e he
    rw [he] at h
    dsimp only at h
    split
    · rfl
    all_goals
      rename_i hstate
      rw [hstate] at h
      dsimp only at h
      split at h <;> cases h

/-- An ACK of the state is that of the unit, with its late count. -/
theorem State.acknowledge_msg (s : State) (code : Nat) : (s.acknowledge code).msg = (s.msg.ack s.now code).1 := by
  cases h : (s.msg.ack s.now code).2 <;> simp only [State.acknowledge, h]
  · rfl
  · rfl
  · exact (MessageUnit.ack_late h).symm

theorem State.acknowledge_status {s : State} {code : Nat} (h : (s.msg.ack s.now code).2 ≠ .late) :
    (s.acknowledge code).status = s.status := by
  cases ho : (s.msg.ack s.now code).2 <;> simp only [State.acknowledge, ho]
  · rfl
  · rfl
  · exact absurd ho h

theorem State.acknowledge_late {s : State} {code : Nat} (h : (s.msg.ack s.now code).2 = .late) :
    s.acknowledge code = s.countLateAck := by
  simp only [State.acknowledge, h]

/-- The awaiting flag falls at an ACK of the system's code, on its ASPECT records alone (R113). -/
theorem systemAcknowledged_awaiting (s : State) (sys : Nat) {n : Nat} (hn : n < s.aspect.kinds.length) :
    ((s.systemAcknowledged sys).aspectKind n).awaiting =
      ((s.aspectKind n).awaiting && !decide (sys = (s.cfg.entry n).system ∧ s.kind n = .aspect)) := by
  have hkinds : (s.systemAcknowledged sys).aspect.kinds = s.aspect.kinds.mapIdx fun n k =>
      if (s.cfg.entry n).kind == .aspect && (s.cfg.entry n).system == sys then { k with awaiting := false } else k := rfl
  have hcond : ((s.cfg.entry n).kind == .aspect && (s.cfg.entry n).system == sys) =
      decide (sys = (s.cfg.entry n).system ∧ s.kind n = .aspect) := by
    rw [Bool.eq_iff_iff, Bool.and_eq_true, beq_iff_eq, beq_iff_eq, decide_eq_true_eq, and_comm, eq_comm]
    rfl
  rw [State.aspectKind, State.aspectKind, hkinds, List.getD_eq_getElem?_getD, List.getD_eq_getElem?_getD,
    List.getElem?_mapIdx, List.getElem?_eq_getElem hn, Option.map_some, Option.getD_some, Option.getD_some, hcond]
  split
  · rename_i h
    rw [h, Bool.not_true, Bool.and_false]
  · rename_i h
    rw [Bool.eq_false_iff.2 h, Bool.not_false, Bool.and_true]

theorem State.acknowledge_awaiting (s : State) (code : Nat) {n : Nat} (hn : n < s.aspect.kinds.length) :
    ((s.acknowledge code).aspectKind n).awaiting = ((s.aspectKind n).awaiting &&
      !decide ((s.msg.ack s.now code).2 = .system (s.cfg.entry n).system ∧ s.kind n = .aspect)) := by
  cases h : (s.msg.ack s.now code).2 with
  | system sys =>
    simp only [State.acknowledge, h, AckOutcome.system.injEq]
    exact systemAcknowledged_awaiting (s.withMsg (s.msg.ack s.now code).1) sys hn
  | acknowledged =>
    simp only [State.acknowledge, h, reduceCtorEq, false_and, decide_false, Bool.not_false, Bool.and_true]
    rfl
  | late =>
    simp only [State.acknowledge, h, reduceCtorEq, false_and, decide_false, Bool.not_false, Bool.and_true]
    rfl

/-! ### A post through a ready port (log 14) -/

/-- The state after the write `w` to address `a` of the POST window has arrived, been granted and been written, before its
capture. -/
def State.posted (s : State) (a : Addr) (w : Word) : State := s.written (.write a w) a w

/-- Arrival, grant, capture and completion of a write to the POST window (R4, R29). -/
theorem deskWrite_post {s : State} {a : Addr} {w : Word} {k : Nat} (hready : PortReady s) (hs : s.inService = true)
    (hc : s.cfg.classify .upstream a = .post k) :
    s.deskWrite a w = ((s.posted a w).capture k w).columnDone := by
  obtain ⟨hidle, hfree, hdebt, hturn⟩ := hready
  have hg : GrantsUpstream (s.withUp (.claiming (.write a w))) (.write a w) := ⟨rfl, hfree, hdebt, hturn⟩
  have hback : (s.withUp (.claiming (.write a w))).withUp .idle = s := by
    show s.withPath { s.path with up := .idle } = s
    rw [← hidle]
    rfl
  have hwaiting := dispose_post_waiting (s := s.withUp (.claiming (.write a w))) rfl hs hc
  have hgrant := deskWrite_granted hg hwaiting
  rw [hback] at hgrant
  rw [hgrant, arbitrate_post hg hs hc]
  rfl

theorem columnDone_served {u : State} {r : UpstreamRequest} (h : u.path.up = .serving r none) :
    u.columnDone = u.withPath { u.path with port := u.path.port.release, up := .idle } := by
  rw [State.columnDone, h]
  rfl

/-- The stages after an action word: its cell's is empty (R127). -/
theorem setStage_stages {s x : State} {c : Nat} (hx : s.Acts x) (hl : s.msg.stages.length = 4) (hc : c < 4) :
    (x.setStage c none).stage c = none ∧ ∀ d, d ≠ c → (x.setStage c none).stage d = s.stage d := by
  have hlength : c < x.msg.stages.length := by
    rw [hx.stages, hl]
    exact hc
  refine ⟨getD_set_self _ _ _ _ hlength, fun d hd => (getD_set_ne _ _ _ _ _ hd).trans ?_⟩
  rw [hx.stages]
  rfl

/-- Between `s` and `t` cell `c`'s stage is emptied, and nothing else changes but what an action word can (R127). -/
def EmptiesStage (s t : State) (c : Nat) : Prop :=
  t.stage c = none ∧ (∀ d, d ≠ c → t.stage d = s.stage d) ∧
    t = { s with mem := t.mem, path := t.path, aspect := { s.aspect with kinds := t.aspect.kinds }, msg := t.msg,
                 status := t.status, lines := t.lines }

/-- `t` has the message unit but for the stages, the aspects and the status unit of `x`. -/
def State.TakesFrom (t x : State) : Prop :=
  t.msg = { x.msg with stages := t.msg.stages } ∧ t.aspect = x.aspect ∧ t.status = x.status

/-- An action word through a ready port: it is written and its stage emptied, and the rest is what its action does. -/
theorem action_ready {s : State} {a : Addr} {w : Word} {c : Nat} (hl : s.msg.stages.length = 4) (hready : PortReady s)
    (hs : s.inService = true) (hc : s.cfg.classify .upstream a = .post (2 * c + 1)) (hc4 : c < 4) :
    ∃ t, complete (s.deskWrite a w) = .next t ∧ DeskWritten s t a w ∧ EmptiesStage s t c ∧
      t.TakesFrom ((s.posted a w).acted c w) := by
  have hdesk := deskWrite_post (w := w) hready hs hc
  have hacts := (s.posted a w).acted_acts c w
  have hstage := setStage_stages (c := c) hacts hl hc4
  rw [capture_action _ c w hc4, captureAction_eq] at hdesk
  generalize (s.posted a w).acted c w = x at hacts hstage hdesk ⊢
  have hpath : x.path = (s.posted a w).path := by rw [hacts.rest]
  rw [columnDone_served (r := .write a w) (by rw [State.setStage_path, hpath]; rfl), State.setStage_path, hpath] at hdesk
  rw [hdesk]
  refine ⟨_, rfl, ⟨?_, rfl⟩, ⟨hstage.1, hstage.2, ?_⟩, rfl, rfl, rfl⟩
  · have hmem : x.mem = s.mem.write a w := by rw [hacts.rest]; rfl
    intro y
    exact (congrArg (fun m => m.read y) hmem).trans (Memory.read_write s.mem a y w)
  · rw [hacts.rest]
    rfl

/-! ### Bad posts and valid actions (R127, R128) -/

/-- Between `s` and `t` a post is counted as bad, and but for the stages the message unit and the aspects stay. -/
def CountsBadPost (s t : State) : Prop :=
  t.msg = { s.msg with stages := t.msg.stages } ∧ t.aspect = s.aspect ∧
    t.status = { s.status with counts := { s.status.counts with
      badPost := if s.status.counts.badPost < 255 then s.status.counts.badPost + 1 else 255 } }

theorem State.TakesFrom.countsBadPost {s t x : State} {a : Addr} {w : Word} (h : t.TakesFrom x)
    (hx : x = (s.posted a w).countBadPost) : CountsBadPost s t := by
  subst hx
  exact h

theorem classLimit_eq (c : Sections) (cell : Nat) : c.classLimit cell = (at0 c.messages cell).toNat % 4 := by
  rw [Sections.classLimit, bits_eq, pow_zero, Nat.div_one]
  rfl

theorem badPostTest_raise (limit : Nat) (st : Stage) :
    badPostTest limit st .raise = true ↔ st.code = 0 ∨ 1023 < st.code ∨ st.cls < limit := by
  simp only [badPostTest, Bool.or_eq_true, beq_iff_eq, decide_eq_true_eq, or_assoc]

theorem badPostTest_clear (limit : Nat) (st : Stage) :
    badPostTest limit st .clear = true ↔ st.code = 0 ∨ 1023 < st.code := by
  simp only [badPostTest, Bool.or_eq_true, beq_iff_eq, decide_eq_true_eq]

theorem badPostTest_ack (limit : Nat) (st : Stage) :
    badPostTest limit st .ack = true ↔ st.code = 0 ∨ 1125 < st.code := by
  simp only [badPostTest, Bool.or_eq_true, beq_iff_eq, decide_eq_true_eq]

theorem postActionOf_actionWord (marker : Byte) (ignored action : BitVec 4) :
    postActionOf (actionWord marker ignored action) =
      if action.toNat = 1 then some .raise else if action.toNat = 2 then some .clear
      else if action.toNat = 3 then some .ack else none := by
  rw [postActionOf, bits_actionWord]

/-- A valid action word through a ready port: a bad post with an empty stage or where the test says so, else its action is
performed with the staged code. -/
theorem validAction_ready {s : State} {a : Addr} {c : Nat} {marker : Byte} {ignored action : BitVec 4} {act : PostAction}
    (hl : s.msg.stages.length = 4) (hready : PortReady s) (hs : s.inService = true)
    (hc : s.cfg.classify .upstream a = .post (2 * c + 1)) (hc4 : c < 4)
    (hact : postActionOf (actionWord marker ignored action) = some act) :
    ∃ t, complete (s.deskWrite a (actionWord marker ignored action)) = .next t ∧
      DeskWritten s t a (actionWord marker ignored action) ∧ EmptiesStage s t c ∧
      (s.stage c = none → CountsBadPost s t) ∧
      ∀ st, s.stage c = some st →
        (badPostTest (s.cfg.classLimit c) st act = true → CountsBadPost s t) ∧
        (¬badPostTest (s.cfg.classLimit c) st act = true →
          t.TakesFrom ((s.posted a (actionWord marker ignored action)).postPerform c st marker act)) := by
  obtain ⟨t, hexec, hwritten, hemptied, htakes⟩ :=
    action_ready (w := actionWord marker ignored action) hl hready hs hc hc4
  refine ⟨t, hexec, hwritten, hemptied, fun hnone => htakes.countsBadPost (acted_unstaged _ hnone), fun st hst => ?_⟩
  have hstaged := acted_staged (s := s.posted a (actionWord marker ignored action)) hst hact
  rw [highByte_actionWord] at hstaged
  refine ⟨fun hbad => htakes.countsBadPost (hstaged.trans (if_pos hbad)), fun hgood => ?_⟩
  rw [hstaged.trans (if_neg hgood)] at htakes
  exact htakes

/-! ### What an action leaves, in the statement's words -/

section
variable {s t : State} {a : Addr} {w : Word} {c : Nat} {st : Stage} {marker : Byte}

theorem State.TakesFrom.raise (h : t.TakesFrom ((s.posted a w).postPerform c st marker .raise)) :
    let message : RaiseRequest :=
      { code := st.code, cls := st.cls, source := .postCell c, needsAck := st.needsAck, marker := marker }
    t.aspect = s.aspect ∧ t.msg = { (s.msg.raise s.ctl.ms message).1 with stages := t.msg.stages } ∧
      t.status = afterRaise (s.msg.raise s.ctl.ms message).2 s.status := by
  obtain ⟨hmsg, haspect, hstatus⟩ := h
  rw [State.postPerform] at hmsg haspect hstatus
  refine ⟨?_, ?_, ?_⟩
  · rw [haspect, State.raise_frame]
    rfl
  · rw [hmsg, State.raise_msg]
    rfl
  · rw [hstatus, State.raise_status]
    rfl

theorem State.TakesFrom.clear (h : t.TakesFrom ((s.posted a w).postPerform c st marker .clear)) :
    t.aspect = s.aspect ∧ t.msg = { (s.msg.clear s.ctl.ms st.code).1 with stages := t.msg.stages } ∧
      ((∃ e ∈ s.msg.entries, e.code = st.code) → t.status = s.status) ∧
      ((∀ e ∈ s.msg.entries, e.code ≠ st.code) → t.status = s.countStrayClear.status) := by
  obtain ⟨hmsg, haspect, hstatus⟩ := h
  have hfound := (s.posted a w).msg.clear_found_iff (s.posted a w).now st.code
  rw [State.postPerform] at hmsg haspect hstatus
  cases ho : ((s.posted a w).msg.clear (s.posted a w).now st.code).2 with
  | found =>
    rw [State.postClear_found ho] at hmsg haspect hstatus
    obtain ⟨e, he, hcode⟩ := hfound.1 ho
    exact ⟨haspect, hmsg, fun _ => hstatus, fun hno => absurd hcode (hno e he)⟩
  | absent =>
    have hno : ¬∃ e ∈ s.msg.entries, e.code = st.code := fun hex => by
      rw [hfound.2 hex] at ho
      cases ho
    have hclear : s.msg.clear s.ctl.ms st.code = (s.msg, .absent) :=
      MessageUnit.clear_absent _ _ _ ((findEntry_none_iff _ _).2 fun e he hcode => hno ⟨e, he, hcode⟩)
    rw [State.postClear_absent ho] at hmsg haspect hstatus
    rw [hclear]
    exact ⟨haspect, hmsg, fun hex => absurd hex hno, fun _ => hstatus⟩

theorem State.TakesFrom.ack (h : t.TakesFrom ((s.posted a w).postPerform c st marker .ack)) :
    t.msg = { (s.msg.ack s.ctl.ms st.code).1 with stages := t.msg.stages } ∧
      ((s.msg.ack s.ctl.ms st.code).2 ≠ .late → t.status = s.status) ∧
      ((s.msg.ack s.ctl.ms st.code).2 = .late → t.status = s.countLateAck.status) ∧
      ∀ n, n < s.aspect.kinds.length → (t.aspectKind n).awaiting = ((s.aspectKind n).awaiting &&
        !decide ((s.msg.ack s.ctl.ms st.code).2 = .system (s.cfg.entry n).system ∧ s.kind n = .aspect)) := by
  obtain ⟨hmsg, haspect, hstatus⟩ := h
  rw [State.postPerform] at hmsg haspect hstatus
  refine ⟨?_, fun hno => ?_, fun hlate => ?_, fun n hn => ?_⟩
  · rw [hmsg, State.acknowledge_msg]
    rfl
  · rw [hstatus]
    exact State.acknowledge_status hno
  · rw [hstatus, State.acknowledge_late (s := s.posted a w) hlate]
    rfl
  · rw [State.aspectKind, haspect]
    exact State.acknowledge_awaiting (s.posted a w) st.code hn

end

/-- Settles O53: each action word is carried through the port (`validAction_ready`), and its action is what the statement
says. -/
theorem actionWordsPerformOrAreBad : Obligations.ActionWordsPerformOrAreBad := by
  refine ⟨fun s a marker ignored c hl hready hs hc hc4 => ?_,
    fun s a marker ignored action c hl hready hs hc hc4 haction => ?_⟩
  · have hact : ∀ action : BitVec 4, postActionOf (actionWord marker ignored action) = _ :=
      postActionOf_actionWord marker ignored
    intro emptied bad
    refine ⟨?_, ?_, ?_⟩
    · obtain ⟨t, hexec, hwritten, hemptied, hnone, hstaged⟩ := validAction_ready hl hready hs hc hc4 (hact 1#4)
      refine ⟨t, hexec, hwritten, hemptied, hnone, fun st hst => ?_⟩
      obtain ⟨hbad, hgood⟩ := hstaged st hst
      rw [badPostTest_raise, classLimit_eq] at hbad hgood
      exact ⟨hbad, fun hlow hhigh hcls => (hgood (by omega)).raise⟩
    · obtain ⟨t, hexec, hwritten, hemptied, hnone, hstaged⟩ := validAction_ready hl hready hs hc hc4 (hact 2#4)
      refine ⟨t, hexec, hwritten, hemptied, hnone, fun st hst => ?_⟩
      obtain ⟨hbad, hgood⟩ := hstaged st hst
      rw [badPostTest_clear] at hbad hgood
      exact ⟨hbad, fun hlow hhigh => (hgood (by omega)).clear⟩
    · obtain ⟨t, hexec, hwritten, hemptied, hnone, hstaged⟩ := validAction_ready hl hready hs hc hc4 (hact 3#4)
      refine ⟨t, hexec, hwritten, hemptied, hnone, fun st hst => ?_⟩
      obtain ⟨hbad, hgood⟩ := hstaged st hst
      rw [badPostTest_ack] at hbad hgood
      exact ⟨hbad, fun hlow hhigh => (hgood (by omega)).ack⟩
  · have hact : postActionOf (actionWord marker ignored action) = none := by
      have hzero : action = 0#4 → action.toNat = 0 := fun h => by rw [h]; rfl
      have hother : action.toNat = 0 ∨ 4 ≤ action.toNat := haction.imp_left hzero
      rw [postActionOf_actionWord, if_neg (by omega), if_neg (by omega), if_neg (by omega)]
    obtain ⟨t, hexec, hwritten, ⟨hself, hothers, hrest⟩, htakes⟩ :=
      action_ready (w := actionWord marker ignored action) hl hready hs hc hc4
    obtain ⟨hmsg, haspect, hstatus⟩ := htakes.countsBadPost (acted_invalid hact)
    refine ⟨t, hexec, hwritten, hself, hothers, hstatus, ?_⟩
    rw [← hmsg]
    rw [haspect] at hrest
    exact hrest

end Sys2Proof.Machine
end

section
/-! PROOF SUPPORT. The events of the record engine as functions of the running state of one record. -/

namespace Sys2Proof.Machine

/-! ### The engine's events as functions of one record -/

/-- The display status after a refusal whose count of consecutive refusals is in place (R65, R66). -/
def RecordState.judged (r : RecordState) (limit : Nat) : RecordState :=
  if limit ≠ 0 ∧ r.refusals = limit then { r with status := .barred, progress := 0, timer := none }
  else if r.status = .recovering then { r with status := .stale, progress := 0 }
  else r

/-- The display status after an acceptance, by the recovery count (R63). -/
def RecordState.recovered (r : RecordState) (need : Nat) : RecordState :=
  match r.status with
  | .empty => { r with status := .valid, progress := 0 }
  | .valid => r
  | .stale =>
    if need = 1 then { r with status := .valid, progress := 0 } else { r with status := .recovering, progress := 1 }
  | .recovering =>
    if r.progress + 1 = need then { r with status := .valid, progress := 0 } else { r with progress := r.progress + 1 }
  | .barred => r

/-- The record after an acceptance (R47, R60, R63). -/
def RecordState.afterAcceptance (r : RecordState) (seq : Byte) (need : Nat) (moment : Time) : RecordState :=
  { (r.accept seq).recovered need with timer := some moment }

/-- The record after an expiry of its timer (R60, R61). -/
def RecordState.afterExpiry (r : RecordState) (moment : Time) : RecordState :=
  match r.status with
  | .empty => { r with status := .stale, progress := 0, timer := some moment }
  | .valid => { r with status := .stale, progress := 0, timer := some moment }
  | .stale => { r with timer := some moment }
  | .recovering => { r with status := .stale, progress := 0, timer := some moment }
  | .barred => r

theorem State.record_congr {s t : State} (h : t.recs = s.recs) (n : Nat) : t.record n = s.record n := by
  rw [State.record, State.record, h]

theorem notifyIf_recs (s : State) (b : Bool) (x : Notice) : (s.notifyIf b x).recs = s.recs := by
  unfold State.notifyIf
  split <;> rfl

theorem refuseAspect_recs (s : State) (n : Nat) : (s.refuseAspect n).recs = s.recs := by
  unfold State.refuseAspect
  split <;> rfl

theorem refuseAspect_cfg (s : State) (n : Nat) : (s.refuseAspect n).cfg = s.cfg := by
  unfold State.refuseAspect
  split <;> rfl

theorem completeChangeover_recs (s : State) (n : Nat) : (s.completeChangeover n).1.recs = s.recs := by
  unfold State.completeChangeover
  dsimp only
  split <;> rfl

theorem selectSystem_recs (s : State) (q : Nat) : (s.selectSystem q).1.recs = s.recs := by
  unfold State.selectSystem
  dsimp only
  split
  · rfl
  · split
    · rfl
    · split <;> rfl

/-- The kind computation of an acceptance leaves the running state of the records to the engine (R48). -/
theorem acceptKind_recs (s : State) (n : Nat) (words : List Word) : (s.acceptKind n words).1.recs = s.recs := by
  unfold State.acceptKind
  split
  · rfl
  · unfold State.acceptAspect
    dsimp only
    split <;> rfl
  · exact selectSystem_recs s _
  · rfl
  · rfl

section
variable {s : State} {n : Nat}

theorem enterStale_record (h : n < s.recs.length) :
    (s.enterStale n).record n = { s.record n with status := .stale, progress := 0 } := by
  exact (State.record_congr (discardKind_recs _ n) n).trans (s.record_setRecord_self n _ h)

theorem startTimer_record (h : n < s.recs.length) :
    (s.startTimer n).record n = { s.record n with timer := some (s.freshnessMoment n) } :=
  s.record_setRecord_self n _ h

theorem bar_record (h : n < s.recs.length) :
    (s.bar n).1.record n = { s.record n with status := .barred, progress := 0, timer := none } := by
  refine (State.record_congr ((discardKind_recs _ n).trans (notifyIf_recs _ _ _)) n).trans ?_
  exact s.record_setRecord_self n _ h

theorem refuseStatus_record (h : n < s.recs.length) :
    (s.refuseStatus n).1.record n = (s.record n).judged (s.cfg.entry n).refusalLimit := by
  unfold State.refuseStatus RecordState.judged
  dsimp only
  split
  · exact bar_record h
  · cases hs : (s.record n).status with
    | recovering => exact enterStale_record h
    | _ => rfl

/-- The record after a refusal (R49, R65, R66). -/
theorem refuse_record (h : n < s.recs.length) (why : Reason) :
    (s.refuse n why).1.record n = ((s.record n).refuse why).judged (s.cfg.entry n).refusalLimit := by
  have hrecs : ((((s.setRecord n ((s.record n).refuse why)).notify .refusal).refuseAspect n)).recs =
      (s.setRecord n ((s.record n).refuse why)).recs := refuseAspect_recs _ n
  unfold State.refuse
  rw [refuseStatus_record (by rw [hrecs]; simpa using h), State.record_congr hrecs, s.record_setRecord_self n _ h,
    refuseAspect_cfg]
  rfl

theorem enterValid_record (h : n < s.recs.length) :
    (s.enterValid n).1.record n = { s.record n with status := .valid, progress := 0 } := by
  have hset := s.record_setRecord_self n { s.record n with status := .valid, progress := 0 } h
  unfold State.enterValid
  dsimp only
  split
  · exact (State.record_congr (completeChangeover_recs _ n) n).trans hset
  all_goals exact hset

theorem acceptStatus_record (h : n < s.recs.length) :
    (s.acceptStatus n).1.record n = (s.record n).recovered (s.cfg.entry n).recovery := by
  unfold State.acceptStatus RecordState.recovered
  dsimp only
  cases hs : (s.record n).status with
  | empty => exact enterValid_record h
  | valid => rfl
  | stale =>
    dsimp only
    split
    · exact enterValid_record h
    · exact s.record_setRecord_self n _ h
  | recovering =>
    dsimp only
    split
    · exact enterValid_record h
    · exact s.record_setRecord_self n _ h
  | barred => rfl

/-- The record after an acceptance (R47, R60, R63). -/
theorem accept_record (h : n < s.recs.length) (seq : Byte) (words : List Word) :
    (s.accept n seq words).1.record n =
      (s.record n).afterAcceptance seq (s.cfg.entry n).recovery (s.freshnessMoment n) := by
  have hkind := (State.acceptKind_only (s.setRecord n ((s.record n).accept seq)) n words).sameFrame
  have hrecs := acceptKind_recs (s.setRecord n ((s.record n).accept seq)) n words
  unfold State.accept Event.andThen
  generalize (s.setRecord n ((s.record n).accept seq)).acceptKind n words = e at hkind hrecs
  have hlen : n < e.1.recs.length := by rw [hkind.recs]; simpa using h
  have hstatus := (e.1.acceptStatus_only n).sameFrame
  have hmoment : (e.1.acceptStatus n).1.freshnessMoment n = s.freshnessMoment n := by
    rw [State.freshnessMoment, State.freshnessMoment, State.now, State.now, hstatus.cfg, hstatus.ctl, hkind.cfg,
      hkind.ctl]
    rfl
  dsimp only
  rw [startTimer_record (by rw [hstatus.recs]; exact hlen), hmoment, acceptStatus_record hlen, hkind.cfg,
    State.record_congr hrecs, s.record_setRecord_self n _ h]
  rfl

/-- The record after an expiry of its timer (R60, R61). -/
theorem expire_record (h : n < s.recs.length) :
    (s.expire n).1.record n = (s.record n).afterExpiry (s.freshnessMoment n) := by
  have hstale := (s.enterStale_only n).sameFrame
  have hlen : n < (s.enterStale n).recs.length := by rw [hstale.recs]; exact h
  have hmoment : (s.enterStale n).freshnessMoment n = s.freshnessMoment n := by
    rw [State.freshnessMoment, State.freshnessMoment, State.now, State.now, hstale.cfg, hstale.ctl]
  have hfell : ((s.enterStale n).startTimer n).record n =
      { s.record n with status := .stale, progress := 0, timer := some (s.freshnessMoment n) } := by
    rw [startTimer_record hlen, hmoment, enterStale_record h]
  unfold State.expire RecordState.afterExpiry
  cases hs : (s.record n).status with
  | empty => exact hfell
  | valid => exact hfell
  | stale => exact (startTimer_record h).trans (by simp only [hs])
  | recovering => exact hfell
  | barred => rfl

/-- The record after its RELEASE (R67). -/
theorem releaseRecord_record (h : n < s.recs.length) :
    (s.releaseRecord n).1.record n =
      { s.record n with status := .empty, progress := 0, refusals := 0, lastSeq := none,
                        timer := some (s.freshnessMoment n) } := by
  unfold State.releaseRecord
  rw [startTimer_record (by simpa using h), s.record_setRecord_self n _ h]
  rfl

end

end Sys2Proof.Machine
end

section
/-! PROOF SUPPORT. The moves that a record can make within a command, and what each keeps (`RecordMove`). -/

namespace Sys2Proof.Machine

/-! ### The moves of one record -/

/-- A move of record `n` from the running state `r`: `e` is its entry of the record table, `now` the time, and `serv` says
that the part is in RUN or RETAIN. -/
inductive RecordMove (e : RecordEntry) (now : Time) (serv : Bool) (n : Nat) (r : RecordState) : RecordState → Prop where
  | stay : RecordMove e now serv n r r
  /-- a version is opened (R41) -/
  | opening (h : serv = true ∧ r.status ≠ .barred) (w : Word) :
      RecordMove e now serv n r { r with write := .opened 1 (recordCrcWord (recordCrcStart n) w) [w] }
  /-- a version is extended (R42) -/
  | extending (h : serv = true ∧ r.status ≠ .barred) (next : Nat) (crc : Byte) (words : List Word) (w : Word)
      (hw : r.write = .opened next crc words) :
      RecordMove e now serv n r { r with write := .opened (next + 1) (recordCrcWord crc w) (words ++ [w]) }
  /-- a refusal (R49) -/
  | refusal (h : serv = true ∧ r.status ≠ .barred) (why : Reason) :
      RecordMove e now serv n r ((r.refuse why).judged e.refusalLimit)
  /-- an acceptance (R47) -/
  | acceptance (h : serv = true ∧ r.status ≠ .barred) (seq : Byte) :
      RecordMove e now serv n r (r.afterAcceptance seq e.recovery (later now (100 * e.freshness)))
  /-- an expiry of the timer (R61) -/
  | expiry (h : r.timer ≠ none) : RecordMove e now serv n r (r.afterExpiry (later now (100 * e.freshness)))
  /-- a refresh overrun (R68) -/
  | overrun (h : r.status = .valid ∨ r.status = .recovering) :
      RecordMove e now serv n r { r with status := .stale, progress := 0 }
  /-- a RELEASE (R67) -/
  | release (h : r.status = .barred) (timer : Option Time) :
      RecordMove e now serv n r
        { r with status := .empty, progress := 0, refusals := 0, lastSeq := none, timer := timer }
  /-- a full reset or an entry to RUN (R162, R167) -/
  | reset (timer : Option Time) : RecordMove e now serv n r { RecordState.reset with timer := timer }
  /-- an entry to CONFIG (R78) -/
  | stop : RecordMove e now serv n r { r with timer := none }

section
variable {e : RecordEntry} {now : Time} {serv : Bool} {n : Nat} {r r' : RecordState}

/-- The running CRC over one word more (R44). -/
theorem recordCrcWord_crc8 (start : Byte) (words : List Word) (w : Word) :
    recordCrcWord (crc8 start (bytesOf words)) w = crc8 start (bytesOf (words ++ [w])) := by
  simp [recordCrcWord, crc8, bytesOf]

theorem RecordState.refuse_recordInv (h : RecordInv n r) (why : Reason) : RecordInv n (r.refuse why) := by
  obtain ⟨-, hprogress, hbarred, -⟩ := h
  refine ⟨?_, hprogress, fun hb => ⟨rfl, (hbarred hb).2⟩, nofun⟩
  show (if r.refusals < 15 then r.refusals + 1 else 15) ≤ 15
  split <;> omega

theorem RecordInv.stale (h : RecordInv n r) (timer : Option Time) :
    RecordInv n { r with status := .stale, progress := 0, timer := timer } := by
  obtain ⟨hrefusals, -, -, hwrite⟩ := h
  exact ⟨hrefusals, by simp, nofun, hwrite⟩

theorem RecordInv.withTimer (h : RecordInv n r) (hb : r.status ≠ .barred) (timer : Option Time) :
    RecordInv n { r with timer := timer } := by
  obtain ⟨hrefusals, hprogress, -, hwrite⟩ := h
  exact ⟨hrefusals, hprogress, fun hx => absurd hx hb, hwrite⟩

theorem RecordState.judged_recordInv (h : RecordInv n r) (hclosed : r.write = .closed) (limit : Nat) :
    RecordInv n (r.judged limit) := by
  unfold RecordState.judged
  split
  · obtain ⟨hrefusals, -, -, hwrite⟩ := h
    exact ⟨hrefusals, by simp, fun _ => ⟨hclosed, rfl⟩, hwrite⟩
  · split
    · exact h.stale _
    · exact h

theorem RecordState.afterAcceptance_recordInv (h : RecordInv n r) (hb : r.status ≠ .barred) (seq : Byte) (need : Nat)
    (moment : Time) : RecordInv n (r.afterAcceptance seq need moment) := by
  obtain ⟨-, hprogress, -, -⟩ := h
  obtain ⟨front, write, lastSeq, status, refusals, reason, progress, timer⟩ := r
  unfold RecordState.afterAcceptance RecordState.recovered RecordState.accept
  cases status with
  | empty => exact ⟨Nat.zero_le _, by simp, nofun, nofun⟩
  | valid => exact ⟨Nat.zero_le _, hprogress, nofun, nofun⟩
  | stale =>
    dsimp only
    split <;> exact ⟨Nat.zero_le _, by simp, nofun, nofun⟩
  | recovering =>
    dsimp only
    split <;> exact ⟨Nat.zero_le _, by simp, nofun, nofun⟩
  | barred => exact absurd rfl hb

theorem RecordState.afterExpiry_recordInv (h : RecordInv n r) (ht : r.timer ≠ none) (moment : Time) :
    RecordInv n (r.afterExpiry moment) := by
  obtain ⟨-, -, hbarred, -⟩ := id h
  unfold RecordState.afterExpiry
  cases hs : r.status with
  | empty => exact h.stale _
  | valid => exact h.stale _
  | stale => simpa only [hs] using h.withTimer (hs ▸ nofun) (some moment)
  | recovering => exact h.stale _
  | barred => exact absurd (hbarred hs).2 ht

/-- Each move keeps the invariant of a record (R41, R42, R44, R49, R64, R66). -/
theorem RecordMove.recordInv (h : RecordMove e now serv n r r') (hr : RecordInv n r) : RecordInv n r' := by
  obtain ⟨hrefusals, hprogress, hbarred, hwrite⟩ := id hr
  cases h with
  | stay => exact hr
  | opening h w =>
    refine ⟨hrefusals, hprogress, fun hb => absurd hb h.2, ?_⟩
    rintro _ _ _ ⟨⟩
    exact ⟨Nat.le_refl 1, rfl, recordCrcWord_crc8 _ [] w⟩
  | extending h next crc words w hw =>
    obtain ⟨-, hlength, hcrc⟩ := hwrite next crc words hw
    refine ⟨hrefusals, hprogress, fun hb => absurd hb h.2, ?_⟩
    rintro _ _ _ ⟨⟩
    exact ⟨by omega, by simp [hlength], by rw [hcrc, recordCrcWord_crc8]⟩
  | refusal h why => exact RecordState.judged_recordInv (RecordState.refuse_recordInv hr why) rfl _
  | acceptance h seq => exact RecordState.afterAcceptance_recordInv hr h.2 seq _ _
  | expiry h => exact RecordState.afterExpiry_recordInv hr h _
  | overrun h => exact hr.stale _
  | release h timer => exact ⟨Nat.zero_le _, by simp, nofun, hwrite⟩
  | reset timer => exact ⟨Nat.zero_le _, by simp [RecordState.reset], nofun, nofun⟩
  | stop => exact ⟨hrefusals, hprogress, fun hb => ⟨(hbarred hb).1, rfl⟩, hwrite⟩

theorem RecordState.judged_status (r : RecordState) (limit : Nat) :
    (r.judged limit).status = r.status ∨ (r.judged limit).status ≠ .valid := by
  unfold RecordState.judged
  split
  · exact Or.inr nofun
  · split
    · exact Or.inr nofun
    · exact Or.inl rfl

theorem RecordState.afterExpiry_status (r : RecordState) (moment : Time) :
    (r.afterExpiry moment).status ≠ .valid := by
  unfold RecordState.afterExpiry
  cases hs : r.status <;> simp [hs]

/-- Where an acceptance brings a record to VALID that was not, its recovery is complete (R63, R64). -/
theorem RecordState.afterAcceptance_valid {seq : Byte} {need : Nat} {moment : Time} (hr : r.status ≠ .valid)
    (h : (r.afterAcceptance seq need moment).status = .valid) :
    r.afterAcceptance seq need moment =
        { r.accept seq with status := .valid, progress := 0, timer := some moment } ∧
      (r.status = .stale → need = 1) ∧ (r.status = .recovering → r.progress + 1 = need) := by
  unfold RecordState.afterAcceptance RecordState.recovered RecordState.accept at *
  cases hs : r.status with
  | empty => exact ⟨rfl, nofun, nofun⟩
  | valid => exact absurd hs hr
  | stale =>
    rw [hs] at h
    dsimp only at h ⊢
    split at h
    · exact ⟨by rw [if_pos ‹_›], fun _ => ‹_›, nofun⟩
    · exact absurd h nofun
  | recovering =>
    rw [hs] at h
    dsimp only at h ⊢
    split at h
    · exact ⟨by rw [if_pos ‹_›], nofun, fun _ => ‹_›⟩
    · exact absurd h nofun
  | barred =>
    rw [hs] at h
    exact absurd h nofun

/-- A record becomes VALID by an acceptance alone (R63). -/
theorem RecordMove.becomesValid (h : RecordMove e now serv n r r') (hr : r.status ≠ .valid) (hr' : r'.status = .valid) :
    (serv = true ∧ r.status ≠ .barred) ∧
      ∃ seq, r' = r.afterAcceptance seq e.recovery (later now (100 * e.freshness)) := by
  cases h with
  | acceptance h seq => exact ⟨h, seq, rfl⟩
  | stay => exact absurd hr' hr
  | opening => exact absurd hr' hr
  | extending => exact absurd hr' hr
  | stop => exact absurd hr' hr
  | refusal h why =>
    rcases (r.refuse why).judged_status e.refusalLimit with hs | hs
    · exact absurd (hs.symm.trans hr') hr
    · exact absurd hr' hs
  | expiry => exact absurd hr' (r.afterExpiry_status _)
  | overrun => exact absurd hr' nofun
  | release => exact absurd hr' nofun
  | reset => exact absurd hr' nofun

/-- A BARRED record stays as it is or goes to EMPTY (R66, R67). -/
theorem RecordMove.ofBarred (h : RecordMove e now serv n r r') (hr : RecordInv n r) (hb : r.status = .barred) :
    r' = r ∨ (r'.status = .empty ∧ r'.refusals = 0 ∧ r'.lastSeq = none ∧ r'.progress = 0 ∧ r'.write = .closed) := by
  obtain ⟨-, -, hbarred, -⟩ := hr
  obtain ⟨hclosed, htimer⟩ := hbarred hb
  cases h with
  | stay => exact Or.inl rfl
  | stop => exact Or.inl (by rw [← htimer])
  | release => exact Or.inr ⟨rfl, rfl, rfl, rfl, hclosed⟩
  | reset => exact Or.inr ⟨rfl, rfl, rfl, rfl, rfl⟩
  | opening h => exact absurd hb h.2
  | extending h => exact absurd hb h.2
  | refusal h => exact absurd hb h.2
  | acceptance h => exact absurd hb h.2
  | expiry h => exact absurd htimer h
  | overrun h => exact absurd h (by simp [hb])

end

end Sys2Proof.Machine
end

section
/-! PROOFS. The moves of the records under every command: O7 and O11. -/

namespace Sys2Proof.Machine

/-! ### The moves of all the records -/

/-- From `s` to `t` every record makes one move. -/
def State.RecordMoves (s t : State) : Prop :=
  ∀ n, RecordMove (s.cfg.entry n) s.now s.inService n (s.record n) (t.record n)

/-- From `s` to `t` every record makes one move, and no timer starts outside RUN and RETAIN (R60, R78). -/
structure State.RecordsTurn (s t : State) : Prop where
  moves : s.RecordMoves t
  timers : t.inService = false → ∀ n, (t.record n).timer ≠ none → s.inService = false ∧ (s.record n).timer ≠ none

/-- The records stay, and RUN and RETAIN are not left. -/
structure State.KeepsRecords (s t : State) : Prop where
  recs : t.recs = s.recs
  service : t.inService = false → s.inService = false

/-- The records, their entries, the part state and the time stay. -/
structure State.SameEngine (s t : State) : Prop where
  recs : t.recs = s.recs
  cfg : t.cfg = s.cfg
  ctl : t.ctl = s.ctl

theorem State.SameEngine.trans {a b c : State} (h1 : a.SameEngine b) (h2 : b.SameEngine c) : a.SameEngine c :=
  ⟨h2.recs.trans h1.recs, h2.cfg.trans h1.cfg, h2.ctl.trans h1.ctl⟩

theorem State.SameEngine.refl (s : State) : s.SameEngine s := ⟨rfl, rfl, rfl⟩

theorem State.SameEngine.inService {s t : State} (h : s.SameEngine t) : t.inService = s.inService := by
  rw [State.inService, State.inService, State.part, State.part, h.ctl]

theorem State.SameEngine.keeps {s t : State} (h : s.SameEngine t) : s.KeepsRecords t :=
  ⟨h.recs, by rw [h.inService]; exact id⟩

theorem State.KeepsRecords.trans {a b c : State} (h1 : a.KeepsRecords b) (h2 : b.KeepsRecords c) : a.KeepsRecords c :=
  ⟨h2.recs.trans h1.recs, h1.service ∘ h2.service⟩

theorem State.KeepsRecords.turn {s t : State} (h : s.KeepsRecords t) : s.RecordsTurn t where
  moves n := by
    rw [State.record_congr h.recs]
    exact .stay
  timers ht n hn := ⟨h.service ht, by rwa [State.record_congr h.recs] at hn⟩

theorem State.RecordsTurn.andKeeps {s u t : State} (h : s.RecordsTurn u) (hk : u.KeepsRecords t) :
    s.RecordsTurn t where
  moves n := by
    rw [State.record_congr hk.recs]
    exact h.moves n
  timers ht n hn := h.timers (hk.service ht) n (by rwa [State.record_congr hk.recs] at hn)

theorem State.RecordsTurn.andSame {s u t : State} (h : s.RecordsTurn u) (hk : u.SameEngine t) : s.RecordsTurn t :=
  h.andKeeps hk.keeps

/-- A turn reads no more of the state before it than the engine does. -/
theorem State.SameEngine.andTurn {s u t : State} (h : s.SameEngine u) (ht : u.RecordsTurn t) : s.RecordsTurn t where
  moves n := by
    have hm := ht.moves n
    rwa [h.cfg, State.now, h.ctl, h.inService, State.record_congr h.recs] at hm
  timers hs n hn := by
    have hm := ht.timers hs n hn
    rwa [h.inService, State.record_congr h.recs] at hm

/-- In RUN and RETAIN the moves are all there is to a turn. -/
theorem State.RecordMoves.turn {s t : State} (h : s.RecordMoves t) (ht : t.inService = true) : s.RecordsTurn t where
  moves := h
  timers hs := absurd hs (by rw [ht]; exact nofun)

theorem State.OnlyMessagesAndPress.sameEngine {s t : State} (h : s.OnlyMessagesAndPress t) : s.SameEngine t :=
  ⟨by rw [h.1], h.sameFrame.cfg, h.sameFrame.ctl⟩

theorem State.OnlyMessages.sameEngine {s t : State} (h : s.OnlyMessages t) : s.SameEngine t := h.andPress.sameEngine

theorem Event.finish_sameEngine (e : Event) : e.1.SameEngine e.finish := (State.takeRequests_only _ _).sameEngine

/-! ### The events of the engine -/

/-- A record past the end of the list reads as the record after a full reset. -/
theorem State.record_past {s : State} {n : Nat} (h : ¬n < s.recs.length) : s.record n = RecordState.reset :=
  List.getD_eq_default _ _ (by omega)

/-- An event at record `n` is a move of that record. -/
theorem State.OnlyRecord.moves {s t : State} {n : Nat} (h : s.OnlyRecord t n)
    (hn : n < s.recs.length → RecordMove (s.cfg.entry n) s.now s.inService n (s.record n) (t.record n)) :
    s.RecordMoves t := by
  intro m
  by_cases hm : m = n
  · subst hm
    by_cases hl : m < s.recs.length
    · exact hn hl
    · rw [State.record_past hl, State.record_past (by rw [h.recsLength]; exact hl)]
      exact .stay
  · rw [h.records m hm]
    exact .stay

/-- The engine's step for a served window write (R41 to R49). -/
theorem State.writeStep_moves (s : State) (n k : Nat) (w : Word) (h : s.inService = true ∧ (s.record n).status ≠ .barred) :
    s.RecordMoves (s.writeStep n k w).1 := by
  refine (s.writeStep_only n k w).moves fun hn => ?_
  have hrefuse : ∀ why, RecordMove (s.cfg.entry n) s.now s.inService n (s.record n) ((s.refuse n why).1.record n) := by
    intro why
    rw [refuse_record hn]
    exact .refusal h why
  unfold State.writeStep
  split
  · rw [show (s.setWrite n _).record n = _ from s.record_setRecord_self n _ hn]
    exact .opening h w
  · split
    · exact hrefuse .order
    · rename_i next crc words hw
      split
      · exact hrefuse .order
      · rename_i hk
        split
        · unfold State.close
          split
          · exact hrefuse _
          · rw [accept_record hn]
            exact .acceptance h _
        · rw [show (s.setWrite n _).record n = _ from s.record_setRecord_self n _ hn, ← not_not.1 hk]
          exact .extending h next crc words w hw

/-- An expiry of a timer that runs (R61). -/
theorem State.expire_turn (s : State) (n : Nat) (h : (s.record n).timer ≠ none) : s.RecordsTurn (s.expire n).1 where
  moves := (s.expire_only n).moves fun hn => by
    rw [expire_record hn]
    exact .expiry h
  timers hs m hm := by
    have hctl := (s.expire_only n).sameFrame.ctl
    refine ⟨by rwa [State.inService, State.part, hctl] at hs, ?_⟩
    by_cases hmn : m = n
    · rw [hmn]
      exact h
    · rwa [(s.expire_only n).records m hmn] at hm

theorem State.releaseRecord_moves (s : State) (n : Nat) (h : (s.record n).status = .barred) :
    s.RecordMoves (s.releaseRecord n).1 := by
  refine (s.releaseRecord_only n).moves fun hn => ?_
  rw [releaseRecord_record hn]
  exact .release h _

/-- What a refresh overrun does to a record: nothing, or it makes it STALE (R68). -/
def RecordState.OverrunTo (r r' : RecordState) : Prop :=
  r' = r ∨ ((r.status = .valid ∨ r.status = .recovering) ∧ r' = { r with status := .stale, progress := 0 })

theorem overrunRecord_overrunTo (s : State) (n m : Nat) :
    (s.record m).OverrunTo ((s.overrunRecord n).1.record m) := by
  by_cases hf : s.Falls n
  · by_cases hm : m = n
    · subst hm
      by_cases hl : m < s.recs.length
      · refine Or.inr ⟨hf.2, ?_⟩
        obtain ⟨hvalid, hother⟩ := overrunRecord_falls s m hf
        by_cases hs : (s.record m).status = .valid
        · rw [hvalid hs]
          exact enterStale_record hl
        · rw [hother hs]
          exact enterStale_record hl
      · refine Or.inl ?_
        rw [State.record_past hl, State.record_past (by rw [(s.overrunRecord_only m).recsLength]; exact hl)]
    · exact Or.inl ((s.overrunRecord_only n).records m hm)
  · rw [overrunRecord_stays s n hf]
    exact Or.inl rfl

/-- A record that has become STALE stays so through the rest of the overrun. -/
theorem RecordState.OverrunTo.trans {a b c : RecordState} (h1 : a.OverrunTo b) (h2 : b.OverrunTo c) : a.OverrunTo c := by
  rcases id h1 with rfl | ⟨-, rfl⟩
  · exact h2
  · rcases h2 with rfl | ⟨hs, -⟩
    · exact h1
    · exact absurd hs (by simp)

theorem overrunRecords_overrunTo (s : State) (m : Nat) : (s.record m).OverrunTo (s.overrunRecords.1.record m) := by
  have fold : ∀ (ns : List Nat) (e : Event), (s.record m).OverrunTo (e.1.record m) →
      (s.record m).OverrunTo ((ns.foldl (fun e n => Event.andThen e fun s => s.overrunRecord n) e).1.record m) := by
    intro ns
    induction ns with
    | nil => exact fun e h => h
    | cons n ns ih => exact fun e h => ih _ (h.trans (overrunRecord_overrunTo e.1 n m))
  exact fold _ _ (Or.inl rfl)

theorem State.overrunRecords_moves (s : State) : s.RecordMoves s.overrunRecords.1 := by
  intro m
  rcases overrunRecords_overrunTo s m with h | ⟨hs, h⟩
  · rw [h]
    exact .stay
  · rw [h]
    exact .overrun hs

/-! ### The memory path -/

theorem State.withPath_sameEngine (s : State) (p : Path) : s.SameEngine (s.withPath p) := ⟨rfl, rfl, rfl⟩

theorem State.OnlyDisposed.sameEngine {s t : State} {r : UpstreamRequest} (h : s.OnlyDisposed t r) : s.SameEngine t :=
  ⟨by rw [h.rest], by rw [h.rest], h.ctl⟩

theorem State.dispose_sameEngine (s : State) (r : UpstreamRequest) : s.SameEngine (s.dispose r) :=
  (s.dispose_only r).sameEngine

theorem State.redispose_sameEngine (s : State) (r : UpstreamRequest) : s.SameEngine ((s.withUp .idle).dispose r) :=
  (s.withPath_sameEngine _).trans (State.dispose_sameEngine (s.withUp .idle) r)

theorem State.arrive_sameEngine (s : State) (r : UpstreamRequest) : s.SameEngine (s.arrive r) := by
  unfold State.arrive
  split
  · exact s.dispose_sameEngine r
  all_goals exact .refl s

theorem State.releasePinHeld_sameEngine (s : State) : s.SameEngine s.releasePinHeld := by
  unfold State.releasePinHeld
  split
  · exact s.redispose_sameEngine _
  all_goals exact .refl s

theorem State.releaseUpstream_sameEngine (s : State) : s.SameEngine s.releaseUpstream := by
  unfold State.releaseUpstream
  split
  · exact s.redispose_sameEngine _
  all_goals exact .refl s

theorem State.columnDone_sameEngine (s : State) : s.SameEngine s.columnDone := by
  obtain ⟨p, h⟩ := columnDone_path s
  rw [h]
  exact ⟨rfl, rfl, rfl⟩

theorem State.disposeBurst_sameEngine (s : State) (start : Addr) (count : BitVec 8) :
    s.SameEngine (s.disposeBurst start count) := by
  unfold State.disposeBurst
  split <;> exact ⟨rfl, rfl, rfl⟩

theorem State.arriveBurst_sameEngine (s : State) (start : Addr) (count : BitVec 8) :
    s.SameEngine (s.arriveBurst start count) := by
  unfold State.arriveBurst
  split
  · exact s.disposeBurst_sameEngine start count
  all_goals exact .refl s

theorem State.releaseBurst_sameEngine (s : State) : s.SameEngine s.releaseBurst := by
  unfold State.releaseBurst
  split
  · exact (s.withPath_sameEngine _).trans (State.disposeBurst_sameEngine (s.withScan .idle) _ _)
  all_goals exact .refl s

theorem State.endBurst_sameEngine (s : State) (phase : BurstPhase) : s.SameEngine (s.endBurst phase) := by
  have hidle : s.SameEngine (s.withScan .idle) := s.withPath_sameEngine _
  unfold State.endBurst
  dsimp only
  split
  · exact (hidle.trans (State.withPath_sameEngine _ _)).trans (State.releasePinHeld_sameEngine (s.withScan .idle).freePort)
  · exact hidle.trans (State.releasePinHeld_sameEngine _)

theorem State.deliver_sameEngine (s : State) (b : Burst) (w : Word) : s.SameEngine (s.deliver b w) := by
  by_cases h : b.left ≤ 1
  · rw [s.deliver_last b w h]
    exact (s.withPath_sameEngine _).trans (State.endBurst_sameEngine _ b.phase)
  · rw [s.deliver_more b w (by omega)]
    exact ⟨rfl, rfl, rfl⟩

theorem State.serveScanWord_sameEngine (s : State) (b : Burst) : s.SameEngine (s.serveScanWord b) := by
  unfold State.serveScanWord
  split
  · split
    · exact (s.withPath_sameEngine _).trans (State.deliver_sameEngine (s.columnRead _).1 b _)
    · exact ⟨rfl, rfl, rfl⟩
  · exact s.deliver_sameEngine b _
  · have hcount : s.SameEngine (s.withFreeCount (s.freeCount + 1)) := ⟨rfl, rfl, rfl⟩
    exact hcount.trans (State.deliver_sameEngine _ b _)

theorem State.capture_sameEngine (s : State) (k : Nat) (w : Word) : s.SameEngine (s.capture k w) := by
  unfold State.capture
  split
  · exact .refl s
  · split
    · exact ⟨rfl, rfl, rfl⟩
    · have hrest := (s.acted_acts (k / 2) w).rest
      rw [captureAction_eq, hrest]
      exact ⟨rfl, rfl, rfl⟩

/-- Only a WRITE in RUN or RETAIN to the window of a record that is not BARRED reaches the engine (R40). -/
theorem State.disposition_memoryRecord {s : State} {r : UpstreamRequest} {a : Addr} {n k : Nat}
    (h : s.disposition r = .memoryRecord a n k) : s.inService = true ∧ (s.record n).status ≠ .barred := by
  have hs : s.inService = true := by
    rw [State.inService_iff]
    unfold State.disposition State.part at h
    split at h
    case h_6 hp => exact Or.inl hp
    case h_7 hp => exact Or.inr hp
    all_goals exact absurd h nofun
  refine ⟨hs, fun hb => ?_⟩
  cases r with
  | read x =>
    rw [s.disposition_read x hs] at h
    cases hc : s.cfg.classify .upstream x with
    | record m j => cases hw : s.windowNow m j <;> simp [hc, hw, State.decideRead, WordSource.disposition] at h
    | slot j => cases hw : s.slotWord j <;> simp [hc, hw, State.decideRead, answerWith] at h
    | recalled j => cases hw : s.recallWord j <;> simp [hc, hw, State.decideRead, answerWith] at h
    | status j =>
      simp only [hc, State.decideRead] at h
      split_ifs at h
    | _ => simp [hc, State.decideRead] at h
  | write x w =>
    rw [s.disposition_write x w hs] at h
    cases hc : s.cfg.classify .upstream x with
    | record m j =>
      simp only [hc, State.decideWrite, State.decideWindowWrite] at h
      split_ifs at h with hbarred
      cases h
      exact hbarred hb
    | _ => simp [hc, State.decideWrite] at h

/-- The grant of an upstream transaction moves the record whose window it writes (R40). -/
theorem State.serveGranted_turn (s : State) (r : UpstreamRequest) :
    s.RecordsTurn (s.upstreamGranted.serveGranted r) := by
  have hmemory : ∀ a, s.SameEngine (s.upstreamGranted.serveMemory r a) := fun a => by cases r <;> exact ⟨rfl, rfl, rfl⟩
  have hdispose : s.RecordsTurn (s.upstreamGranted.dispose r).freePort := by
    have h := s.upstreamGranted.dispose_sameEngine r
    exact State.KeepsRecords.turn (State.SameEngine.keeps ⟨h.recs, h.cfg, h.ctl⟩)
  rw [State.serveGranted, State.upstreamGranted_disposition]
  split
  · exact (hmemory _).keeps.turn
  · exact ((hmemory _).trans (State.capture_sameEngine _ _ _)).keeps.turn
  · rename_i a n k hd
    have hmem := hmemory a
    have hserved := State.disposition_memoryRecord hd
    rw [← hmem.inService, ← State.record_congr hmem.recs] at hserved
    have honly := (State.writeStep_only (s.upstreamGranted.serveMemory r a) n k (requestData r)).sameFrame
    refine (hmem.andTurn ((State.writeStep_moves _ n k _ hserved).turn ?_)).andSame (Event.finish_sameEngine _)
    rw [State.inService, State.part, honly.ctl]
    exact hserved.1
  all_goals exact hdispose

theorem State.grantUpstream_turn (s : State) : s.RecordsTurn s.grantUpstream := by
  cases h : s.path.up with
  | claiming r =>
    rw [s.grantUpstream_claiming r h]
    exact s.serveGranted_turn r
  | _ => simp only [State.grantUpstream, h]; exact (State.SameEngine.refl s).keeps.turn

theorem State.arbitrate_turn (s : State) : s.RecordsTurn s.arbitrate := by
  have hscan : s.SameEngine s.grantScan := by
    unfold State.grantScan
    split
    · exact s.withPath_sameEngine _
    all_goals exact .refl s
  unfold State.arbitrate
  split
  · split
    · exact (s.withPath_sameEngine _).keeps.turn
    · exact s.grantUpstream_turn
    · exact hscan.keeps.turn
    · exact (State.SameEngine.refl s).keeps.turn
  all_goals exact (State.SameEngine.refl s).keeps.turn

/-- A post is carried by an arrival, a grant and a completion (log 14). -/
theorem State.deskWrite_turn (s : State) (a : Addr) (w : Word) : s.RecordsTurn (s.deskWrite a w) := by
  have harrival := s.dispose_sameEngine (.write a w)
  rw [s.deskWrite_eq]
  split
  · exact (State.SameEngine.refl s).keeps.turn
  · split
    · exact (harrival.andTurn (State.grantUpstream_turn _)).andSame (State.columnDone_sameEngine _)
    · exact harrival.keeps.turn

/-- A refresh overrun is an event of the engine in RUN and RETAIN (R13). -/
theorem State.refreshTick_turn (s : State) : s.RecordsTurn s.refreshTick := by
  have hoverrun : ∀ u : State, u.RecordsTurn u.overrun := by
    intro u
    have hlost : u.SameEngine ((u.notify .overrun).withMem u.mem.forget) := ⟨rfl, rfl, rfl⟩
    unfold State.overrun
    dsimp only
    split
    · rename_i hs
      have hctl := (State.overrunRecords_sameFrame ((u.notify .overrun).withMem u.mem.forget)).ctl
      refine (hlost.andTurn ((State.overrunRecords_moves _).turn ?_)).andSame (overrunMessages_only _).sameEngine
      rw [State.inService, State.part, hctl]
      exact hs
    · exact hlost.keeps.turn
  unfold State.refreshTick
  dsimp only
  split
  · exact (s.withPath_sameEngine _).andTurn (hoverrun (s.withRefresh _))
  · exact (s.withPath_sameEngine _).keeps.turn

/-! ### Entries to RUN and CONFIG, held traffic and full resets -/

/-- At an entry to RUN every record starts afresh (R167). -/
theorem State.enterRun_turn (s u : State) : s.RecordsTurn u.enterRun := by
  have hrecord : ∀ n, ∃ timer, u.enterRun.record n = { RecordState.reset with timer := timer } := by
    intro n
    rw [State.record_congr (s := u.runEvent) (by unfold State.enterRun; split <;> rfl)]
    by_cases hn : n < recordIndices.length
    · exact ⟨_, by simp [State.record, State.runEvent, State.recordAtRun, List.getD_eq_getElem?_getD, hn]; rfl⟩
    · exact ⟨none, State.record_past (by simpa [State.runEvent] using hn)⟩
  refine State.RecordMoves.turn (fun n => ?_) ?_
  · obtain ⟨timer, h⟩ := hrecord n
    rw [h]
    exact .reset timer
  · unfold State.enterRun
    split <;> rfl

/-- An entry to CONFIG stops the timers (R78). -/
theorem State.enterConfigMode_turn (s : State) : s.RecordsTurn s.enterConfigMode := by
  have hrecord : ∀ n, s.enterConfigMode.record n = { s.record n with timer := none } := by
    intro n
    simp only [State.record, State.enterConfigMode, List.getD_eq_getElem?_getD, List.getElem?_map]
    cases s.recs[n]? <;> rfl
  refine ⟨fun n => ?_, fun _ n hn => ?_⟩
  · rw [hrecord]
    exact .stop
  · rw [hrecord] at hn
    exact absurd rfl hn

theorem State.fullReset_turn (s u : State) (cause : ResetCause) : s.RecordsTurn (u.fullReset cause) := by
  have hrecord : ∀ n, (u.fullReset cause).record n = RecordState.reset := by
    intro n
    by_cases hn : n < 24
    · exact (reset_records n hn).1
    · exact State.record_past (s := State.reset) hn
  refine ⟨fun n => ?_, fun _ n hn => ?_⟩
  · rw [hrecord]
    exact .reset none
  · rw [hrecord] at hn
    exact absurd rfl hn

theorem State.takeUp_keepsRecords (s : State) (inRun : Bool) (f : State → State)
    (hf : ∀ u : State, u.SameEngine (f u)) : s.KeepsRecords (s.takeUp inRun f) := by
  unfold State.takeUp
  split
  · exact ⟨(hf (s.setPart .run)).recs, nofun⟩
  · exact (hf s).keeps

theorem State.releaseHeld_keepsRecords (s : State) : s.KeepsRecords s.releaseHeld := by
  unfold State.releaseHeld
  split
  · have hc : s.KeepsRecords ((s.choose 2).2.choose 2).2 := ⟨rfl, id⟩
    exact (hc.trans (State.takeUp_keepsRecords _ _ _ State.releaseUpstream_sameEngine)).trans
      (State.takeUp_keepsRecords _ _ _ State.releaseBurst_sameEngine)
  · exact (s.releaseUpstream_sameEngine.trans (State.releaseBurst_sameEngine _)).keeps

/-- LOAD is left to RUN or RETAIN, where the records start afresh, or to SAFE (R165). -/
theorem State.startupLoad_turn (s : State) (h : s.ctl.part = .load) : s.RecordsTurn s.startupLoad := by
  have hout : s.inService = false := by rw [State.inService, State.part, h]; rfl
  unfold State.startupLoad
  split
  · dsimp only
    split
    · exact State.enterRun_turn s _
    · exact State.KeepsRecords.turn ⟨rfl, fun _ => hout⟩
  · exact State.KeepsRecords.turn ⟨rfl, fun _ => hout⟩

theorem State.deskChange_keepsRecords (s : State) : s.KeepsRecords s.deskChange := by
  unfold State.deskChange State.followDesk
  split
  · exact ⟨rfl, nofun⟩
  · exact ⟨rfl, nofun⟩
  · exact ⟨rfl, id⟩

/-! ### The maintenance link -/

theorem State.finishRequest_sameEngine (s : State) (r : LinkResult) (sec detail : Nat) :
    s.SameEngine (s.finishRequest r sec detail) := ⟨rfl, rfl, rfl⟩

theorem State.refused_turn (s : State) (r : LinkResult) (sec detail : Nat) :
    s.RecordsTurn (s.finishRequest r sec detail) := (s.finishRequest_sameEngine r sec detail).keeps.turn

theorem State.takeEnterConfig_turn (s : State) : s.RecordsTurn s.takeEnterConfig := by
  have enter : s.RecordsTurn (s.enterConfigMode.commandResult .ok 1) :=
    s.enterConfigMode_turn.andSame (State.finishRequest_sameEngine _ _ _ _)
  unfold State.takeEnterConfig
  split
  · exact s.refused_turn _ _ _
  · exact enter
  · split
    · exact enter
    · exact s.refused_turn _ _ _
  · split
    · exact enter
    · exact s.refused_turn _ _ _
  all_goals exact (State.SameEngine.refl s).keeps.turn

theorem State.takeResume_turn (s : State) : s.RecordsTurn s.takeResume := by
  unfold State.takeResume
  split
  · split
    · exact (s.enterRun_turn s).andSame (State.finishRequest_sameEngine _ _ _ _)
    · exact s.refused_turn _ _ _
  · exact s.refused_turn _ _ _

theorem State.takeRelease_turn (s : State) (n : Nat) : s.RecordsTurn (s.takeRelease n) := by
  unfold State.takeRelease
  split
  · rename_i h
    have hctl := (s.releaseRecord_only n).sameFrame.ctl
    refine (((s.releaseRecord_moves n h.2).turn ?_).andSame (Event.finish_sameEngine _)).andSame
      (State.finishRequest_sameEngine _ _ _ _)
    rw [State.inService, State.part, hctl]
    exact h.1
  · exact s.refused_turn _ _ _

theorem State.performCommand_turn (s : State) (request : List Byte) (code : Nat) (arg : Byte) :
    s.RecordsTurn (s.performCommand request code arg) := by
  have plain : ∀ (k : Nat) (f : State → State), s.RecordsTurn (f s) → s.RecordsTurn (s.withoutArgument k arg f) := by
    intro k f hf
    unfold State.withoutArgument
    split
    · exact hf
    · exact s.refused_turn _ _ _
  unfold State.performCommand
  split
  · exact plain _ _ s.takeEnterConfig_turn
  · exact plain _ _ s.takeResume_turn
  · refine plain _ _ (State.KeepsRecords.turn ?_)
    unfold State.takeStore
    split <;> exact ⟨rfl, id⟩
  · refine plain _ _ (State.KeepsRecords.turn ?_)
    unfold State.takeLoad
    split <;> exact ⟨rfl, id⟩
  · split
    · exact s.refused_turn _ _ _
    · exact s.takeRelease_turn _
  · exact plain _ _ (State.KeepsRecords.turn ⟨rfl, id⟩)
  · exact plain _ _ (s.fullReset_turn s _)
  · exact s.refused_turn _ _ _

theorem State.performRequest_turn (s : State) (request : List Byte) (q : LinkRequest) :
    s.RecordsTurn (s.performRequest request q) := by
  unfold State.performRequest
  split
  · exact s.refused_turn _ _ _
  · split
    · exact State.KeepsRecords.turn ⟨rfl, id⟩
    · split
      · exact s.performCommand_turn _ _ _
      · split
        · exact s.refused_turn _ _ _
        · exact State.KeepsRecords.turn ⟨rfl, id⟩

theorem State.linkTransfer_turn (s : State) (x : LinkTransfer) : s.RecordsTurn (s.linkTransfer x) := by
  have haddress : s.SameEngine (s.answerAddress x.target) := ⟨rfl, rfl, rfl⟩
  unfold State.linkTransfer
  dsimp only
  split
  · split
    · exact haddress.keeps.turn
    · split
      · exact haddress.andTurn (State.refused_turn _ _ _ _)
      · exact haddress.andTurn (State.performRequest_turn _ _ _)
  · exact haddress.keeps.turn

/-! ### Every command -/

/-- What `exec` answers makes a turn of the records. -/
def RecordsTurnOf (s : State) (o : Host.Outcome State Fault Refusal) : Prop := ∃ t, o = complete t ∧ s.RecordsTurn t

theorem RecordsTurnOf.ite {s : State} {p : Prop} [Decidable p] {o o' : Host.Outcome State Fault Refusal}
    (h : p → RecordsTurnOf s o) (h' : ¬p → RecordsTurnOf s o') : RecordsTurnOf s (if p then o else o') := by
  split
  · exact h ‹_›
  · exact h' ‹_›

theorem recordsTurnOf {s t : State} (h : s.RecordsTurn t) : RecordsTurnOf s (complete t) := ⟨t, rfl, h⟩

theorem recordsTurnOf_kept {s t : State} (recs : t.recs = s.recs := by rfl)
    (service : t.inService = false → s.inService = false := by exact id) : RecordsTurnOf s (complete t) :=
  recordsTurnOf (State.KeepsRecords.turn ⟨recs, service⟩)

theorem recordsTurnOf_same {s t : State} (h : s.SameEngine t) : RecordsTurnOf s (complete t) :=
  recordsTurnOf h.keeps.turn

/-- A command that takes effect only under its condition. -/
theorem recordsTurnOf_guarded {s t : State} {p : Prop} [Decidable p] (h : p → s.RecordsTurn t) :
    RecordsTurnOf s (if p then complete t else complete s) :=
  .ite (fun hp => recordsTurnOf (h hp)) fun _ => recordsTurnOf_kept

theorem recordsTurnOf_powerUpEnd (s : State) (straps : BitVec 2) : RecordsTurnOf s (execPowerUpEnd straps s) := by
  refine recordsTurnOf_guarded fun h => State.KeepsRecords.turn ⟨rfl, fun _ => ?_⟩
  simp only [State.powerUpMayEnd, Bool.and_eq_true, beq_iff_eq] at h
  rw [State.inService, h.1.1]
  rfl

theorem recordsTurnOf_initialRefreshDone (s : State) : RecordsTurnOf s (execInitialRefreshDone s) := by
  unfold execInitialRefreshDone
  split
  · rename_i hpart _
    have hout : s.inService = false := by rw [State.inService, hpart]; rfl
    split
    · exact recordsTurnOf_kept rfl fun _ => hout
    · exact recordsTurnOf_kept
  · exact recordsTurnOf_kept

theorem recordsTurnOf_scanWord (s : State) : RecordsTurnOf s (execScanWord s) := by
  unfold execScanWord
  split
  · exact .ite (fun _ => recordsTurnOf_kept) fun _ => recordsTurnOf_same (s.serveScanWord_sameEngine _)
  all_goals exact recordsTurnOf_kept

theorem recordsTurnOf_storeDone (s : State) (faults : List (Nat × Word)) : RecordsTurnOf s (execStoreDone faults s) := by
  have hstore : ∀ c, s.SameEngine (s.endStore c faults) := fun c => by
    unfold State.endStore
    dsimp only
    split <;> exact ⟨rfl, rfl, rfl⟩
  unfold execStoreDone
  split
  · exact recordsTurnOf_same (hstore _)
  all_goals exact recordsTurnOf_kept

theorem recordsTurnOf_loadDone (s : State) : RecordsTurnOf s (execLoadDone s) := by
  have hload : s.KeepsRecords s.endLoad := by
    unfold State.endLoad
    split <;> exact ⟨rfl, id⟩
  unfold execLoadDone
  split
  · exact recordsTurnOf hload.turn
  all_goals exact recordsTurnOf_kept

theorem recordsTurnOf_freshnessExpiry (s : State) (n : Nat) : RecordsTurnOf s (execFreshnessExpiry n s) := by
  refine recordsTurnOf_guarded fun h => (s.expire_turn n fun hnone => ?_).andSame (Event.finish_sameEngine _)
  rw [State.freshnessDue, hnone] at h
  exact absurd h nofun

theorem recordsTurnOf_deskOnInputChange (s : State) (high : Bool) : RecordsTurnOf s (execDeskOnInputChange high s) := by
  refine recordsTurnOf (State.KeepsRecords.turn ?_)
  unfold State.deskInput
  split <;> exact ⟨rfl, id⟩

/-- Under every command each record makes one of its moves. -/
theorem exec_records (c : Instr) (s : State) : RecordsTurnOf s (exec c s) := by
  cases c with
  | powerOn | supplyDip | resetLine => exact recordsTurnOf (s.fullReset_turn _ _)
  | powerUpEnd straps => exact recordsTurnOf_powerUpEnd s straps
  | memoryInitPauseEnd => exact recordsTurnOf_guarded fun _ => State.KeepsRecords.turn ⟨rfl, id⟩
  | initialRefreshDone => exact recordsTurnOf_initialRefreshDone s
  | startupLoadDone =>
    exact recordsTurnOf_guarded fun h => (s.startupLoad_turn h).andKeeps (State.releaseHeld_keepsRecords _)
  | deskOnInputChange high => exact recordsTurnOf_deskOnInputChange s high
  | deskOnFilterChange => exact recordsTurnOf_guarded fun _ => s.deskChange_keepsRecords.turn
  | millisecondTick => exact .ite (fun _ => recordsTurnOf_kept) fun _ => recordsTurnOf_kept
  | refreshTick => exact recordsTurnOf_guarded fun _ => s.refreshTick_turn
  | arbiterGrant => exact recordsTurnOf s.arbitrate_turn
  | refreshDone => exact recordsTurnOf_guarded fun _ => (s.withPath_sameEngine _).keeps.turn
  | upstreamColumnDone => exact recordsTurnOf_same s.columnDone_sameEngine
  | upstreamArrival r => exact recordsTurnOf_same (s.arrive_sameEngine r)
  | statusWord0Read a => exact recordsTurnOf_same (s.arrive_sameEngine _)
  | scanBurstArrival start count => exact recordsTurnOf_same (s.arriveBurst_sameEngine start count)
  | scanWord => exact recordsTurnOf_scanWord s
  | freshnessExpiry n => exact recordsTurnOf_freshnessExpiry s n
  | changeoverTimerExpiry =>
    exact recordsTurnOf_guarded fun _ => State.KeepsRecords.turn
      (State.KeepsRecords.trans (b := s.setSelection { s.aspect.select with timer := .expired }) ⟨rfl, id⟩
        (State.takeRequests_only _ _).sameEngine.keeps)
  | axlePulse | ackLineAsserted | ackLineReleased | readTransfer => exact recordsTurnOf_kept
  | resetLineReleased | supplyGoodAfterDip => exact recordsTurnOf_kept
  | axleWindowEnd | ackReleaseSettled => exact recordsTurnOf_guarded fun _ => State.KeepsRecords.turn ⟨rfl, id⟩
  | ackPress => exact recordsTurnOf_guarded fun _ => s.press_only.sameEngine.keeps.turn
  | postMessageWord | postRaise | postClear | postAck | badPost => exact recordsTurnOf (s.deskWrite_turn _ _)
  | storeDone faults => exact recordsTurnOf_storeDone s faults
  | loadDone => exact recordsTurnOf_loadDone s
  | linkAddressProbe | readRequest | sectionWrite | enterConfig | resume | store | load | release | clearRecall
  | restart | badCommand => exact recordsTurnOf (s.linkTransfer_turn _)

theorem exec_recordsTurn {c : Instr} {s t : State} (h : exec c s = .next t) : s.RecordsTurn t := by
  obtain ⟨u, e, hu⟩ := exec_records c s
  rw [e] at h
  cases h
  exact hu.andKeeps ⟨rfl, id⟩

/-- A turn keeps the invariant of the records: each move keeps that of its record, and no timer starts out of service. -/
theorem State.RecordsTurn.recordsInv {s t : State} (h : s.RecordsTurn t) (hs : RecordsInv s) : RecordsInv t := by
  obtain ⟨hrecords, htimers⟩ := hs
  refine ⟨fun n hn => (h.moves n).recordInv (hrecords n hn), fun hout n hn => ?_⟩
  by_contra hrun
  obtain ⟨hsout, hsrun⟩ := h.timers hout n hrun
  exact hsrun (htimers hsout n hn)

/-- Settles O7: every command is a turn of the records (`exec_records`), and every move of a record keeps its invariant
(`RecordMove.recordInv`). -/
theorem everyStepKeepsTheRecords : Obligations.EveryStepKeepsTheRecords := by
  intro s t hs h
  unfold step at h
  split at h
  · cases h
    exact hs
  · exact (exec_recordsTurn h).recordsInv hs

/-- Settles O11: of the moves a record can make the acceptance alone leads to VALID (`RecordMove.becomesValid`), and a
BARRED record can only be released or started afresh (`RecordMove.ofBarred`). -/
theorem recordsBecomeValidByAcceptanceAlone : Obligations.RecordsBecomeValidByAcceptanceAlone := by
  refine ⟨fun c s t n h hs ht => ?_, fun c s t n hinv hn h hb => ?_⟩
  · obtain ⟨⟨hserv, hbarred⟩, seq, haccept⟩ := ((exec_recordsTurn h).moves n).becomesValid hs ht
    rw [haccept] at ht ⊢
    obtain ⟨hafter, hstale, hrecovering⟩ := RecordState.afterAcceptance_valid hs ht
    rw [hafter]
    exact ⟨hserv, rfl, rfl, nofun, rfl, rfl, rfl, hbarred, hstale, hrecovering⟩
  · exact ((exec_recordsTurn h).moves n).ofBarred (hinv.1 n hn) hb

end Sys2Proof.Machine
end

section
/-! PROOFS. The state after reset: O4. -/

namespace Sys2Proof.Machine

/-- The blocks of State.reset hold what a full reset gives them (section 1.8, R162). -/
theorem reset_values : FullResetValues State.reset := State.reset.fullReset_values .powerOn

theorem reset_shapeInv : ShapeInv State.reset :=
  ⟨Sections.reset_shaped, List.length_replicate, rfl, rfl, rfl, rfl, nofun⟩

theorem reset_listInv : ListInv State.reset :=
  ⟨.nil, Nat.zero_le _, List.nodup_nil, List.nodup_nil, nofun, Nat.zero_le _, Nat.zero_le _⟩

theorem recordInv_reset (n : Nat) : RecordInv n RecordState.reset :=
  ⟨Nat.zero_le _, ⟨nofun, fun h => absurd rfl h⟩, nofun, nofun⟩

theorem reset_recordsInv : RecordsInv State.reset := by
  have hrecord : ∀ n, n < 24 → State.reset.record n = RecordState.reset := fun n hn => (reset_records n hn).1
  refine ⟨fun n hn => ?_, fun _ n hn => ?_⟩
  · rw [hrecord n hn]
    exact recordInv_reset n
  · rw [hrecord n hn]
    rfl

theorem reset_selectionInv : SelectionInv State.reset := ⟨Iff.rfl, fun _ => ⟨rfl, rfl⟩, nofun⟩

theorem reset_portInv : PortInv State.reset :=
  ⟨⟨nofun, False.elim⟩, ⟨nofun, False.elim⟩, fun _ => rfl, Nat.zero_le 8, nofun, nofun⟩

/-- Settles O4: the values of the blocks (`reset_values`) and one lemma for each invariant. -/
theorem resetStateMeetsInvariantsAndTables : Obligations.ResetStateMeetsInvariantsAndTables :=
  ⟨reset_values, rfl, State.reset_mem_wf, reset_shapeInv, fun h => absurd rfl h, reset_listInv, reset_recordsInv,
    reset_selectionInv, reset_portInv, nofun⟩

end Sys2Proof.Machine
end

section
/-! PROOFS. Served window writes: O33. The rules here serve every statement about a served window write. -/

namespace Sys2Proof.Machine

/-! ### The CRC by its rule (R44, R156) -/

theorem crc8Shift_eq (x : Byte) :
    crc8Shift x = if 2 ^ 8 ≤ 2 * x.toNat then (x + x) ^^^ 0x1D#8 else x + x := by
  have hdouble : x <<< 1 = x + x := by
    apply BitVec.eq_of_toNat_eq
    simp [Nat.shiftLeft_eq, Nat.mul_two]
  have htop : x.msb = true ↔ 2 ^ 8 ≤ 2 * x.toNat := by
    rw [BitVec.msb_eq_decide, decide_eq_true_iff]
    omega
  simp only [crc8Shift, hdouble, htop]

/-- The model's CRC shifts a register as the rule does. -/
theorem crc8_eq_byRule (start : Byte) (bs : List Byte) : crc8 start bs = crc8ByRule start bs := by
  have hbyte : ∀ r b : Byte, crc8Byte r b = crcShifts 0x1D#8 (r ^^^ b) := by
    intro r b
    rw [crc8Byte, crcShifts, show crc8Shift = _ from funext crc8Shift_eq]
    exact (List.foldl_const _ _ (List.range 8)).symm
  rw [crc8, crc8ByRule, show crc8Byte = _ from funext fun r => funext (hbyte r)]

/-! ### A served window write (R40) -/

/-- The state in which the engine takes its step for a served window write: the word is in the back copy. -/
def State.windowWritten (s : State) (a : Addr) (w : Word) (n k : Nat) : State :=
  s.written (.write a w) (s.copyAddr n (s.record n).front.other k) w

section
variable {s : State} {a : Addr} {w : Word} {n k : Nat}

theorem exec_windowWrite (h : ServesWindowWrite s a w n k) :
    exec .arbiterGrant s = .next (Event.finish ((s.windowWritten a w n k).writeStep n k w)).driveLines :=
  congrArg complete (arbitrate_windowWrite s a w n k h)

/-- The engine's step leaves the word where it was written. -/
theorem windowWrite_writtenAt :
    WrittenAt s (Event.finish ((s.windowWritten a w n k).writeStep n k w)).driveLines (.write a w)
      (s.copyAddr n (s.record n).front.other k) w := by
  have h : WrittenAt s (Event.finish ((s.windowWritten a w n k).writeStep n k w)) (.write a w)
      (s.copyAddr n (s.record n).front.other k) w :=
    (writtenAt_written s (.write a w) _ w).andThen (Event.finish_sameFrame (State.writeStep_only _ n k w))
  exact h

theorem ServesWindowWrite.lt_recs (h : ServesWindowWrite s a w n k) (hshape : ShapeInv s) : n < s.recs.length := by
  obtain ⟨-, -, -, hn, -⟩ := h
  obtain ⟨-, -, hrecs, -⟩ := hshape
  omega

/-- A step that replaces the write state alone, as the statements have it (R41, R42). -/
theorem windowWrite_sets {x : WriteState} (h : ServesWindowWrite s a w n k) (hshape : ShapeInv s)
    (hstep : (s.windowWritten a w n k).writeStep n k w = ((s.windowWritten a w n k).setWrite n x, [])) :
    ∃ t, exec .arbiterGrant s = .next t ∧
      WrittenAt s t (.write a w) (s.copyAddr n (s.record n).front.other k) w ∧
      t.record n = { s.record n with write := x } ∧ (∀ m, m ≠ n → t.record m = s.record m) ∧
      t = { s with mem := t.mem, path := t.path, recs := t.recs, lines := t.lines } := by
  have hwritten := windowWrite_writtenAt (s := s) (a := a) (w := w) (n := n) (k := k)
  have hexec := exec_windowWrite h
  rw [hstep] at hexec hwritten
  exact ⟨_, hexec, hwritten, (s.windowWritten a w n k).record_setRecord_self n _ (h.lt_recs hshape),
    fun m hm => (s.windowWritten a w n k).record_setRecord_ne n m _ hm, rfl⟩

end

theorem writeStep_first (s : State) (n : Nat) (w : Word) :
    s.writeStep n 0 w = (s.setWrite n (.opened 1 (recordCrcWord (recordCrcStart n) w) [w]), []) := if_pos rfl

theorem writeStep_next {s : State} {n k : Nat} {crc : Byte} {words : List Word} (w : Word) (hk : 1 ≤ k)
    (hi : k < (s.cfg.entry n).inputs) (hopen : (s.record n).write = .opened k crc words) :
    s.writeStep n k w = (s.setWrite n (.opened (k + 1) (recordCrcWord crc w) (words ++ [w])), []) := by
  rw [State.writeStep, if_neg (by omega), hopen]
  dsimp only
  rw [if_neg (by simp), if_neg (by omega)]

/-- Settles O33: a first and a next word replace the write state alone (`windowWrite_sets`). -/
theorem windowWordsBuildAVersion : Obligations.WindowWordsBuildAVersion :=
  ⟨crc8_eq_byRule,
    fun _ _ w n hshape h => windowWrite_sets h hshape (writeStep_first _ n w),
    fun _ _ w _ _ _ _ hshape h hk hi hopen => windowWrite_sets h hshape (writeStep_next w hk hi hopen)⟩

end Sys2Proof.Machine
end

section
/-! PROOFS. Refusals below the limit: O34. -/

namespace Sys2Proof.Machine

/-! ### The content check by kind (R81, R108, R116) -/

theorem bits_high (w : Word) : bits w 15 8 = w.toNat / 256 := by
  have := w.isLt
  simp only [bits]
  omega

theorem bits_low (w : Word) : bits w 7 0 = w.toNat % 256 := by simp [bits]

/-- An aspect code is found where an entry in use has it (R106, R108). -/
theorem findAspect_isSome_iff (c : Sections) (y code : Nat) :
    (c.findAspect y code).isSome = true ↔
      ∃ j, j < (at0 c.aspects (33 * y)).toNat / 256 % 32 ∧ (at0 c.aspects (33 * y + 1 + 2 * j)).toNat / 256 = code := by
  have hcount : c.aspectCount y = (at0 c.aspects (33 * y)).toNat / 256 % 32 := rfl
  have hcode : ∀ j, (c.aspectEntry y j).code = (at0 c.aspects (33 * y + 1 + 2 * j)).toNat / 256 := fun j => bits_high _
  simp [Sections.findAspect, Sections.aspectsInUse, hcount, hcode]

theorem systemEnabled_iff (c : Sections) (y : Nat) :
    c.systemEnabled y = true ↔ 32768 ≤ (at0 c.aspects (33 * y)).toNat := by
  have := (at0 c.aspects (33 * y)).isLt
  rw [Sections.systemEnabled, bit_iff, Sections.aspectHeader]
  omega

theorem contentCheck_iff (s : State) (n : Nat) (words : List Word) :
    s.contentCheck n words = true ↔ ContentPasses s n words := by
  unfold State.contentCheck ContentPasses
  cases s.kind n with
  | speed =>
    simp only [speedContent, speedNone, Bool.not_eq_true', Bool.and_eq_false_iff, beq_eq_false_iff_ne, bne_eq_false_iff_eq]
    tauto
  | aspect =>
    simp only [State.aspectContent, Bool.and_eq_true, Bool.or_eq_true, beq_iff_eq, bits_high, bits_low,
      findAspect_isSome_iff]
    tauto
  | select => simp only [State.selectContent, Bool.and_eq_true, decide_eq_true_eq, systemEnabled_iff]
  | plain => simp
  | none => simp

/-! ### The step that refuses (R42, R43, R45, R46) -/

/-- At the check word the refusal is that of the checks of a close (R45). -/
theorem refusalReason_close {s : State} {n : Nat} {w : Word} {crc : Byte} {words : List Word}
    (h1 : 1 ≤ (s.cfg.entry n).inputs) (hopen : (s.record n).write = .opened (s.cfg.entry n).inputs crc words) :
    refusalReason s n (s.cfg.entry n).inputs w = s.closeCheck n crc words w := by
  unfold refusalReason State.closeCheck sequenceCheck
  rw [if_neg (by omega), hopen]
  dsimp only
  rw [if_neg (by simp), if_neg (Nat.lt_irrefl _)]
  refine if_congr Iff.rfl rfl ?_
  cases (s.record n).lastSeq with
  | none => rfl
  | some l =>
    dsimp only
    generalize (highByte w - l).toNat = d
    by_cases h0 : d = 0
    · simp [h0]
    · by_cases h7 : d ≤ 7
      · simp [h0, h7, show ¬8 ≤ d by omega]
      · simp [h0, h7, show 8 ≤ d by omega]

theorem writeStep_closes {s : State} {n : Nat} {crc : Byte} {words : List Word} (w : Word)
    (h1 : 1 ≤ (s.cfg.entry n).inputs) (hopen : (s.record n).write = .opened (s.cfg.entry n).inputs crc words) :
    s.writeStep n (s.cfg.entry n).inputs w = s.close n crc words w := by
  rw [State.writeStep, if_neg (by omega), hopen]
  dsimp only
  rw [if_neg (by simp), if_pos rfl]

/-- A served write that makes a refusal is refused for its reason (R43, R45). -/
theorem writeStep_refuses {s : State} {n k : Nat} {w : Word} {why : Reason} (h : refusalReason s n k w = some why)
    (hk : k ≤ (s.cfg.entry n).inputs) : s.writeStep n k w = s.refuse n why := by
  have h0 : k ≠ 0 := by
    rintro rfl
    exact absurd h nofun
  cases hopen : (s.record n).write with
  | closed =>
    rw [refusalReason, if_neg h0, hopen] at h
    rw [State.writeStep, if_neg h0, hopen]
    cases h
    rfl
  | opened next crc words =>
    by_cases hnext : next = k
    · subst hnext
      rcases Nat.lt_or_eq_of_le hk with hlt | heq
      · rw [refusalReason, if_neg h0, hopen] at h
        dsimp only at h
        rw [if_neg (by simp), if_pos hlt] at h
        exact absurd h nofun
      · rw [heq] at hopen h ⊢
        rw [refusalReason_close (by omega) hopen] at h
        rw [writeStep_closes w (by omega) hopen, State.close, h]
    · rw [refusalReason, if_neg h0, hopen] at h
      rw [State.writeStep, if_neg h0, hopen]
      dsimp only at h ⊢
      rw [if_pos hnext] at h ⊢
      cases h
      rfl

/-! ### A refusal below the limit (R49, R65, R69, R74, R111) -/

/-- What every refusal does first: it is counted and noticed, and empties a pending upgrade. -/
def State.noteRefusal (s : State) (n : Nat) (why : Reason) : State :=
  ((s.setRecord n ((s.record n).refuse why)).notify .refusal).refuseAspect n

/-- The state after a refusal below the limit, its request not yet taken. -/
def State.refusedBelow (s : State) (n : Nat) (why : Reason) : State :=
  if (s.record n).status = .recovering then (s.noteRefusal n why).enterStale n else s.noteRefusal n why

section
variable {s : State} {n : Nat} {why : Reason}

/-- The refusal does not bring the count to a limit (R66). -/
def State.BelowLimit (s : State) (n : Nat) : Prop :=
  (s.cfg.entry n).refusalLimit = 0 ∨ min 15 ((s.record n).refusals + 1) ≠ (s.cfg.entry n).refusalLimit

theorem RecordState.refuse_refusals (r : RecordState) (why : Reason) :
    (r.refuse why).refusals = min 15 (r.refusals + 1) := by
  show (if r.refusals < 15 then r.refusals + 1 else 15) = min 15 (r.refusals + 1)
  split <;> omega

theorem noteRefusal_record (hn : n < s.recs.length) : (s.noteRefusal n why).record n = (s.record n).refuse why :=
  (State.record_congr (refuseAspect_recs _ n) n).trans (s.record_setRecord_self n _ hn)

theorem noteRefusal_frame : s.noteRefusal n why =
    { s with
      recs := (s.noteRefusal n why).recs
      aspect := { s.aspect with kinds := (s.noteRefusal n why).aspect.kinds }
      status := { s.status with notices := { s.status.notices with refusal := true } } } := by
  unfold State.noteRefusal State.refuseAspect
  split <;> rfl

theorem noteRefusal_aspectKind (hn : n < s.aspect.kinds.length) :
    (s.noteRefusal n why).aspectKind n =
      if s.kind n = .aspect then { s.aspectKind n with upgrade := none } else s.aspectKind n := by
  show (((s.setRecord n ((s.record n).refuse why)).notify .refusal).refuseAspect n).aspectKind n = _
  unfold State.refuseAspect
  refine (apply_ite (fun u : State => u.aspectKind n) _ _ _).trans (if_congr Iff.rfl ?_ rfl)
  exact State.aspectKind_setAspectKind_self _ n _ hn

theorem refuseAspect_only (s : State) (n : Nat) : s.OnlyRecord (s.refuseAspect n) n := by
  unfold State.refuseAspect
  split
  · exact State.setAspectKind_only _ n _
  · exact State.OnlyRecord.refl _ n

theorem noteRefusal_only : s.OnlyRecord (s.noteRefusal n why) n :=
  ((s.setRecord_only n _).trans (State.notify_only _ n .refusal)).trans (refuseAspect_only _ n)

theorem noteRefusal_kind (m : Nat) : (s.noteRefusal n why).kind m = s.kind m := by
  rw [noteRefusal_frame]
  rfl

theorem enterStale_speedKind (hn : n < s.speed.kinds.length) :
    (s.enterStale n).speedKind n = if s.kind n = .speed then (s.speedKind n).discard else s.speedKind n := by
  obtain ⟨hspeed, hother⟩ :=
    discardKind_speedKind (s.setRecord n { s.record n with status := .stale, progress := 0 }) n hn
  split
  · exact hspeed ‹_›
  · exact hother ‹_›

theorem enterStale_aspectKind (hn : n < s.aspect.kinds.length) :
    (s.enterStale n).aspectKind n = if s.kind n = .aspect then (s.aspectKind n).discard else s.aspectKind n := by
  obtain ⟨haspect, hother⟩ :=
    discardKind_aspectKind (s.setRecord n { s.record n with status := .stale, progress := 0 }) n hn
  split
  · exact haspect ‹_›
  · exact hother ‹_›

theorem enterStale_frame (s : State) (n : Nat) : s.enterStale n =
    { s with
      recs := (s.enterStale n).recs
      speed := { s.speed with kinds := (s.enterStale n).speed.kinds }
      aspect := { s.aspect with kinds := (s.enterStale n).aspect.kinds } } := by
  unfold State.enterStale State.discardKind
  split <;> rfl

theorem refusedBelow_only : s.OnlyRecord (s.refusedBelow n why) n := by
  unfold State.refusedBelow
  split
  · exact noteRefusal_only.trans (State.enterStale_only _ n)
  · exact noteRefusal_only

theorem refusedBelow_frame : s.refusedBelow n why =
    { s with
      recs := (s.refusedBelow n why).recs
      speed := { s.speed with kinds := (s.refusedBelow n why).speed.kinds }
      aspect := { s.aspect with kinds := (s.refusedBelow n why).aspect.kinds }
      status := { s.status with notices := { s.status.notices with refusal := true } } } := by
  have hnote := noteRefusal_frame (s := s) (n := n) (why := why)
  unfold State.refusedBelow
  split
  · rw [enterStale_frame, hnote]
  · rw [hnote]

theorem refusedBelow_speedKind (hn : n < s.speed.kinds.length) :
    (s.refusedBelow n why).speedKind n =
      if (s.record n).status = .recovering ∧ s.kind n = .speed then (s.speedKind n).discard else s.speedKind n := by
  have hspeed : (s.noteRefusal n why).speed = s.speed := by rw [noteRefusal_frame]
  have hkind : (s.noteRefusal n why).speedKind n = s.speedKind n := by rw [State.speedKind, hspeed, State.speedKind]
  unfold State.refusedBelow
  by_cases hr : (s.record n).status = .recovering
  · rw [if_pos hr, enterStale_speedKind (by rw [hspeed]; exact hn), noteRefusal_kind, hkind]
    simp only [hr, true_and]
  · rw [if_neg hr, hkind, if_neg fun h => hr h.1]

theorem refusedBelow_aspectKind (hn : n < s.aspect.kinds.length) :
    (s.refusedBelow n why).aspectKind n =
      if s.kind n = .aspect then
        { s.aspectKind n with
          shown := if (s.record n).status = .recovering then none else (s.aspectKind n).shown
          upgrade := none }
      else s.aspectKind n := by
  have hlen : n < (s.noteRefusal n why).aspect.kinds.length := by rw [noteRefusal_only.aspectsLength]; exact hn
  unfold State.refusedBelow
  by_cases hr : (s.record n).status = .recovering
  · rw [if_pos hr, enterStale_aspectKind hlen, noteRefusal_kind, noteRefusal_aspectKind hn]
    split <;> simp [AspectKind.discard]
  · rw [if_neg hr, noteRefusal_aspectKind hn]
    simp [hr]

theorem refusedBelow_record (hn : n < s.recs.length) :
    (s.refusedBelow n why).record n = { s.record n with
      write := .closed
      refusals := min 15 ((s.record n).refusals + 1)
      reason := why
      status := if (s.record n).status = .recovering then .stale else (s.record n).status
      progress := if (s.record n).status = .recovering then 0 else (s.record n).progress } := by
  have hlen : n < (s.noteRefusal n why).recs.length := by rw [noteRefusal_only.recsLength]; exact hn
  have hrefusals := RecordState.refuse_refusals (s.record n) why
  unfold State.refusedBelow
  by_cases hr : (s.record n).status = .recovering
  · rw [if_pos hr, enterStale_record hlen, noteRefusal_record hn, if_pos hr, if_pos hr, ← hrefusals]
    rfl
  · rw [if_neg hr, noteRefusal_record hn, if_neg hr, if_neg hr, ← hrefusals]
    rfl

/-- Below the limit a RECOVERING record asks for its stale message where the list does not hold it (R65, R69). -/
theorem refuse_below (hn : n < s.recs.length) (hlimit : s.BelowLimit n) :
    s.refuse n why = (s.refusedBelow n why,
      if (s.record n).status = .recovering then [.condRaise (s.staleRequest n 2)] else []) := by
  have hrecord := noteRefusal_record (why := why) hn
  have hcfg : (s.noteRefusal n why).cfg = s.cfg := by rw [noteRefusal_frame]
  have hstay : ¬((s.cfg.entry n).refusalLimit ≠ 0 ∧ ((s.record n).refuse why).refusals = (s.cfg.entry n).refusalLimit) := by
    rw [RecordState.refuse_refusals]
    rintro ⟨h0, heq⟩
    rcases hlimit with h | h
    · exact h0 h
    · exact h heq
  have hrequest : (s.noteRefusal n why).staleRequest n 2 = s.staleRequest n 2 := by
    rw [State.staleRequest, State.staleRequest, hcfg]
  show (s.noteRefusal n why).refuseStatus n = _
  unfold State.refuseStatus State.refusedBelow
  dsimp only
  rw [hcfg, hrecord, if_neg hstay, hrequest, show ((s.record n).refuse why).status = (s.record n).status from rfl]
  cases hs : (s.record n).status <;> rfl

/-- The requests of an event below the limit leave all but the message and status units. -/
theorem refusedBelow_finish (hn : n < s.recs.length) (hlimit : s.BelowLimit n) :
    (s.refuse n why).finish = { s.refusedBelow n why with
      msg := (s.refuse n why).finish.msg, status := (s.refuse n why).finish.status } := by
  rw [refuse_below hn hlimit, Event.finish]
  dsimp only
  split
  · rw [State.takeRequests_condRaise]
    split
    · rw [State.raise_frame]
    · rfl
  · rfl

theorem refusedBelow_msg : (s.refusedBelow n why).msg = s.msg := by rw [refusedBelow_frame]

theorem refusedBelow_status : (s.refusedBelow n why).status =
    { s.status with notices := { s.status.notices with refusal := true } } := by rw [refusedBelow_frame]

theorem refusedBelow_now : (s.refusedBelow n why).now = s.now := by rw [refusedBelow_frame]; rfl

/-- A raise and the status unit after it, as the statements have them (R134). -/
theorem State.raise_afterRaise (s : State) (r : RaiseRequest) :
    (s.raise r).1.msg = (s.msg.raise s.now r).1 ∧
      (s.raise r).1.status = afterRaise (s.msg.raise s.now r).2 s.status :=
  ⟨s.raise_msg r, s.raise_status r⟩

/-- No message is raised for a record that was not RECOVERING, nor where the list holds its stale message (R65). -/
theorem refusedBelow_quiet (hn : n < s.recs.length) (hlimit : s.BelowLimit n)
    (h : (s.record n).status ≠ .recovering ∨ ∃ e ∈ s.msg.entries, e.code = 1024 + n) :
    (s.refuse n why).finish.msg = s.msg ∧ (s.refuse n why).finish.status =
      { s.status with notices := { s.status.notices with refusal := true } } := by
  suffices hstay : (s.refuse n why).finish = s.refusedBelow n why by
    rw [hstay]
    exact ⟨refusedBelow_msg, refusedBelow_status⟩
  rw [refuse_below hn hlimit, Event.finish]
  dsimp only
  split
  · rename_i hr
    obtain ⟨e, he, hcode⟩ := h.resolve_left (not_not.2 hr)
    have hpresent : ¬(findEntry (s.staleRequest n 2).code (s.refusedBelow n why).msg.entries).isNone = true := by
      rw [refusedBelow_msg, Option.isNone_iff_eq_none, findEntry_none_iff]
      exact fun hall => hall e he hcode
    rw [State.takeRequests_condRaise, if_neg hpresent]
  · rfl

/-- The stale message of a RECOVERING record is raised where the list does not hold it (R65, R69). -/
theorem refusedBelow_raises (hn : n < s.recs.length) (hlimit : s.BelowLimit n)
    (hr : (s.record n).status = .recovering) (h : ∀ e ∈ s.msg.entries, e.code ≠ 1024 + n) :
    (s.refuse n why).finish.msg = (s.msg.raise s.now (s.staleRequest n 2)).1 ∧ (s.refuse n why).finish.status =
      afterRaise (s.msg.raise s.now (s.staleRequest n 2)).2
        { s.status with notices := { s.status.notices with refusal := true } } := by
  have habsent : (findEntry (s.staleRequest n 2).code (s.refusedBelow n why).msg.entries).isNone = true := by
    rw [refusedBelow_msg, Option.isNone_iff_eq_none, findEntry_none_iff]
    exact h
  rw [refuse_below hn hlimit, Event.finish]
  dsimp only
  rw [if_pos hr, State.takeRequests_condRaise, if_pos habsent]
  have hraised := State.raise_afterRaise (s.refusedBelow n why) (s.staleRequest n 2)
  rwa [refusedBelow_msg, refusedBelow_status, refusedBelow_now] at hraised

end

/-- Settles O34: the step is the refusal (`writeStep_refuses`), which moves the record and its kind state as
`refusedBelow` does, and raises a message in one case alone (`refusedBelow_raises`). -/
theorem refusalBelowTheLimit : Obligations.RefusalBelowTheLimit := by
  refine ⟨contentCheck_iff, fun s a w n k why hshape h hwhy hlimit => ?_⟩
  intro noticed staleMessage
  have hn : n < s.recs.length := h.lt_recs hshape
  obtain ⟨-, -, -, hspeeds, haspects, -, -⟩ := hshape
  have hwritten := windowWrite_writtenAt (s := s) (a := a) (w := w) (n := n) (k := k)
  have hexec := exec_windowWrite h
  obtain ⟨-, -, -, hn24, -, -, -, hk⟩ := h
  have hspeed : n < s.speed.kinds.length := by omega
  have haspect : n < s.aspect.kinds.length := by omega
  have hstep : (s.windowWritten a w n k).writeStep n k w = (s.windowWritten a w n k).refuse n why :=
    writeStep_refuses hwhy hk
  rw [hstep] at hexec hwritten
  have hbelow : (s.windowWritten a w n k).BelowLimit n := hlimit
  have hfinish := refusedBelow_finish (why := why) (s := s.windowWritten a w n k) hn hbelow
  have hquiet := refusedBelow_quiet (why := why) (s := s.windowWritten a w n k) hn hbelow
  have hraises := refusedBelow_raises (why := why) (s := s.windowWritten a w n k) hn hbelow
  have honly := refusedBelow_only (s := s.windowWritten a w n k) (n := n) (why := why)
  have hframe := refusedBelow_frame (s := s.windowWritten a w n k) (n := n) (why := why)
  generalize hz : ((s.windowWritten a w n k).refuse n why).finish = z at hexec hwritten hfinish hquiet hraises
  refine ⟨_, hexec, hwritten, ?_, fun m hm => ⟨?_, ?_, ?_⟩, ?_, ?_, hquiet, hraises, ?_⟩
  · exact (State.record_congr (congrArg State.recs hfinish) n).trans (refusedBelow_record hn)
  · exact (State.record_congr (congrArg State.recs hfinish) m).trans (honly.records m hm)
  · exact (congrArg (fun u : State => u.speedKind m) hfinish).trans (honly.speeds m hm)
  · exact (congrArg (fun u : State => u.aspectKind m) hfinish).trans (honly.aspects m hm)
  · exact (congrArg (fun u : State => u.speedKind n) hfinish).trans (refusedBelow_speedKind hspeed)
  · exact (congrArg (fun u : State => u.aspectKind n) hfinish).trans (refusedBelow_aspectKind haspect)
  · rw [State.driveLines, State.withLines, hfinish, hframe]
    rfl

end Sys2Proof.Machine
end

section
/-! PROOFS. Acceptances: O36. The rules here serve every statement about an acceptance. -/

namespace Sys2Proof.Machine

/-! ### The requests of an acceptance, taken in some order (R73, R138) -/

/-- A request as an acceptance of record `n` makes them: a conditional clear, or a raise for which no
other record waits. -/
def PartRequest.OfAcceptance (n : Nat) : PartRequest → Prop
  | .raise _ none => True
  | .raise _ (some m) => m = n
  | .condRaise _ => False
  | .condClear _ => True
  | .overrun _ => False

/-- The request in the terms of the statements. -/
def PartRequest.ask : PartRequest → Ask
  | .raise r _ => .raise r
  | .condRaise r => .raise r
  | .condClear c => .clear c
  | .overrun r => .raise r

theorem PartRequest.ask_code (q : PartRequest) : q.ask.code = q.code := by cases q <;> rfl

theorem forall_ask_code (P : Nat → Prop) {own : List PartRequest} (h : ∀ q ∈ own, P q.code) :
    ∀ q ∈ own.map PartRequest.ask, P q.code := by
  rw [List.forall_mem_map]
  intro q hq
  rw [q.ask_code]
  exact h q hq

theorem PartRequest.OfAcceptance.follows {n : Nat} {q : PartRequest} (h : q.OfAcceptance n) (s : State) :
    (s.takeOne q).2 = [] := by
  match q, h with
  | .raise _ none, _ => rfl
  | .raise _ (some _), _ => rfl
  | .condClear _, _ => rfl

/-- One request taken by the part is one request taken in the terms of the statements. -/
theorem PartRequest.OfAcceptance.asked {n : Nat} {q : PartRequest} (h : q.OfAcceptance n) (s : State) (took : Bool) :
    ∃ took', Asked.after s.now { msg := s.msg, status := s.status, took := took } q.ask =
      { msg := (s.takeOne q).1.msg, status := (s.takeOne q).1.status, took := took' } := by
  have hraise : ∀ (r : RaiseRequest) (u : State), u.msg = (s.raise r).1.msg → u.status = (s.raise r).1.status →
      ∃ took', Asked.after s.now { msg := s.msg, status := s.status, took := took } (.raise r) =
        { msg := u.msg, status := u.status, took := took' } := by
    intro r u hmsg hstatus
    obtain ⟨hm, hs⟩ := s.raise_afterRaise r
    rw [hmsg, hstatus, hm, hs]
    exact ⟨_, rfl⟩
  match q, h with
  | .raise r none, _ => exact hraise r _ rfl rfl
  | .raise r (some m), _ =>
    refine hraise r ((s.raise r).1.awaitIf (s.raise r).2.taken m) ?_ ?_
    all_goals unfold State.awaitIf; split <;> rfl
  | .condClear c, _ => exact ⟨took, rfl⟩

theorem PartRequest.OfAcceptance.aspectKind {n m : Nat} {q : PartRequest} (h : q.OfAcceptance n) (hm : m ≠ n)
    (s : State) : (s.takeOne q).1.aspectKind m = s.aspectKind m := by
  have hraise : ∀ r, (s.raise r).1.aspectKind m = s.aspectKind m := fun r => by
    rw [State.raise_frame]
    rfl
  match q, h with
  | .raise r none, _ => exact hraise r
  | .raise r (some i), h =>
    show ((s.raise r).1.awaitIf (s.raise r).2.taken i).aspectKind m = _
    unfold State.awaitIf
    split
    · exact (State.aspectKind_setAspectKind_ne _ i m _ (by rw [h]; exact hm)).trans (hraise r)
    · exact hraise r
  | .condClear c, _ => rfl

/-- Requests taken in turn. -/
theorem foldl_takeOne_asked {n : Nat} {qs : List PartRequest} (h : ∀ q ∈ qs, q.OfAcceptance n) (s : State)
    (took : Bool) :
    (∃ took', (qs.map PartRequest.ask).foldl (Asked.after s.now) { msg := s.msg, status := s.status, took := took } =
      { msg := (qs.foldl (fun s r => (s.takeOne r).1) s).msg
        status := (qs.foldl (fun s r => (s.takeOne r).1) s).status
        took := took' }) ∧
      ∀ m, m ≠ n → (qs.foldl (fun s r => (s.takeOne r).1) s).aspectKind m = s.aspectKind m := by
  induction qs generalizing s took with
  | nil => exact ⟨⟨took, rfl⟩, fun _ _ => rfl⟩
  | cons q qs ih =>
    have hq : q.OfAcceptance n := h q (List.mem_cons_self ..)
    obtain ⟨took', hasked⟩ := hq.asked s took
    have hnow : (s.takeOne q).1.now = s.now := congrArg Control.ms (State.takeOne_only s q).sameFrame.ctl
    obtain ⟨hrest, haspects⟩ := ih (fun r hr => h r (List.mem_cons_of_mem _ hr)) (s.takeOne q).1 took'
    rw [hnow] at hrest
    rw [List.map_cons, List.foldl_cons, List.foldl_cons, hasked]
    exact ⟨hrest, fun m hm => (haspects m hm).trans (hq.aspectKind hm s)⟩

/-- The requests of an acceptance, as the statements have them. -/
theorem takeRequests_asked {n : Nat} {rs : List PartRequest} (h : ∀ q ∈ rs, q.OfAcceptance n) (s : State) :
    (∃ x, AsksTaken s (rs.map PartRequest.ask) x ∧ (s.takeRequests rs).msg = x.msg ∧
      (s.takeRequests rs).status = x.status) ∧
      ∀ m, m ≠ n → (s.takeRequests rs).aspectKind m = s.aspectKind m := by
  obtain ⟨qs, k, hperm, htaken⟩ := s.takeRequests_order rs fun q hq u => (h q hq).follows u
  obtain ⟨⟨took, hasked⟩, haspects⟩ :=
    foldl_takeOne_asked (fun q hq => h q (hperm.mem_iff.1 hq)) s false
  rw [htaken]
  exact ⟨⟨_, ⟨qs.map PartRequest.ask, hperm.map _, hasked.symm⟩, rfl, rfl⟩, haspects⟩

/-! ### The requests of the kinds (R101, R112, R118, R119) -/

theorem comparePlausibility_requests (st : SpeedSettings) (n : Nat) (k : SpeedKind) (vc : Nat) (ref : Option Nat) :
    ∀ q ∈ (comparePlausibility st n k vc ref).2, q.OfAcceptance n ∧ q.code = 1088 + n := by
  have hagree : ∀ vx, ∀ q ∈ (compareAgree st n k vc vx).2, q.OfAcceptance n ∧ q.code = 1088 + n := by
    intro vx q hq
    unfold compareAgree at hq
    split at hq
    · cases hq
    · split at hq
      · rw [List.mem_singleton.1 hq]
        exact ⟨trivial, rfl⟩
      · cases hq
  intro q hq
  unfold comparePlausibility at hq
  split at hq
  · unfold compareNone at hq
    dsimp only at hq
    split at hq
    · rw [List.mem_singleton.1 hq]
      exact ⟨trivial, rfl⟩
    · cases hq
  · split at hq
    · exact hagree _ q hq
    · exact hagree _ q hq
    · unfold compareDisagree at hq
      split at hq
      · split at hq
        · rw [List.mem_singleton.1 hq]
          exact ⟨trivial, rfl⟩
        · cases hq
      · cases hq

theorem aspectComputation_requests (confirm sys n : Nat) (k : AspectKind) (x : Shown) (onEntry : Bool) :
    ∀ q ∈ (aspectComputation confirm sys n k x onEntry).2, q = ackRequest sys n x.code := by
  intro q hq
  unfold aspectComputation at hq
  split at hq
  · cases hq
  · split at hq
    · dsimp only at hq
      split at hq
      · exact List.mem_singleton.1 hq
      · cases hq
    · split at hq
      · cases hq
      · cases hq

theorem acceptAspect_requests (s : State) (n : Nat) (words : List Word) :
    ∀ q ∈ (s.acceptAspect n words).2, q.OfAcceptance n ∧ q.code = 1120 + (s.cfg.entry n).system := by
  intro q hq
  unfold State.acceptAspect at hq
  dsimp only at hq
  split at hq
  · cases hq
  · rw [aspectComputation_requests _ _ _ _ _ _ q hq]
    exact ⟨rfl, rfl⟩

theorem selectSystem_requests (s : State) (y : Nat) : ∀ q ∈ (s.selectSystem y).2, q = .condClear 1124 := by
  have hclear : ∀ b, ∀ q ∈ changeoverClear b, q = .condClear 1124 := by
    intro b q hq
    unfold changeoverClear at hq
    split at hq
    · exact List.mem_singleton.1 hq
    · cases hq
  intro q hq
  unfold State.selectSystem at hq
  dsimp only at hq
  split at hq
  · cases hq
  · split at hq
    · exact hclear _ q hq
    · split at hq
      · exact hclear _ q hq
      · cases hq

/-- The requests that the kind computation of an acceptance may make, by their codes. -/
structure KindRequests (s : State) (n : Nat) (own : List PartRequest) : Prop where
  ofAcceptance : ∀ q ∈ own, q.OfAcceptance n
  speed : s.kind n = .speed → ∀ q ∈ own, q.code = 1088 + n
  aspect : s.kind n = .aspect → ∀ q ∈ own, q.code = 1120 + (s.cfg.entry n).system ∨ q.code = 1124
  select : s.kind n = .select → ∀ q ∈ own, q.code = 1124
  plain : s.kind n = .plain → own = []

theorem acceptKind_requests (s : State) (n : Nat) (words : List Word) : KindRequests s n (s.acceptKind n words).2 := by
  unfold State.acceptKind
  cases hk : s.kind n with
  | speed =>
    have h := comparePlausibility_requests (s.cfg.speedSettings n) n (s.speedKind n)
      (min (at0 words 0).toNat (s.cfg.speedSettings n).emax) s.speed.axle.reference
    exact ⟨fun q hq => (h q hq).1, fun _ q hq => (h q hq).2, by simp [hk], by simp [hk], by simp [hk]⟩
  | aspect =>
    have h := acceptAspect_requests s n words
    exact ⟨fun q hq => (h q hq).1, by simp [hk], fun _ q hq => Or.inl (h q hq).2, by simp [hk], by simp [hk]⟩
  | select =>
    have h := selectSystem_requests s (at0 words 0).toNat
    exact ⟨fun q hq => by rw [h q hq]; trivial, by simp [hk], by simp [hk], fun _ q hq => by rw [h q hq]; rfl,
      by simp [hk]⟩
  | plain => exact ⟨nofun, nofun, nofun, nofun, fun _ => rfl⟩
  | none => exact ⟨nofun, nofun, nofun, nofun, fun _ => rfl⟩

/-! ### The display status (R63, R64, R70) -/

/-- An acceptance brings the record back to VALID from STALE or RECOVERING (R63). -/
def RecordState.Returns (r : RecordState) (need : Nat) : Prop :=
  (r.status = .stale ∧ need = 1) ∨ (r.status = .recovering ∧ r.progress + 1 = need)

theorem RecordState.recovered_cases (r : RecordState) (need : Nat) :
    (r.status = .empty → (r.recovered need).status = .valid ∧ (r.recovered need).progress = 0) ∧
      (r.status = .valid → (r.recovered need).status = .valid ∧ (r.recovered need).progress = r.progress) ∧
      (r.Returns need → (r.recovered need).status = .valid ∧ (r.recovered need).progress = 0) ∧
      (r.status = .stale → need ≠ 1 → (r.recovered need).status = .recovering ∧ (r.recovered need).progress = 1) ∧
      (r.status = .recovering → r.progress + 1 ≠ need →
        (r.recovered need).status = .recovering ∧ (r.recovered need).progress = r.progress + 1) := by
  obtain ⟨front, write, lastSeq, status, refusals, reason, progress, timer⟩ := r
  unfold RecordState.Returns RecordState.recovered
  cases status with
  | stale => by_cases h : need = 1 <;> simp [h]
  | recovering => by_cases h : progress + 1 = need <;> simp [h]
  | _ => simp

/-- The display status moves no other field of the record than its recovery progress. -/
theorem RecordState.recovered_rest (r : RecordState) (need : Nat) :
    r.recovered need = { r with status := (r.recovered need).status, progress := (r.recovered need).progress } := by
  unfold RecordState.recovered
  cases r.status with
  | stale => by_cases h : need = 1 <;> simp [h]
  | recovering => by_cases h : r.progress + 1 = need <;> simp [h]
  | _ => rfl

/-- The record after an acceptance, field by field (R47, R60, R63). -/
theorem RecordState.afterAcceptance_eq (r : RecordState) (seq : Byte) (need : Nat) (moment : Time) :
    r.afterAcceptance seq need moment = { r with
      front := r.front.other, write := .closed, lastSeq := some seq, refusals := 0, timer := some moment
      status := ((r.accept seq).recovered need).status
      progress := ((r.accept seq).recovered need).progress } :=
  congrArg (fun x : RecordState => { x with timer := some moment }) (RecordState.recovered_rest _ need)

theorem enterValid_requests (s : State) (n : Nat) :
    (∀ q ∈ (s.enterValid n).2, q = .condClear 1124) ∧ (s.kind n ≠ .aspect → (s.enterValid n).2 = []) := by
  unfold State.enterValid
  dsimp only
  rw [show (s.setRecord n _).kind n = s.kind n from rfl]
  cases s.kind n with
  | aspect =>
    refine ⟨fun q hq => ?_, fun h => absurd rfl h⟩
    unfold State.completeChangeover at hq
    dsimp only at hq
    split at hq
    · exact List.mem_singleton.1 hq
    · cases hq
  | _ => exact ⟨nofun, fun _ => rfl⟩

/-- A return to VALID clears the stale message (R70), after what an entry to VALID asks for (R119). -/
theorem acceptStatus_requests (s : State) (n : Nat) :
    ∃ own, (∀ q ∈ own, q = .condClear 1124) ∧ (s.kind n ≠ .aspect → own = []) ∧
      ((s.record n).Returns (s.cfg.entry n).recovery → (s.acceptStatus n).2 = own ++ [.condClear (1024 + n)]) ∧
      (¬(s.record n).Returns (s.cfg.entry n).recovery → (s.acceptStatus n).2 = own) := by
  obtain ⟨henter, hother⟩ := enterValid_requests s n
  unfold RecordState.Returns State.acceptStatus
  dsimp only
  cases hs : (s.record n).status with
  | empty => exact ⟨_, henter, hother, by simp, fun _ => rfl⟩
  | stale =>
    by_cases h : (s.cfg.entry n).recovery = 1
    · exact ⟨_, henter, hother, fun _ => by simp [h, Event.andThen, clearStale], by simp [h]⟩
    · exact ⟨[], nofun, fun _ => rfl, by simp [h], by simp [h]⟩
  | recovering =>
    by_cases h : (s.record n).progress + 1 = (s.cfg.entry n).recovery
    · exact ⟨_, henter, hother, fun _ => by simp [h, Event.andThen, clearStale], by simp [h]⟩
    · exact ⟨[], nofun, fun _ => rfl, by simp [h], by simp [h]⟩
  | _ => exact ⟨[], nofun, fun _ => rfl, by simp, fun _ => rfl⟩

/-! ### The event (R47, R48) -/

theorem acceptStatus_frame (s : State) (n : Nat) :
    (s.acceptStatus n).1 = { s with recs := (s.acceptStatus n).1.recs, aspect := (s.acceptStatus n).1.aspect } ∧
      (s.kind n ≠ .aspect → (s.acceptStatus n).1.aspect = s.aspect) := by
  have henter : (s.enterValid n).1 =
        { s with recs := (s.enterValid n).1.recs, aspect := (s.enterValid n).1.aspect } ∧
      (s.kind n ≠ .aspect → (s.enterValid n).1.aspect = s.aspect) := by
    unfold State.enterValid
    dsimp only
    rw [show (s.setRecord n _).kind n = s.kind n from rfl]
    cases s.kind n with
    | aspect =>
      refine ⟨?_, fun h => absurd rfl h⟩
      unfold State.completeChangeover
      dsimp only
      split <;> rfl
    | _ => exact ⟨rfl, fun _ => rfl⟩
  unfold State.acceptStatus
  dsimp only
  cases (s.record n).status with
  | empty => exact henter
  | stale =>
    dsimp only
    split
    · exact henter
    · exact ⟨rfl, fun _ => rfl⟩
  | recovering =>
    dsimp only
    split
    · exact henter
    · exact ⟨rfl, fun _ => rfl⟩
  | _ => exact ⟨rfl, fun _ => rfl⟩

theorem acceptKind_frame (s : State) (n : Nat) (words : List Word) :
    (s.acceptKind n words).1 = { s with
      speed := { s.speed with kinds := (s.acceptKind n words).1.speed.kinds }
      aspect := (s.acceptKind n words).1.aspect } := by
  unfold State.acceptKind
  cases s.kind n with
  | aspect =>
    dsimp only
    unfold State.acceptAspect
    dsimp only
    split <;> rfl
  | select =>
    dsimp only
    unfold State.acceptSelect State.selectSystem
    dsimp only
    split
    · rfl
    · split
      · rfl
      · split <;> rfl
  | _ => rfl

section
variable {s : State} {n : Nat}

/-- What an acceptance changes before its requests are taken: the record, its kind state and the selection. -/
theorem accept_frame (seq : Byte) (words : List Word) :
    (s.accept n seq words).1 = { s with
      recs := (s.accept n seq words).1.recs
      speed := { s.speed with kinds := (s.accept n seq words).1.speed.kinds }
      aspect := (s.accept n seq words).1.aspect } := by
  have hkind := acceptKind_frame (s.setRecord n ((s.record n).accept seq)) n words
  unfold State.accept Event.andThen
  dsimp only
  generalize (s.setRecord n ((s.record n).accept seq)).acceptKind n words = e at hkind
  have hstatus := (acceptStatus_frame e.1 n).1
  rw [State.startTimer, State.setRecord, State.withRecs, hstatus, hkind]
  rfl

/-- For a PLAIN record the display status is all there is to an acceptance (R48). -/
theorem accept_plain (seq : Byte) (words : List Word) (h : s.kind n = .plain) :
    (s.accept n seq words).1 = { s with recs := (s.accept n seq words).1.recs } := by
  have hkind : (s.setRecord n ((s.record n).accept seq)).acceptKind n words =
      (s.setRecord n ((s.record n).accept seq), []) := by
    unfold State.acceptKind
    rw [show (s.setRecord n _).kind n = .plain from h]
  obtain ⟨hstatus, haspect⟩ := acceptStatus_frame (s.setRecord n ((s.record n).accept seq)) n
  have hsame := haspect (by rw [show (s.setRecord n _).kind n = .plain from h]; nofun)
  unfold State.accept Event.andThen
  rw [hkind]
  dsimp only
  rw [State.startTimer, State.setRecord, State.withRecs, hstatus, hsame]
  rfl

/-- The requests of an acceptance: those of the record's kind, and the clear of its stale message on a return
to VALID. -/
theorem accept_requests (hn : n < s.recs.length) (seq : Byte) (words : List Word) :
    ∃ own, KindRequests s n own ∧
      ((s.record n).Returns (s.cfg.entry n).recovery → (s.accept n seq words).2 = own ++ [.condClear (1024 + n)]) ∧
      (¬(s.record n).Returns (s.cfg.entry n).recovery → (s.accept n seq words).2 = own) := by
  have hkind := acceptKind_requests (s.setRecord n ((s.record n).accept seq)) n words
  have hframe := (State.acceptKind_only (s.setRecord n ((s.record n).accept seq)) n words).sameFrame
  have hrecs := acceptKind_recs (s.setRecord n ((s.record n).accept seq)) n words
  unfold State.accept Event.andThen
  dsimp only
  generalize (s.setRecord n ((s.record n).accept seq)).acceptKind n words = e at hkind hframe hrecs
  obtain ⟨status, hclear, hother, hreturns, hstays⟩ := acceptStatus_requests e.1 n
  have hcfg : e.1.cfg = s.cfg := hframe.cfg
  have hrecord : e.1.record n = (s.record n).accept seq :=
    (State.record_congr hrecs n).trans (s.record_setRecord_self n _ hn)
  have hsame : (e.1.record n).Returns (e.1.cfg.entry n).recovery ↔ (s.record n).Returns (s.cfg.entry n).recovery := by
    rw [hrecord, hcfg]
    rfl
  rw [hsame] at hreturns hstays
  rw [State.kind, hcfg] at hother
  have hkindOnly : s.kind n ≠ .aspect → e.2 ++ status = e.2 := fun h => by rw [hother h, List.append_nil]
  refine ⟨e.2 ++ status, ⟨?_, ?_, ?_, ?_, ?_⟩, fun h => ?_, fun h => ?_⟩
  · intro q hq
    rcases List.mem_append.1 hq with hq | hq
    · exact hkind.ofAcceptance q hq
    · rw [hclear q hq]
      trivial
  · intro hk
    rw [hkindOnly (by rw [hk]; nofun)]
    exact hkind.speed hk
  · intro hk q hq
    rcases List.mem_append.1 hq with hq | hq
    · exact hkind.aspect hk q hq
    · rw [hclear q hq]
      exact Or.inr rfl
  · intro hk
    rw [hkindOnly (by rw [hk]; nofun)]
    exact hkind.select hk
  · intro hk
    rw [hkindOnly (by rw [hk]; nofun)]
    exact hkind.plain hk
  · rw [hreturns h, List.append_assoc]
  · rw [hstays h]

/-- The requests of an acceptance, as the statements have them: the kind's own, and the clear of the stale message on a
return to VALID. -/
theorem accept_asks (hn : n < s.recs.length) (seq : Byte) (words : List Word) :
    ∃ own x, KindRequests s n own ∧ AsksTaken s (own.map PartRequest.ask ++ staleCleared s n) x ∧
      (s.accept n seq words).finish.msg = x.msg ∧ (s.accept n seq words).finish.status = x.status ∧
      ∀ m, m ≠ n → (s.accept n seq words).finish.aspectKind m = s.aspectKind m := by
  obtain ⟨own, hown, hreturns, hstays⟩ := accept_requests hn seq words
  have hrequests : (s.accept n seq words).2.map PartRequest.ask = own.map PartRequest.ask ++ staleCleared s n := by
    unfold staleCleared
    split
    · rename_i h
      rw [hreturns h, List.map_append]
      rfl
    · rename_i h
      rw [hstays h, List.append_nil]
  have hof : ∀ q ∈ (s.accept n seq words).2, q.OfAcceptance n := by
    intro q hq
    by_cases h : (s.record n).Returns (s.cfg.entry n).recovery
    · rw [hreturns h] at hq
      rcases List.mem_append.1 hq with hq | hq
      · exact hown.ofAcceptance q hq
      · rw [List.mem_singleton.1 hq]
        trivial
    · rw [hstays h] at hq
      exact hown.ofAcceptance q hq
  obtain ⟨⟨x, hx, hmsg, hstatus⟩, haspects⟩ := takeRequests_asked hof (s.accept n seq words).1
  rw [hrequests, AsksTaken, accept_frame] at hx
  exact ⟨own, x, hown, hx, hmsg, hstatus, fun m hm =>
    (haspects m hm).trans ((s.accept_only n seq words).aspects m hm)⟩

/-- The requests of an acceptance change nothing but what messages change. -/
theorem accept_finish_frame (seq : Byte) (words : List Word) :
    (s.accept n seq words).finish = { s with
      recs := (s.accept n seq words).finish.recs
      speed := { s.speed with kinds := (s.accept n seq words).finish.speed.kinds }
      aspect := (s.accept n seq words).finish.aspect
      msg := (s.accept n seq words).finish.msg
      status := (s.accept n seq words).finish.status
      freeCount := (s.accept n seq words).finish.freeCount } := by
  obtain ⟨hfinish, -⟩ := State.takeRequests_only (s.accept n seq words).1 (s.accept n seq words).2
  rw [Event.finish, hfinish, accept_frame]

/-- An accepted PLAIN record asks for no more than the clear of its stale message (R48, R70). -/
theorem accept_finish_plain (hn : n < s.recs.length) (seq : Byte) (words : List Word) (h : s.kind n = .plain) :
    ((s.record n).Returns (s.cfg.entry n).recovery →
      (s.accept n seq words).finish.msg = (s.msg.clear s.now (1024 + n)).1) ∧
    (¬(s.record n).Returns (s.cfg.entry n).recovery → (s.accept n seq words).finish.msg = s.msg) ∧
    (s.accept n seq words).finish = { s with
      recs := (s.accept n seq words).finish.recs, msg := (s.accept n seq words).finish.msg } := by
  obtain ⟨own, hown, hreturns, hstays⟩ := accept_requests hn seq words
  obtain rfl := hown.plain h
  have hplain := accept_plain seq words h
  by_cases hr : (s.record n).Returns (s.cfg.entry n).recovery
  · rw [Event.finish, hreturns hr, List.nil_append, State.takeRequests_condClear, State.condClear_frame, hplain]
    exact ⟨fun _ => rfl, fun hno => absurd hr hno, rfl⟩
  · rw [Event.finish, hstays hr, State.takeRequests_nil, hplain]
    exact ⟨fun hyes => absurd hyes hr, fun _ => rfl, rfl⟩

theorem accept_finish_record (hn : n < s.recs.length) (seq : Byte) (words : List Word) :
    (s.accept n seq words).finish.record n =
      (s.record n).afterAcceptance seq (s.cfg.entry n).recovery (s.freshnessMoment n) :=
  (State.record_congr (Event.finish_sameEngine _).recs n).trans (accept_record hn seq words)

theorem accept_finish_others (seq : Byte) (words : List Word) (m : Nat) (hm : m ≠ n) :
    (s.accept n seq words).finish.record m = s.record m ∧
      (s.accept n seq words).finish.speedKind m = s.speedKind m := by
  have honly := s.accept_only n seq words
  obtain ⟨hfinish, -⟩ := State.takeRequests_only (s.accept n seq words).1 (s.accept n seq words).2
  exact ⟨(State.record_congr (Event.finish_sameEngine _).recs m).trans (honly.records m hm),
    (congrArg (fun u : State => u.speedKind m) hfinish).trans (honly.speeds m hm)⟩

/-- The engine's step at the check word of an accepted version (R43, R45). -/
theorem writeStep_accepts {a : Addr} {w : Word} {words : List Word} (h : AcceptsVersion s a w n words) :
    (s.windowWritten a w n (s.cfg.entry n).inputs).writeStep n (s.cfg.entry n).inputs w =
      (s.windowWritten a w n (s.cfg.entry n).inputs).accept n (highByte w) words := by
  obtain ⟨-, ⟨crc, hopen⟩, h1, hnone⟩ := h
  have hclose := writeStep_closes (s := s.windowWritten a w n (s.cfg.entry n).inputs) w h1 hopen
  have hcheck : (s.windowWritten a w n (s.cfg.entry n).inputs).closeCheck n crc words w = none :=
    (refusalReason_close h1 hopen).symm.trans hnone
  rw [State.close, hcheck] at hclose
  exact hclose

end

/-- Settles O36: the step is the acceptance (`writeStep_accepts`); the record moves as `RecordState.afterAcceptance`
does, and the requests are the kind's own and the clear of the stale message (`accept_asks`). -/
theorem acceptanceShowsTheNewVersion : Obligations.AcceptanceShowsTheNewVersion := by
  intro s a w n words hshape h recovers
  have hserves := h.1
  have hn : n < s.recs.length := hserves.lt_recs hshape
  have hwritten := windowWrite_writtenAt (s := s) (a := a) (w := w) (n := n) (k := (s.cfg.entry n).inputs)
  have hexec := exec_windowWrite hserves
  rw [writeStep_accepts h] at hexec hwritten
  have hu : n < (s.windowWritten a w n (s.cfg.entry n).inputs).recs.length := hn
  have hrecord := accept_finish_record hu (highByte w) words
  have hothers := accept_finish_others (s := s.windowWritten a w n (s.cfg.entry n).inputs) (n := n) (highByte w) words
  have hframe := accept_finish_frame (s := s.windowWritten a w n (s.cfg.entry n).inputs) (n := n) (highByte w) words
  have hplain := accept_finish_plain hu (highByte w) words
  obtain ⟨own, x, hown, hx, hmsg, hstatus, haspects⟩ := accept_asks hu (highByte w) words
  rw [RecordState.afterAcceptance_eq] at hrecord
  generalize ((s.windowWritten a w n (s.cfg.entry n).inputs).accept n (highByte w) words).finish = z at *
  obtain ⟨hempty, hvalid, hreturns, hstale, hrecovering⟩ :=
    ((s.record n).accept (highByte w)).recovered_cases (s.cfg.entry n).recovery
  refine ⟨_, own.map PartRequest.ask, x, hexec, hwritten, ?_⟩
  rw [show z.driveLines.record n = z.record n from rfl, hrecord]
  refine ⟨rfl, rfl, rfl, rfl, rfl, rfl, hempty, hvalid, hreturns, hstale, hrecovering, ?_, hx, hmsg, hstatus,
    ?_, ?_, ?_, ?_, ?_⟩
  · intro m hm
    obtain ⟨hrec, hspeed⟩ := hothers m hm
    exact ⟨hrec, hspeed, haspects m hm⟩
  · exact fun hk => forall_ask_code (· = 1088 + n) (hown.speed hk)
  · exact fun hk => forall_ask_code (fun c => c = 1120 + (s.cfg.entry n).system ∨ c = 1124) (hown.aspect hk)
  · exact fun hk => forall_ask_code (· = 1124) (hown.select hk)
  · rw [State.driveLines, State.withLines, hframe]
    rfl
  · intro hk
    obtain ⟨hclear, hsame, hrest⟩ := hplain hk
    refine ⟨by rw [hown.plain hk]; rfl, hclear, hsame, ?_⟩
    rw [State.driveLines, State.withLines, hrest]
    rfl

end Sys2Proof.Machine
end

section
/-! PROOFS. Commands of the maintenance link: O41, O47. The rules of the first part serve every command. -/

namespace Sys2Proof.Machine

/-! ### A command that the link takes (R154, R155, R161) -/

theorem highByte_wordOf (hi lo : Byte) : highByte (wordOf hi lo) = hi := BitVec.extractLsb'_append_eq_left

theorem lowByte_wordOf (hi lo : Byte) : lowByte (wordOf hi lo) = lo := BitVec.extractLsb'_append_eq_right

/-- The word of a command passes the range checks: section 14 holds one word, at offset 0 (Table 9.3). -/
theorem rangeCheck_commandRequest (code : Byte) (f : CommandFrame) : rangeCheck (commandRequest code f) = none := rfl

theorem parseRequest_framedRight {code : Byte} {f : CommandFrame} (h : FramedRight code f) :
    parseRequest f.target (commandBytes code f) = some (commandRequest code f) := by
  unfold FramedRight at h
  rw [parseRequest_command, if_pos]
  cases hflag : f.checkFlag <;> rw [hflag] at h <;> rw [h] <;> simp

/-- The link executes a command that it takes and that is framed right. -/
theorem linkTransfer_command {s : State} {code : Byte} {f : CommandFrame} (ht : LinkTakes s f.target)
    (hf : FramedRight code f) :
    s.linkTransfer (commandTransfer code f) =
      (s.answerAddress f.target).performCommand (commandBytes code f) code.toNat f.arg := by
  have hack : s.acknowledges (commandTransfer code f).target = true := (acknowledges_iff s _).2 ht
  have hparse : parseRequest (commandTransfer code f).target (commandTransfer code f).bytes =
      some (commandRequest code f) := parseRequest_framedRight hf
  have hdata : at0 (commandRequest code f).data 0 = wordOf code f.arg := rfl
  unfold State.linkTransfer
  dsimp only
  rw [if_pos hack, hparse]
  show (s.answerAddress f.target).performRequest (commandBytes code f) (commandRequest code f) = _
  unfold State.performRequest
  rw [rangeCheck_commandRequest]
  dsimp only
  rw [hdata, highByte_wordOf, lowByte_wordOf]
  rfl

/-- A command's own result ends the request (R157, R160). -/
theorem commandResult_linkDone {s u : State} {target : BitVec 7} (ht : LinkTakes s target)
    (hu : u.link = (s.answerAddress target).link) (r : LinkResult) (code : Nat) :
    LinkDone s (u.commandResult r code).driveLines (resultWord r 14 code) := by
  have hack := (acknowledges_iff s _).2 ht
  simp only [LinkDone, State.driveLines_link, State.commandResult, State.finishRequest, State.withLink_link, hu,
    State.answerAddress, hack]

/-! ### RELEASE (R67) -/

/-- RELEASE moves the record and clears its barred message; nothing else changes. -/
theorem releaseRecord_finish (s : State) (n : Nat) :
    (s.releaseRecord n).finish =
      { s with recs := (s.releaseRecord n).1.recs, msg := (s.msg.clear s.ctl.ms (1056 + n)).1 } :=
  State.takeRequests_condClear (s.releaseRecord n).1 (1056 + n)

theorem takeRelease_barred {s : State} {n : Nat} (hs : s.inService = true) (hb : (s.record n).status = .barred) :
    s.takeRelease n = (s.releaseRecord n).finish.commandResult .ok 5 := if_pos ⟨hs, hb⟩

theorem takeRelease_refused {s : State} {n : Nat} (h : s.inService = false ∨ (s.record n).status ≠ .barred) :
    s.takeRelease n = s.commandResult .notBarred 5 := by
  refine if_neg ?_
  rintro ⟨hs, hb⟩
  rcases h with h | h
  · exact absurd (hs.symm.trans h) nofun
  · exact h hb

theorem exec_release {s : State} {f : CommandFrame} (ht : LinkTakes s f.target) (hf : FramedRight 5#8 f)
    (harg : f.arg.toNat ≤ 23) :
    exec (.release f) s = complete ((s.answerAddress f.target).takeRelease f.arg.toNat) := by
  have hexec : exec (.release f) s = complete (s.linkTransfer (commandTransfer 5#8 f)) := rfl
  rw [hexec, linkTransfer_command ht hf]
  exact congrArg complete (if_neg (by omega))

/-- Settles O41: a taken RELEASE is the record's release (`releaseRecord_record`) and one conditional clear; a refused one
ends with its result alone. -/
theorem releaseReturnsABarredRecordToEmpty : Obligations.ReleaseReturnsABarredRecordToEmpty := by
  intro s f hshape ht hf harg
  have hexec := exec_release ht hf harg
  generalize f.arg.toNat = n at *
  constructor
  · intro hs hb
    obtain ⟨-, -, hrecs, -⟩ := hshape
    have hn : n < (s.answerAddress f.target).recs.length := by
      show n < s.recs.length
      omega
    have honly := (s.answerAddress f.target).releaseRecord_only n
    rw [takeRelease_barred (s := s.answerAddress f.target) hs hb, releaseRecord_finish] at hexec
    exact ⟨_, hexec, releaseRecord_record hn, honly.records, rfl, commandResult_linkDone ht rfl .ok 5, rfl⟩
  · intro h
    rw [takeRelease_refused (s := s.answerAddress f.target) h] at hexec
    exact ⟨_, hexec, commandResult_linkDone ht rfl .notBarred 5, rfl⟩

/-! ### Standstill and ENTER_CONFIG (R97, R161) -/

theorem speedAtZero_iff (s : State) (n : Nat) :
    s.speedAtZero n = true ↔
      (s.record n).status = .valid ∧ ∃ p, (s.speedKind n).presented = some p ∧ p.p0 = 0#16 := by
  unfold State.speedAtZero
  cases (s.speedKind n).presented <;> simp

theorem standstill_iff (s : State) :
    s.standstill = true ↔
      (s.speed.axle.pulses ≠ 0 ∧ s.speed.axle.history = [0, 0]) ∨
      (s.speed.axle.pulses = 0 ∧ ∀ n, n < 24 → s.kind n = .speed →
        (s.record n).status = .valid ∧ ∃ p, (s.speedKind n).presented = some p ∧ p.p0 = 0#16) := by
  have hrecord : ∀ n, (s.kind n != .speed || s.speedAtZero n) = true ↔ (s.kind n = .speed → s.speedAtZero n = true) :=
    fun n => by simp [imp_iff_not_or]
  unfold State.standstill
  by_cases h : s.speed.axle.pulses = 0
  · rw [if_pos h]
    simp only [recordIndices, List.all_eq_true, List.mem_range, hrecord, speedAtZero_iff, h, ne_eq, not_true,
      false_and, false_or, true_and]
  · rw [if_neg h]
    simp only [beq_iff_eq, h, ne_eq, not_false_iff, true_and, false_and, or_false]

theorem takeEnterConfig_enters {s : State} (h : s.ctl.part = .safe ∨ s.inService = true ∧ s.standstill = true) :
    s.takeEnterConfig = s.enterConfigMode.commandResult .ok 1 := by
  unfold State.takeEnterConfig State.part
  rcases h with h | ⟨hs, hstill⟩
  · rw [h]
  · rcases (State.inService_iff s).1 hs with h | h <;> rw [h] <;> exact if_pos hstill

theorem takeEnterConfig_moving {s : State} (hs : s.inService = true) (hstill : ¬s.standstill = true) :
    s.takeEnterConfig = s.commandResult .notStandstill 1 := by
  unfold State.takeEnterConfig State.part
  rcases (State.inService_iff s).1 hs with h | h <;> rw [h] <;> exact if_neg hstill

theorem takeEnterConfig_config {s : State} (h : s.ctl.part = .config) :
    s.takeEnterConfig = s.commandResult .ok 1 := by
  unfold State.takeEnterConfig State.part
  rw [h]

theorem enterConfigMode_record (s : State) (n : Nat) :
    s.enterConfigMode.record n = { s.record n with timer := none } :=
  List.getD_map s.recs RecordState.reset fun r => ({ r with timer := none } : RecordState)

theorem exec_enterConfig {s : State} {f : CommandFrame} (ht : LinkTakes s f.target) (hf : FramedRight 1#8 f)
    (harg : f.arg = 0#8) : exec (.enterConfig f) s = complete (s.answerAddress f.target).takeEnterConfig := by
  have hexec : exec (.enterConfig f) s = complete (s.linkTransfer (commandTransfer 1#8 f)) := rfl
  rw [hexec, linkTransfer_command ht hf]
  exact congrArg complete (if_pos harg)

/-- Settles O47: standstill is R97's (`standstill_iff`), and ENTER_CONFIG ends by the part state and by it. -/
theorem enterConfigNeedsStandstill : Obligations.EnterConfigNeedsStandstill := by
  intro s f ht hf harg standstill entered
  have hexec := exec_enterConfig ht hf harg
  have hstill : (s.answerAddress f.target).standstill = true ↔ standstill := standstill_iff s
  have henters : (s.ctl.part = .safe ∨ s.inService = true ∧ standstill) → entered := by
    intro h
    rw [← hstill] at h
    rw [takeEnterConfig_enters (s := s.answerAddress f.target) h] at hexec
    exact ⟨_, hexec, rfl, enterConfigMode_record s, rfl, commandResult_linkDone ht rfl .ok 1, rfl⟩
  refine ⟨fun hs h => henters (.inr ⟨hs, h⟩), fun hsafe => henters (.inl hsafe), fun hs hmoves => ?_, fun hconfig => ?_⟩
  · rw [takeEnterConfig_moving (s := s.answerAddress f.target) hs (mt hstill.1 hmoves)] at hexec
    exact ⟨_, hexec, commandResult_linkDone ht rfl .notStandstill 1, rfl⟩
  · rw [takeEnterConfig_config (s := s.answerAddress f.target) hconfig] at hexec
    exact ⟨_, hexec, commandResult_linkDone ht rfl .ok 1, rfl⟩

end Sys2Proof.Machine
end

section
/-! PROOFS. The expiry of a freshness timer: O40. -/

namespace Sys2Proof.Machine

/-! ### When the timer is due (R60) -/

theorem freshnessDue_iff (s : State) (n : Nat) :
    s.freshnessDue n = true ↔ ∃ m, (s.record n).timer = some m ∧ (s.ctl.ms - m).toNat < 2147483648 := by
  unfold State.freshnessDue
  cases (s.record n).timer with
  | none => simp
  | some m =>
    have hreached : reached m s.now = true ↔ (s.ctl.ms - m).toNat < 2147483648 := decide_eq_true_iff
    simp only [hreached, Option.some.injEq, exists_eq_left']

theorem exec_freshnessExpiry_due {s : State} {n : Nat} (h : s.freshnessDue n = true) :
    exec (.freshnessExpiry n) s = .next (s.expire n).finish.driveLines := if_pos h

theorem exec_freshnessExpiry_early {s : State} {n : Nat} (h : ¬s.freshnessDue n = true) :
    exec (.freshnessExpiry n) s = .next s.driveLines := if_neg h

/-! ### A record that falls at its expiry (R61, R74) -/

/-- The state after an expiry that makes record `n` STALE, before its notice and its request. -/
def State.outlived (s : State) (n : Nat) : State := (s.enterStale n).startTimer n

section
variable {s : State} {n : Nat}

theorem outlived_frame (s : State) (n : Nat) : s.outlived n =
    { s with
      recs := (s.outlived n).recs
      speed := { s.speed with kinds := (s.outlived n).speed.kinds }
      aspect := { s.aspect with kinds := (s.outlived n).aspect.kinds } } := by
  unfold State.outlived State.startTimer State.setRecord State.withRecs
  rw [enterStale_frame]

theorem outlived_only (s : State) (n : Nat) : s.OnlyRecord (s.outlived n) n :=
  (s.enterStale_only n).trans (State.startTimer_only _ n)

theorem outlived_record (hn : n < s.recs.length) : (s.outlived n).record n =
    { s.record n with status := .stale, progress := 0, timer := some (s.freshnessMoment n) } := by
  have hlen : n < (s.enterStale n).recs.length := by rw [(s.enterStale_only n).recsLength]; exact hn
  have hmoment : (s.enterStale n).freshnessMoment n = s.freshnessMoment n := by
    rw [enterStale_frame]
    rfl
  rw [State.outlived, startTimer_record hlen, enterStale_record hn, hmoment]

/-- The requests of an expiry by the status of the record (R61, R69). -/
theorem expire_notices (h : (s.record n).status = .empty ∨ (s.record n).status = .valid) :
    s.expire n = ((s.outlived n).notify .leftValid, [.raise (s.staleRequest n 1) none]) := by
  unfold State.expire
  rcases h with h | h <;> rw [h] <;> rfl

theorem expire_recovering (h : (s.record n).status = .recovering) :
    s.expire n = (s.outlived n, [.condRaise (s.staleRequest n 1)]) := by
  unfold State.expire
  rw [h]
  rfl

theorem expire_stale (h : (s.record n).status = .stale) : s.expire n = (s.startTimer n, []) := by
  unfold State.expire
  rw [h]

theorem outlived_msg : (s.outlived n).msg = s.msg := by rw [outlived_frame]

theorem outlived_status : (s.outlived n).status = s.status := by rw [outlived_frame]

theorem outlived_now : (s.outlived n).now = s.now := by rw [outlived_frame]; rfl

/-- From EMPTY and VALID the stale message is raised and RECORD_LEFT_VALID is set (R61, R69). -/
theorem expire_notices_raises (h : (s.record n).status = .empty ∨ (s.record n).status = .valid) :
    (s.expire n).finish.msg = (s.msg.raise s.now (s.staleRequest n 1)).1 ∧
      (s.expire n).finish.status = afterRaise (s.msg.raise s.now (s.staleRequest n 1)).2
        { s.status with notices := { s.status.notices with leftValid := true } } := by
  have hraised := State.raise_afterRaise ((s.outlived n).notify .leftValid) (s.staleRequest n 1)
  have hstatus : ((s.outlived n).notify .leftValid).status =
      { s.status with notices := { s.status.notices with leftValid := true } } := by
    rw [State.notify, State.withStatus_status, outlived_status]
    rfl
  rw [show ((s.outlived n).notify .leftValid).msg = s.msg from outlived_msg,
    show ((s.outlived n).notify .leftValid).now = s.now from outlived_now, hstatus] at hraised
  rw [expire_notices h, Event.finish, State.takeRequests_raise]
  exact hraised

/-- From RECOVERING the stale message is raised where the list does not hold it (R61, R69). -/
theorem expire_recovering_raises (hr : (s.record n).status = .recovering)
    (h : ∀ e ∈ s.msg.entries, e.code ≠ 1024 + n) :
    (s.expire n).finish.msg = (s.msg.raise s.now (s.staleRequest n 1)).1 ∧
      (s.expire n).finish.status = afterRaise (s.msg.raise s.now (s.staleRequest n 1)).2 s.status := by
  have habsent : (findEntry (s.staleRequest n 1).code (s.outlived n).msg.entries).isNone = true := by
    rw [outlived_msg, Option.isNone_iff_eq_none, findEntry_none_iff]
    exact h
  have hraised := State.raise_afterRaise (s.outlived n) (s.staleRequest n 1)
  rw [outlived_msg, outlived_now, outlived_status] at hraised
  rw [expire_recovering hr, Event.finish, State.takeRequests_condRaise, if_pos habsent]
  exact hraised

theorem expire_recovering_quiet (hr : (s.record n).status = .recovering)
    (h : ∃ e ∈ s.msg.entries, e.code = 1024 + n) :
    (s.expire n).finish.msg = s.msg ∧ (s.expire n).finish.status = s.status := by
  obtain ⟨e, he, hcode⟩ := h
  have hpresent : ¬(findEntry (s.staleRequest n 1).code (s.outlived n).msg.entries).isNone = true := by
    rw [outlived_msg, Option.isNone_iff_eq_none, findEntry_none_iff]
    exact fun hall => hall e he hcode
  rw [expire_recovering hr, Event.finish, State.takeRequests_condRaise, if_neg hpresent]
  exact ⟨outlived_msg, outlived_status⟩

/-- Beside the record and its kind state an expiry moves the message and status units alone. -/
theorem expire_finish (hstale : (s.record n).status ≠ .stale) (hbarred : (s.record n).status ≠ .barred) :
    (s.expire n).finish = { s.outlived n with
      msg := (s.expire n).finish.msg, status := (s.expire n).finish.status } := by
  have hnotices : (s.record n).status = .empty ∨ (s.record n).status = .valid → (s.expire n).finish =
      { s.outlived n with msg := (s.expire n).finish.msg, status := (s.expire n).finish.status } := by
    intro h
    rw [expire_notices h, Event.finish, State.takeRequests_raise, State.raise_frame]
    rfl
  cases hs : (s.record n).status with
  | empty => exact hnotices (.inl hs)
  | valid => exact hnotices (.inr hs)
  | stale => exact absurd hs hstale
  | recovering =>
    rw [expire_recovering hs, Event.finish]
    dsimp only
    rw [State.takeRequests_condRaise]
    split
    · rw [State.raise_frame]
    · rfl
  | barred => exact absurd hs hbarred

end

/-- Settles O40: an expiry that is due moves the record as `State.outlived` does, or starts a STALE record's timer
again, and makes the request of its status; one that is not due moves the lines alone. -/
theorem freshnessExpiryMakesRecordsStale : Obligations.FreshnessExpiryMakesRecordsStale := by
  intro s n hshape hn24 again staleMessage discarded
  obtain ⟨-, -, hrecs, hspeeds, haspects, -, -⟩ := hshape
  have hn : n < s.recs.length := by omega
  refine ⟨fun m hm hreached hbarred => ?_, fun h => ⟨_, exec_freshnessExpiry_early ?_, rfl⟩⟩
  · have hexec := exec_freshnessExpiry_due ((freshnessDue_iff s n).2 ⟨m, hm, hreached⟩)
    by_cases hstale : (s.record n).status = .stale
    · have honly := s.startTimer_only n
      rw [expire_stale hstale] at hexec
      refine ⟨_, hexec, fun i hi => ⟨honly.records i hi, rfl, rfl⟩, fun _ => ⟨startTimer_record hn, rfl⟩,
        fun h => absurd hstale h, fun h => ?_, fun h => ?_⟩
      · rcases h with h | h <;> exact absurd (hstale.symm.trans h) nofun
      · exact absurd (hstale.symm.trans h) nofun
    · have honly := outlived_only s n
      have hframe := outlived_frame s n
      have hfinish := expire_finish hstale hbarred
      have hnotices := expire_notices_raises (s := s) (n := n)
      have hquiet := expire_recovering_quiet (s := s) (n := n)
      have hraises := expire_recovering_raises (s := s) (n := n)
      generalize (s.expire n).finish = z at hexec hfinish hnotices hquiet hraises
      refine ⟨_, hexec, fun i hi => ⟨?_, ?_, ?_⟩, fun h => absurd h hstale, fun _ => ⟨?_, ⟨?_, ?_⟩, ?_⟩, hnotices,
        fun hr => ⟨hquiet hr, hraises hr⟩⟩
      · exact (State.record_congr (congrArg State.recs hfinish) i).trans (honly.records i hi)
      · exact (congrArg (fun u : State => u.speedKind i) hfinish).trans (honly.speeds i hi)
      · exact (congrArg (fun u : State => u.aspectKind i) hfinish).trans (honly.aspects i hi)
      · exact (State.record_congr (congrArg State.recs hfinish) n).trans (outlived_record hn)
      · exact (congrArg (fun u : State => u.speedKind n) hfinish).trans (enterStale_speedKind (by omega))
      · exact (congrArg (fun u : State => u.aspectKind n) hfinish).trans (enterStale_aspectKind (by omega))
      · rw [State.driveLines, State.withLines, hfinish, hframe]
  · rw [freshnessDue_iff]
    rintro ⟨m, hm, hreached⟩
    have hearly := h m hm
    omega

end Sys2Proof.Machine
end

section
/-! PROOFS. The refusal that bars a record: O35. -/

namespace Sys2Proof.Machine

/-! ### The requests of a barring, in either order (R73, R138) -/

/-- A raise and its status counts, as the statements have them (R134). -/
theorem State.raise_state (s : State) (r : RaiseRequest) : (s.raise r).1 =
    { s with msg := (s.msg.raise s.now r).1, status := afterRaise (s.msg.raise s.now r).2 s.status } := by
  rw [State.raise_frame, State.raise_status]
  rfl

/-- A clear and a raise of one event are taken in one order or the other (log 8). -/
theorem takeRequests_clear_raise (s : State) (c : Nat) (r : RaiseRequest) : ∃ k,
    s.takeRequests [.condClear c, .raise r none] =
      { s with
        msg := ((s.msg.clear s.now c).1.raise s.now r).1
        status := afterRaise ((s.msg.clear s.now c).1.raise s.now r).2 s.status
        freeCount := k } ∨
    s.takeRequests [.condClear c, .raise r none] =
      { s with
        msg := ((s.msg.raise s.now r).1.clear s.now c).1
        status := afterRaise (s.msg.raise s.now r).2 s.status
        freeCount := k } := by
  refine ⟨s.freeCount + 1, ?_⟩
  rcases s.takeRequests_two (.condClear c) (.raise r none) (fun _ => rfl) (fun _ => rfl) with h | h
  · exact .inl (h.trans (((s.withFreeCount (s.freeCount + 1)).condClear c).raise_state r))
  · exact .inr (h.trans (congrArg (fun u : State => u.condClear c) ((s.withFreeCount (s.freeCount + 1)).raise_state r)))

/-! ### Barring (R66, R72, R74) -/

theorem notifyIf_leftValid (s : State) (b : Bool) : s.notifyIf b .leftValid =
    s.withStatus { s.status with notices := { s.status.notices with leftValid := s.status.notices.leftValid || b } } := by
  cases b with
  | false => rw [Bool.or_false]; rfl
  | true => rw [Bool.or_true]; rfl

/-- The state of a barring whose kind state is not discarded yet. -/
def State.barNoted (s : State) (n : Nat) : State :=
  (s.setRecord n { s.record n with status := .barred, progress := 0, timer := none }).withStatus
    { s.status with notices := { s.status.notices with
      barred := true
      leftValid := s.status.notices.leftValid || decide ((s.record n).status = .valid) } }

section
variable {s : State} {n : Nat} {why : Reason}

theorem bar_state (s : State) (n : Nat) : (s.bar n).1 = (s.barNoted n).discardKind n := by
  unfold State.bar
  dsimp only
  rw [notifyIf_leftValid]
  rfl

theorem bar_frame (s : State) (n : Nat) : (s.bar n).1 = { s with
    recs := (s.bar n).1.recs
    speed := { s.speed with kinds := (s.bar n).1.speed.kinds }
    aspect := { s.aspect with kinds := (s.bar n).1.aspect.kinds }
    status := (s.barNoted n).status } := by
  rw [bar_state]
  unfold State.discardKind
  split <;> rfl

theorem bar_speedKind (hn : n < s.speed.kinds.length) :
    (s.bar n).1.speedKind n = if s.kind n = .speed then (s.speedKind n).discard else s.speedKind n := by
  obtain ⟨hspeed, hother⟩ := discardKind_speedKind (s.barNoted n) n hn
  rw [bar_state]
  split
  · exact hspeed ‹_›
  · exact hother ‹_›

theorem bar_aspectKind (hn : n < s.aspect.kinds.length) :
    (s.bar n).1.aspectKind n = if s.kind n = .aspect then (s.aspectKind n).discard else s.aspectKind n := by
  obtain ⟨haspect, hother⟩ := discardKind_aspectKind (s.barNoted n) n hn
  rw [bar_state]
  split
  · exact haspect ‹_›
  · exact hother ‹_›

/-! ### The refusal that reaches the limit (R49, R66, R71) -/

/-- The state after a refusal that bars record `n`, its requests not yet taken. -/
def State.refusedAtLimit (s : State) (n : Nat) (why : Reason) : State := ((s.noteRefusal n why).bar n).1

theorem refuse_atLimit (hn : n < s.recs.length) (h0 : (s.cfg.entry n).refusalLimit ≠ 0)
    (hlimit : min 15 ((s.record n).refusals + 1) = (s.cfg.entry n).refusalLimit) :
    s.refuse n why = (s.refusedAtLimit n why, [.condClear (1024 + n), .raise (barredRequest n why) none]) := by
  have hrecord := noteRefusal_record (why := why) hn
  have hcfg : (s.noteRefusal n why).cfg = s.cfg := by rw [noteRefusal_frame]
  have hreason : ((s.noteRefusal n why).record n).reason = why := by rw [hrecord]; rfl
  have hreached : (s.cfg.entry n).refusalLimit ≠ 0 ∧
      ((s.record n).refuse why).refusals = (s.cfg.entry n).refusalLimit :=
    ⟨h0, (RecordState.refuse_refusals _ _).trans hlimit⟩
  show (s.noteRefusal n why).refuseStatus n = _
  unfold State.refuseStatus
  dsimp only
  rw [hcfg, hrecord, if_pos hreached]
  unfold State.refusedAtLimit State.bar
  dsimp only
  rw [hreason]

theorem refusedAtLimit_record (hn : n < s.recs.length)
    (hlimit : min 15 ((s.record n).refusals + 1) = (s.cfg.entry n).refusalLimit) :
    (s.refusedAtLimit n why).record n = { s.record n with
      write := .closed, refusals := (s.cfg.entry n).refusalLimit, reason := why
      status := .barred, progress := 0, timer := none } := by
  have hlen : n < (s.noteRefusal n why).recs.length := by rw [noteRefusal_only.recsLength]; exact hn
  rw [State.refusedAtLimit, bar_record hlen, noteRefusal_record hn, ← hlimit, ← RecordState.refuse_refusals _ why]
  rfl

theorem refusedAtLimit_only : s.OnlyRecord (s.refusedAtLimit n why) n :=
  noteRefusal_only.trans (State.bar_only _ n)

theorem refusedAtLimit_speedKind (hn : n < s.speed.kinds.length) :
    (s.refusedAtLimit n why).speedKind n = if s.kind n = .speed then (s.speedKind n).discard else s.speedKind n := by
  have hspeed : (s.noteRefusal n why).speed = s.speed := by rw [noteRefusal_frame]
  have hkind : (s.noteRefusal n why).speedKind n = s.speedKind n := by rw [State.speedKind, hspeed, State.speedKind]
  rw [State.refusedAtLimit, bar_speedKind (by rw [hspeed]; exact hn), noteRefusal_kind, hkind]

theorem refusedAtLimit_aspectKind (hn : n < s.aspect.kinds.length) :
    (s.refusedAtLimit n why).aspectKind n =
      if s.kind n = .aspect then (s.aspectKind n).discard else s.aspectKind n := by
  have hlen : n < (s.noteRefusal n why).aspect.kinds.length := by rw [noteRefusal_only.aspectsLength]; exact hn
  rw [State.refusedAtLimit, bar_aspectKind hlen, noteRefusal_kind, noteRefusal_aspectKind hn]
  split <;> rfl

theorem refusedAtLimit_frame (hn : n < s.recs.length) : s.refusedAtLimit n why =
    { s with
      recs := (s.refusedAtLimit n why).recs
      speed := { s.speed with kinds := (s.refusedAtLimit n why).speed.kinds }
      aspect := { s.aspect with kinds := (s.refusedAtLimit n why).aspect.kinds }
      status := { s.status with notices := { s.status.notices with
        refusal := true
        barred := true
        leftValid := s.status.notices.leftValid || decide ((s.record n).status = .valid) } } } := by
  have hstatus : ((s.noteRefusal n why).record n).status = (s.record n).status := by rw [noteRefusal_record hn]; rfl
  rw [State.refusedAtLimit, bar_frame, State.barNoted, State.withStatus_status, hstatus, noteRefusal_frame]

end

/-- Settles O35: the step is the refusal (`writeStep_refuses`), which moves the record and its kind state as
`refusedAtLimit` does; its two requests are taken in one order or the other (`takeRequests_clear_raise`). -/
theorem refusalAtTheLimitBars : Obligations.RefusalAtTheLimitBars := by
  intro s a w n k why hshape h hwhy h0 hlimit barredMessage noticed cleared
  have hn : n < (s.windowWritten a w n k).recs.length := h.lt_recs hshape
  obtain ⟨-, -, -, hspeeds, haspects, -, -⟩ := hshape
  have hwritten := windowWrite_writtenAt (s := s) (a := a) (w := w) (n := n) (k := k)
  have hexec := exec_windowWrite h
  obtain ⟨-, -, -, hn24, -, -, -, hk⟩ := h
  have hspeed : n < (s.windowWritten a w n k).speed.kinds.length := hspeeds.symm ▸ hn24
  have haspect : n < (s.windowWritten a w n k).aspect.kinds.length := haspects.symm ▸ hn24
  have hstep : (s.windowWritten a w n k).writeStep n k w = (s.windowWritten a w n k).refuse n why :=
    writeStep_refuses hwhy hk
  rw [hstep, refuse_atLimit (s := s.windowWritten a w n k) hn h0 hlimit, Event.finish] at hexec hwritten
  have hrecord := refusedAtLimit_record (why := why) hn hlimit
  have honly := refusedAtLimit_only (s := s.windowWritten a w n k) (n := n) (why := why)
  have hspeedKind := refusedAtLimit_speedKind (why := why) hspeed
  have haspectKind := refusedAtLimit_aspectKind (why := why) haspect
  have hframe := refusedAtLimit_frame (why := why) hn
  dsimp only at hexec hwritten
  generalize (s.windowWritten a w n k).refusedAtLimit n why = u at *
  obtain ⟨choices, horders⟩ := takeRequests_clear_raise u (1024 + n) (barredRequest n why)
  generalize u.takeRequests [.condClear (1024 + n), .raise (barredRequest n why) none] = z at *
  have hfinish : z = { u with msg := z.msg, status := z.status, freeCount := z.freeCount } := by
    rcases horders with rfl | rfl <;> rfl
  refine ⟨_, hexec, hwritten, ?_, fun m hm => ⟨?_, ?_, ?_⟩, ?_, ?_, ?_, ?_⟩
  · exact (State.record_congr (congrArg State.recs hfinish) n).trans hrecord
  · exact (State.record_congr (congrArg State.recs hfinish) m).trans (honly.records m hm)
  · exact (congrArg (fun u : State => u.speedKind m) hfinish).trans (honly.speeds m hm)
  · exact (congrArg (fun u : State => u.aspectKind m) hfinish).trans (honly.aspects m hm)
  · rw [hframe] at horders
    rcases horders with rfl | rfl
    · exact .inl ⟨rfl, rfl⟩
    · exact .inr ⟨rfl, rfl⟩
  · exact (congrArg (fun u : State => u.speedKind n) hfinish).trans hspeedKind
  · exact (congrArg (fun u : State => u.aspectKind n) hfinish).trans haspectKind
  · rw [State.driveLines, State.withLines, hfinish, hframe]
    rfl

end Sys2Proof.Machine
end

section
/-! PROOFS. Accepted SPEED versions: O37. -/

namespace Sys2Proof.Machine

/-! ### The plausibility comparison, case by case (R99 to R101) -/

theorem Axle.reference_none {x : Axle} (h : x.pulses = 0 ∨ x.vx = none) : x.reference = none := by
  unfold Axle.reference
  split
  · rfl
  · exact h.resolve_left ‹_›

theorem Axle.reference_some {x : Axle} {vx : Nat} (hp : x.pulses ≠ 0) (h : x.vx = some vx) : x.reference = some vx :=
  (if_neg hp).trans h

section
variable {st : SpeedSettings} {n : Nat} {k : SpeedKind} {vc vx : Nat}

theorem agrees_iff :
    agrees st vc vx = true ↔ max vc vx - min vc vx ≤ max (16 * st.tolAbs) (vx * st.tolProp / 1000) :=
  decide_eq_true_iff

theorem comparePlausibility_none : comparePlausibility st n k vc none = compareNone n k := rfl

theorem comparePlausibility_agree (h : k.plausible ≠ .disagree) :
    comparePlausibility st n k vc (some vx) = compareAgree st n k vc vx := by
  unfold comparePlausibility
  cases hp : k.plausible with
  | disagree => exact absurd hp h
  | _ => rfl

theorem comparePlausibility_disagree (h : k.plausible = .disagree) :
    comparePlausibility st n k vc (some vx) = compareDisagree st n k vc vx := by
  unfold comparePlausibility
  rw [h]

theorem compareNone_clears (h : k.plausible = .disagree) :
    compareNone n k = ({ k with plausible := .noReference }, [.condClear (1088 + n)]) := by
  rw [compareNone, if_pos h]

theorem compareNone_silent (h : k.plausible ≠ .disagree) :
    compareNone n k = ({ k with plausible := .noReference }, []) := by
  rw [compareNone, if_neg h]

theorem compareAgree_agrees (h : agrees st vc vx = true) :
    compareAgree st n k vc vx = ({ k with plausible := .agree, disagreeRun := 0 }, []) := if_pos h

theorem compareAgree_counts (h : ¬agrees st vc vx = true) (hrun : k.disagreeRun + 1 ≠ st.runLength) :
    compareAgree st n k vc vx = ({ k with plausible := .agree, disagreeRun := k.disagreeRun + 1 }, []) :=
  (if_neg h).trans (if_neg hrun)

theorem compareAgree_enters (h : ¬agrees st vc vx = true) (hrun : k.disagreeRun + 1 = st.runLength) :
    compareAgree st n k vc vx =
      ({ k with plausible := .disagree, disagreeRun := 0, agreeRun := 0 }, [plausibilityRaise n vc vx]) :=
  (if_neg h).trans (if_pos hrun)

theorem compareDisagree_differs (h : ¬agrees st vc vx = true) :
    compareDisagree st n k vc vx = ({ k with agreeRun := 0 }, []) := if_neg h

theorem compareDisagree_counts (h : agrees st vc vx = true) (hrun : k.agreeRun + 1 ≠ st.runLength) :
    compareDisagree st n k vc vx = ({ k with agreeRun := k.agreeRun + 1 }, []) := (if_pos h).trans (if_neg hrun)

theorem compareDisagree_leaves (h : agrees st vc vx = true) (hrun : k.agreeRun + 1 = st.runLength) :
    compareDisagree st n k vc vx =
      ({ k with plausible := .agree, disagreeRun := 0, agreeRun := 0 }, [.condClear (1088 + n)]) :=
  (if_pos h).trans (if_pos hrun)

/-- The comparison asks for one thing at most, and no awaiting flag waits for it. -/
theorem comparePlausibility_plain (st : SpeedSettings) (n : Nat) (k : SpeedKind) (vc : Nat) (ref : Option Nat) :
    ∀ q ∈ (comparePlausibility st n k vc ref).2, q.Plain := by
  have hnone : ∀ q ∈ ([] : List PartRequest), q.Plain := nofun
  have hclear : ∀ q ∈ [PartRequest.condClear (1088 + n)], q.Plain := by simp [PartRequest.Plain]
  cases ref with
  | none =>
    rw [comparePlausibility_none]
    by_cases h : k.plausible = .disagree
    · rwa [compareNone_clears h]
    · rwa [compareNone_silent h]
  | some vx =>
    by_cases hagrees : agrees st vc vx = true <;> by_cases h : k.plausible = .disagree
    · rw [comparePlausibility_disagree h]
      by_cases hrun : k.agreeRun + 1 = st.runLength
      · rwa [compareDisagree_leaves hagrees hrun]
      · rwa [compareDisagree_counts hagrees hrun]
    · rwa [comparePlausibility_agree h, compareAgree_agrees hagrees]
    · rwa [comparePlausibility_disagree h, compareDisagree_differs hagrees]
    · rw [comparePlausibility_agree h]
      by_cases hrun : k.disagreeRun + 1 = st.runLength
      · rw [compareAgree_enters hagrees hrun]
        simp [PartRequest.Plain, plausibilityRaise]
      · rwa [compareAgree_counts hagrees hrun]

end

/-! ### The requests of an acceptance without a changeover (R63, R70) -/

/-- The clear of the stale message on a return to VALID, as the part makes it. -/
def State.staleClears (s : State) (n : Nat) : List PartRequest :=
  if ((s.record n).status = .stale ∧ (s.cfg.entry n).recovery = 1) ∨
      ((s.record n).status = .recovering ∧ (s.record n).progress + 1 = (s.cfg.entry n).recovery) then
    [.condClear (1024 + n)]
  else []

theorem staleClears_ask (s : State) (n : Nat) : (s.staleClears n).map PartRequest.ask = staleCleared s n := by
  unfold State.staleClears staleCleared
  split <;> rfl

theorem staleClears_mem {s : State} {n : Nat} {q : PartRequest} (h : q ∈ s.staleClears n) :
    q = .condClear (1024 + n) := by
  unfold State.staleClears at h
  split at h
  · exact List.mem_singleton.1 h
  · cases h

theorem acceptStatus_clears {s : State} {n : Nat} (h : s.kind n ≠ .aspect) :
    (s.acceptStatus n).2 = s.staleClears n := by
  obtain ⟨own, -, hother, hreturns, hstays⟩ := acceptStatus_requests s n
  rw [hother h] at hreturns hstays
  unfold State.staleClears
  split
  · exact hreturns ‹_›
  · exact hstays ‹_›

section
variable {s : State} {n : Nat}

theorem accept_clears (hn : n < s.recs.length) (seq : Byte) (words : List Word) (h : s.kind n ≠ .aspect) :
    (s.accept n seq words).2 =
      ((s.setRecord n ((s.record n).accept seq)).acceptKind n words).2 ++ s.staleClears n := by
  have hframe := (State.acceptKind_only (s.setRecord n ((s.record n).accept seq)) n words).sameFrame
  have hrecs := acceptKind_recs (s.setRecord n ((s.record n).accept seq)) n words
  unfold State.accept Event.andThen
  dsimp only
  generalize (s.setRecord n ((s.record n).accept seq)).acceptKind n words = e at hframe hrecs
  have hcfg : e.1.cfg = s.cfg := hframe.cfg
  have hrecord : e.1.record n = (s.record n).accept seq :=
    (State.record_congr hrecs n).trans (s.record_setRecord_self n _ hn)
  rw [acceptStatus_clears (by rw [State.kind, hcfg]; exact h), State.staleClears, hrecord, hcfg]
  rfl

/-- Plain requests leave the aspect unit. -/
theorem takeRequests_aspect {rs : List PartRequest} (h : ∀ q ∈ rs, q.Plain) (s : State) :
    (s.takeRequests rs).aspect = s.aspect := by
  obtain ⟨qs, k, hperm, htaken⟩ := takeAll_plain s (f := 2 * rs.length) (by omega) h
  obtain ⟨haspect, -⟩ := s.takeTurns_quiet (ts := qs.map .request) (by
    rw [List.forall_mem_map]
    exact fun q hq => ⟨q, rfl, h q (hperm.mem_iff.1 hq)⟩)
  rw [State.takeRequests, htaken]
  exact haspect

/-! ### The event of a SPEED record (R83, R90) -/

/-- The kind state that an acceptance of `words` computes, and the requests of its comparison. -/
def State.speedResult (s : State) (n : Nat) (words : List Word) : SpeedKind × List PartRequest :=
  speedComputation (s.cfg.speedSettings n) n (s.speedKind n) words s.speed.axle.reference s.now

theorem acceptKind_speed {x : State} (words : List Word) (h : x.kind n = .speed) :
    x.acceptKind n words = (x.setSpeedKind n (x.speedResult n words).1, (x.speedResult n words).2) := by
  unfold State.acceptKind
  rw [h]
  rfl

/-- For a SPEED record an acceptance moves the record and its kind state alone (R48). -/
theorem accept_speed (seq : Byte) (words : List Word) (h : s.kind n = .speed) :
    (s.accept n seq words).1 = { s with
      recs := (s.accept n seq words).1.recs
      speed := { s.speed with kinds := s.speed.kinds.set n (s.speedResult n words).1 } } := by
  have hkind := acceptKind_speed (x := s.setRecord n ((s.record n).accept seq)) words h
  obtain ⟨hstatus, haspect⟩ := acceptStatus_frame
    ((s.setRecord n ((s.record n).accept seq)).setSpeedKind n (s.speedResult n words).1) n
  have hsame := haspect fun haspectKind => absurd (h.symm.trans haspectKind) nofun
  unfold State.accept Event.andThen
  rw [hkind]
  dsimp only
  rw [show (s.setRecord n ((s.record n).accept seq)).speedResult n words = s.speedResult n words from rfl,
    State.startTimer, State.setRecord, State.withRecs, hstatus, hsame]
  rfl

/-- The requests of a SPEED acceptance, as the statements have them (R73, R101). -/
theorem accept_speed_asks (hn : n < s.recs.length) (seq : Byte) (words : List Word) (h : s.kind n = .speed) :
    (∃ x, AsksTaken s ((s.speedResult n words).2.map PartRequest.ask ++ staleCleared s n) x ∧
      (s.accept n seq words).finish.msg = x.msg ∧ (s.accept n seq words).finish.status = x.status) ∧
    (s.accept n seq words).finish.aspect = s.aspect := by
  have hplain : ∀ q ∈ (s.speedResult n words).2, q.Plain := comparePlausibility_plain _ _ _ _ _
  have hask : ∀ q ∈ (s.speedResult n words).2, q.OfAcceptance n ∧ q.code = 1088 + n :=
    comparePlausibility_requests _ _ _ _ _
  have hrequests : (s.accept n seq words).2 = (s.speedResult n words).2 ++ s.staleClears n := by
    rw [accept_clears hn seq words (by rw [h]; nofun),
      acceptKind_speed (x := s.setRecord n ((s.record n).accept seq)) words h]
    rfl
  have hclear : ∀ q ∈ s.staleClears n, q.Plain ∧ q.OfAcceptance n := by
    intro q hq
    rw [staleClears_mem hq]
    exact ⟨trivial, trivial⟩
  rw [Event.finish, hrequests]
  constructor
  · obtain ⟨⟨x, hx, hmsg, hstatus⟩, -⟩ := takeRequests_asked (n := n)
      (rs := (s.speedResult n words).2 ++ s.staleClears n)
      (fun q hq => (List.mem_append.1 hq).elim (fun hq => (hask q hq).1) fun hq => (hclear q hq).2)
      (s.accept n seq words).1
    rw [List.map_append, staleClears_ask, AsksTaken, accept_frame] at hx
    exact ⟨x, hx, hmsg, hstatus⟩
  · rw [takeRequests_aspect fun q hq => (List.mem_append.1 hq).elim (hplain q) fun hq => (hclear q hq).1,
      accept_speed seq words h]

/-- The kind state of a SPEED record after its acceptance. -/
theorem accept_speed_kind (hk : n < s.speed.kinds.length) (seq : Byte) (words : List Word) (h : s.kind n = .speed) :
    (s.accept n seq words).finish.speedKind n = (s.speedResult n words).1 := by
  obtain ⟨hfinish, -⟩ := State.takeRequests_only (s.accept n seq words).1 (s.accept n seq words).2
  rw [Event.finish, hfinish, accept_speed seq words h]
  exact s.speedKind_setSpeedKind_self n _ hk

end

/-- The presented values in the terms of the statements (R87, R90, Table 5.4). -/
theorem speedPresented_eq (st : SpeedSettings) (prev : Option Previous) (va vp vt : Nat) (pl : Plausibility) (t : Time) :
    speedPresented st prev va vp vt pl t =
      (let vc := min va (16 * st.scaleEnd)
       let vs := slewed st prev vc t
       { p0 := BitVec.ofNat 16 (displayedSpeed st prev vs)
         p1 := BitVec.ofNat 16 ((if vs ≠ vc then 512 else 0) + (if 16 * st.scaleEnd < va then 256 else 0) +
           16 * pl.code + supervision st vc vp vt)
         p2 := BitVec.ofNat 16 (1000 * vs / (16 * st.scaleEnd))
         cls := supervision st vc vp vt }) := by
  have hflag : ∀ (p : Prop) [Decidable p] (i : Nat), flagBit (decide p) i = if p then 2 ^ i else 0 := by
    intro p _ i
    simp [flagBit]
  unfold speedPresented
  dsimp only
  rw [speedWord1, hflag, hflag, Nat.mul_comm pl.code]
  rfl

/-- The grant that accepts a SPEED version: the kind state computed, its requests taken, and what stays. -/
theorem exec_speedAcceptance {s : State} {a : Addr} {w : Word} {n : Nat} {words : List Word} (hshape : ShapeInv s)
    (h : AcceptsVersion s a w n words) (hkind : s.kind n = .speed) :
    ∃ t x, exec .arbiterGrant s = .next t ∧ t.speedKind n = (s.speedResult n words).1 ∧
      (∀ m, m ≠ n → t.speedKind m = s.speedKind m) ∧
      AsksTaken s ((s.speedResult n words).2.map PartRequest.ask ++ staleCleared s n) x ∧
      t.msg = x.msg ∧ t.status = x.status ∧
      t = { s with mem := t.mem, path := t.path, recs := t.recs, speed := { s.speed with kinds := t.speed.kinds },
                   msg := t.msg, status := t.status, lines := t.lines, freeCount := t.freeCount } := by
  have hserves := h.1
  have hn : n < (s.windowWritten a w n (s.cfg.entry n).inputs).recs.length := hserves.lt_recs hshape
  obtain ⟨-, -, -, hspeeds, -⟩ := hshape
  obtain ⟨-, -, -, hn24, -⟩ := hserves
  have hlen : n < (s.windowWritten a w n (s.cfg.entry n).inputs).speed.kinds.length := hspeeds.symm ▸ hn24
  have hexec := exec_windowWrite h.1
  rw [writeStep_accepts h] at hexec
  have hresult := accept_speed_kind hlen (highByte w) words hkind
  have hothers := accept_finish_others (s := s.windowWritten a w n (s.cfg.entry n).inputs) (n := n) (highByte w) words
  have hframe := accept_finish_frame (s := s.windowWritten a w n (s.cfg.entry n).inputs) (n := n) (highByte w) words
  obtain ⟨⟨x, hx, hmsg, hstatus⟩, haspect⟩ := accept_speed_asks hn (highByte w) words hkind
  rw [haspect] at hframe
  generalize ((s.windowWritten a w n (s.cfg.entry n).inputs).accept n (highByte w) words).finish = z at *
  refine ⟨_, x, hexec, hresult, fun m hm => (hothers m hm).2, hx, hmsg, hstatus, ?_⟩
  rw [State.driveLines, State.withLines, hframe]
  rfl

/-- Settles O37: the acceptance computes the kind state `State.speedResult`, whose comparison goes by the cases of R100;
its requests are the comparison's and the clear of the stale message (`exec_speedAcceptance`). -/
theorem speedAcceptanceSetsPresentedWords : Obligations.SpeedAcceptanceSetsPresentedWords := by
  intro s a w n va vp vt hshape h hkind st k vc vs d cls
  obtain ⟨t, x, hexec, hresult, hothers, hx, hmsg, hstatus, hframe⟩ := exec_speedAcceptance hshape h hkind
  obtain ⟨cmp, hcmp⟩ : ∃ cmp, cmp = comparePlausibility st n k vc s.speed.axle.reference := ⟨_, rfl⟩
  have hspeed : s.speedResult n [va, vp, vt] =
      ({ cmp.1 with
          previous := some { slewed := vs, displayed := d, time := s.ctl.ms }
          presented := some (speedPresented st k.previous va.toNat vp.toNat vt.toNat cmp.1.plausible s.ctl.ms) },
        cmp.2) := by
    rw [hcmp]
    rfl
  rw [hspeed] at hresult hx
  refine ⟨t, cmp.1.plausible, cmp.2.map PartRequest.ask, x, hexec, ?_⟩
  rw [hresult]
  refine ⟨rfl, rfl, congrArg some (speedPresented_eq _ _ _ _ _ _ _), hothers, hx, hmsg, hstatus, hframe,
    fun href => ⟨?_, fun hp => ?_, fun hp => ?_⟩,
    fun vx hpulses hvx => ⟨fun hp => ⟨fun hagree => ?_, fun hdiffer hrun => ?_, fun hdiffer hrun => ?_⟩,
      fun hp => ⟨fun hdiffer => ?_, fun hagree hrun => ?_, fun hagree hrun => ?_⟩⟩⟩
  · rw [hcmp, Axle.reference_none href]
    exact ⟨rfl, rfl, rfl⟩
  · rw [hcmp, Axle.reference_none href, comparePlausibility_none, compareNone_clears hp]
    rfl
  · rw [hcmp, Axle.reference_none href, comparePlausibility_none, compareNone_silent hp]
    rfl
  · rw [hcmp, Axle.reference_some hpulses hvx, comparePlausibility_agree hp, compareAgree_agrees (agrees_iff.2 hagree)]
    exact ⟨⟨rfl, rfl, rfl⟩, rfl⟩
  · rw [hcmp, Axle.reference_some hpulses hvx, comparePlausibility_agree hp,
      compareAgree_counts (mt agrees_iff.1 hdiffer) hrun]
    exact ⟨⟨rfl, rfl, rfl⟩, rfl⟩
  · rw [hcmp, Axle.reference_some hpulses hvx, comparePlausibility_agree hp,
      compareAgree_enters (mt agrees_iff.1 hdiffer) hrun]
    exact ⟨⟨rfl, rfl, rfl⟩, rfl⟩
  · rw [hcmp, Axle.reference_some hpulses hvx, comparePlausibility_disagree hp,
      compareDisagree_differs (mt agrees_iff.1 hdiffer)]
    exact ⟨⟨hp, rfl, rfl⟩, rfl⟩
  · rw [hcmp, Axle.reference_some hpulses hvx, comparePlausibility_disagree hp,
      compareDisagree_counts (agrees_iff.2 hagree) hrun]
    exact ⟨⟨hp, rfl, rfl⟩, rfl⟩
  · rw [hcmp, Axle.reference_some hpulses hvx, comparePlausibility_disagree hp,
      compareDisagree_leaves (agrees_iff.2 hagree) hrun]
    exact ⟨⟨rfl, rfl, rfl⟩, rfl⟩

end Sys2Proof.Machine
end

section
/-! PROOF SUPPORT. What one command can do to the record engine: of the moves of `State.EngineMove` at most one, between
operations that leave the engine's units alone (`State.EngineTurn`). -/

namespace Sys2Proof.Machine

/-! ### What leaves the record, speed and aspect units alone -/

/-- The records with their tables and kind states, the selection and the place in or out of service stay; of the kind
states of ASPECT records the awaiting flag may change. -/
structure State.SameUnits (s t : State) : Prop where
  recs : t.recs = s.recs
  cfg : t.cfg = s.cfg
  service : t.inService = s.inService
  speeds : t.speed.kinds = s.speed.kinds
  select : t.aspect.select = s.aspect.select
  aspects : t.aspect.kinds.length = s.aspect.kinds.length
  kinds : ∀ n, (t.aspectKind n).shown = (s.aspectKind n).shown ∧ (t.aspectKind n).upgrade = (s.aspectKind n).upgrade

/-- Where the units stay as they are. -/
theorem State.SameUnits.of_fields {s t : State} (recs : t.recs = s.recs := by rfl) (cfg : t.cfg = s.cfg := by rfl)
    (service : t.inService = s.inService := by rfl) (speeds : t.speed.kinds = s.speed.kinds := by rfl)
    (aspect : t.aspect = s.aspect := by rfl) : s.SameUnits t where
  recs := recs
  cfg := cfg
  service := service
  speeds := speeds
  select := by rw [aspect]
  aspects := by rw [aspect]
  kinds n := by
    rw [State.aspectKind, State.aspectKind, aspect]
    exact ⟨rfl, rfl⟩

theorem State.SameUnits.refl (s : State) : s.SameUnits s := .of_fields

theorem State.SameUnits.trans {a b c : State} (h1 : a.SameUnits b) (h2 : b.SameUnits c) : a.SameUnits c where
  recs := h2.recs.trans h1.recs
  cfg := h2.cfg.trans h1.cfg
  service := h2.service.trans h1.service
  speeds := h2.speeds.trans h1.speeds
  select := h2.select.trans h1.select
  aspects := h2.aspects.trans h1.aspects
  kinds n := ⟨(h2.kinds n).1.trans (h1.kinds n).1, (h2.kinds n).2.trans (h1.kinds n).2⟩

/-! ### The message unit's operations -/

/-- Requests and presses change the awaiting flags at most, where they leave what is shown and pending. -/
theorem State.OnlyMessagesAndPress.sameUnits {s t : State} (h : s.OnlyMessagesAndPress t) (hkinds : s.Alongside t) :
    s.SameUnits t where
  recs := h.sameEngine.recs
  cfg := h.sameEngine.cfg
  service := h.sameEngine.inService
  speeds := by rw [h.1]
  select := by rw [h.1]
  aspects := h.2
  kinds := hkinds.kinds

theorem State.raise_sameUnits (s : State) (r : RaiseRequest) : s.SameUnits (s.raise r).1 := by
  rw [s.raise_frame]
  exact .of_fields

theorem State.awaitIf_sameUnits (s : State) (taken : Bool) (n : Nat) : s.SameUnits (s.awaitIf taken n) := by
  unfold State.awaitIf
  split
  · refine ⟨rfl, rfl, rfl, rfl, rfl, by simp, fun m => ?_⟩
    by_cases hm : m = n
    · subst hm
      by_cases hl : m < s.aspect.kinds.length
      · rw [s.aspectKind_setAspectKind_self m _ hl]
        exact ⟨rfl, rfl⟩
      · rw [State.setAspectKind, List.set_eq_of_length_le (by omega)]
        exact ⟨rfl, rfl⟩
    · rw [s.aspectKind_setAspectKind_ne n m _ hm]
      exact ⟨rfl, rfl⟩
  · exact .refl s

theorem State.takeOne_sameUnits (s : State) (r : PartRequest) : s.SameUnits (s.takeOne r).1 := by
  cases r with
  | raise r awaits =>
    cases awaits with
    | none => exact s.raise_sameUnits r
    | some n => exact (s.raise_sameUnits r).trans (State.awaitIf_sameUnits _ _ n)
  | condRaise r =>
    simp only [State.takeOne]
    split
    · exact s.raise_sameUnits r
    · exact .refl s
  | condClear code => exact .of_fields
  | overrun r => exact s.raise_sameUnits r

theorem State.choose_sameUnits (s : State) (k : Nat) : s.SameUnits (s.choose k).2 := .of_fields

theorem takeAll_sameUnits (f : Nat) : ∀ (rs : List PartRequest) (s : State), s.SameUnits (takeAll f rs s) := by
  induction f with
  | zero => exact fun _ s => .refl s
  | succ f ih =>
    intro rs s
    match rs with
    | [] => exact .refl s
    | [r] => exact (s.takeOne_sameUnits r).trans (ih _ _)
    | r :: r' :: rest => exact ((s.choose_sameUnits _).trans (State.takeOne_sameUnits _ _)).trans (ih _ _)

theorem State.takeRequests_sameUnits (s : State) (rs : List PartRequest) : s.SameUnits (s.takeRequests rs) :=
  takeAll_sameUnits _ rs s

theorem Event.finish_sameUnits (e : Event) : e.1.SameUnits e.finish := State.takeRequests_sameUnits _ _

theorem divideRequests_sameUnits (rs : List PartRequest) : ∀ s : State, s.SameUnits (divideRequests rs s).1 := by
  induction rs with
  | nil => exact State.SameUnits.refl
  | cons r rest ih =>
    intro s
    simp only [divideRequests]
    split <;> exact (s.choose_sameUnits 2).trans (ih _)

theorem State.press_sameUnits (s : State) : s.SameUnits s.press := s.press_only.sameUnits s.press_alongside

theorem State.takeAround_press_sameUnits (s : State) (rs : List PartRequest) (first last : PartRequest) :
    s.SameUnits (s.takeAround rs first State.press last) :=
  (((divideRequests_sameUnits rs s).trans (State.takeRequests_sameUnits _ _)).trans (State.press_sameUnits _)).trans
    (State.takeRequests_sameUnits _ _)

theorem overrunMessages_sameUnits (e : Event) : e.1.SameUnits (overrunMessages e) := by
  unfold overrunMessages
  split
  · dsimp only
    split
    · exact (e.1.choose_sameUnits 2).trans (State.takeAround_press_sameUnits _ _ _ _)
    · exact (e.1.choose_sameUnits 2).trans (State.takeRequests_sameUnits _ _)
  · exact State.takeRequests_sameUnits _ _

/-- A captured POST write acts on the message unit and the awaiting flags (R113, R127). -/
theorem State.capture_sameUnits (s : State) (k : Nat) (w : Word) : s.SameUnits (s.capture k w) := by
  have hperform : ∀ c st marker act, s.SameUnits (s.postPerform c st marker act) := by
    intro c st marker act
    cases act with
    | raise => exact s.raise_sameUnits _
    | clear =>
      simp only [State.postPerform, State.postClear]
      split <;> exact .of_fields
    | ack => exact (s.acknowledge_only _).andPress.sameUnits (s.acknowledge_alongside _)
  have hacted : ∀ c, s.SameUnits (s.acted c w) := by
    intro c
    unfold State.acted
    split
    · split
      · exact .of_fields
      · exact hperform _ _ _ _
    · exact .of_fields
  unfold State.capture
  split
  · exact .refl s
  · split
    · exact .of_fields
    · rw [captureAction_eq]
      exact (hacted _).trans .of_fields

/-! ### The memory path's operations -/

theorem State.withPath_sameUnits (s : State) (p : Path) : s.SameUnits (s.withPath p) := .of_fields

theorem State.dispose_sameUnits (s : State) (r : UpstreamRequest) : s.SameUnits (s.dispose r) := by
  rw [(s.dispose_only r).rest]
  exact .of_fields

theorem State.redispose_sameUnits (s : State) (r : UpstreamRequest) : s.SameUnits ((s.withUp .idle).dispose r) :=
  (s.withPath_sameUnits _).trans (State.dispose_sameUnits (s.withUp .idle) r)

theorem State.arrive_sameUnits (s : State) (r : UpstreamRequest) : s.SameUnits (s.arrive r) := by
  unfold State.arrive
  split
  · exact s.dispose_sameUnits r
  all_goals exact .refl s

theorem State.releasePinHeld_sameUnits (s : State) : s.SameUnits s.releasePinHeld := by
  unfold State.releasePinHeld
  split
  · exact s.redispose_sameUnits _
  all_goals exact .refl s

theorem State.releaseUpstream_sameUnits (s : State) : s.SameUnits s.releaseUpstream := by
  unfold State.releaseUpstream
  split
  · exact s.redispose_sameUnits _
  all_goals exact .refl s

theorem State.columnDone_sameUnits (s : State) : s.SameUnits s.columnDone := by
  obtain ⟨p, h⟩ := columnDone_path s
  rw [h]
  exact s.withPath_sameUnits p

theorem State.disposeBurst_sameUnits (s : State) (start : Addr) (count : BitVec 8) :
    s.SameUnits (s.disposeBurst start count) := by
  unfold State.disposeBurst
  split <;> exact .of_fields

theorem State.arriveBurst_sameUnits (s : State) (start : Addr) (count : BitVec 8) :
    s.SameUnits (s.arriveBurst start count) := by
  unfold State.arriveBurst
  split
  · exact s.disposeBurst_sameUnits start count
  all_goals exact .refl s

theorem State.releaseBurst_sameUnits (s : State) : s.SameUnits s.releaseBurst := by
  unfold State.releaseBurst
  split
  · exact (s.withPath_sameUnits _).trans (State.disposeBurst_sameUnits (s.withScan .idle) _ _)
  all_goals exact .refl s

theorem State.endBurst_sameUnits (s : State) (phase : BurstPhase) : s.SameUnits (s.endBurst phase) := by
  unfold State.endBurst
  dsimp only
  split
  · exact (State.SameUnits.of_fields (t := (s.withScan .idle).freePort)).trans (State.releasePinHeld_sameUnits _)
  · exact (s.withPath_sameUnits _).trans (State.releasePinHeld_sameUnits (s.withScan .idle))

theorem State.deliver_sameUnits (s : State) (b : Burst) (w : Word) : s.SameUnits (s.deliver b w) := by
  by_cases h : b.left ≤ 1
  · rw [s.deliver_last b w h]
    exact (s.withPath_sameUnits _).trans (State.endBurst_sameUnits _ b.phase)
  · rw [s.deliver_more b w (by omega)]
    exact .of_fields

theorem State.serveScanWord_sameUnits (s : State) (b : Burst) : s.SameUnits (s.serveScanWord b) := by
  unfold State.serveScanWord
  split
  · split
    · exact (State.SameUnits.of_fields (t := (s.columnRead _).1)).trans (State.deliver_sameUnits _ b _)
    · exact .of_fields
  · exact s.deliver_sameUnits b _
  · exact (State.SameUnits.of_fields (t := s.withFreeCount _)).trans (State.deliver_sameUnits _ b _)

/-- Held traffic is taken up in RUN or in RETAIN, both in service (R16). -/
theorem State.takeUp_sameUnits {s : State} (inRun : Bool) {f : State → State} (hpart : s.ctl.part = .retain)
    (hf : ∀ u : State, u.SameUnits (f u)) : s.SameUnits (s.takeUp inRun f) := by
  have hs : s.inService = true := (State.inService_iff s).2 (.inr hpart)
  unfold State.takeUp
  split
  · have hrun : s.SameUnits (s.setPart .run) := .of_fields (service := hs.symm)
    have hup := hrun.trans (hf _)
    exact hup.trans (.of_fields (service := (hup.service.trans hs).symm))
  · exact hf s

theorem State.releaseHeld_sameUnits (s : State) : s.SameUnits s.releaseHeld := by
  unfold State.releaseHeld
  split
  · rename_i h
    have hpart : ((s.choose 2).2.choose 2).2.ctl.part = .retain := h.1
    have hchoices : s.SameUnits ((s.choose 2).2.choose 2).2 := .of_fields
    have hfirst := State.takeUp_sameUnits ((s.choose 2).1 == 1) hpart State.releaseUpstream_sameUnits
    refine (hchoices.trans hfirst).trans (State.takeUp_sameUnits _ ?_ State.releaseBurst_sameUnits)
    rw [State.takeUp_ctl _ _ _ hpart State.releaseUpstream_ctl]
    exact hpart
  · exact s.releaseUpstream_sameUnits.trans (State.releaseBurst_sameUnits _)

/-! ### The moves of the record engine -/

/-- The events at record `n` that a command can bring about. -/
inductive State.EngineEvent (s : State) (n : Nat) : Event → Prop where
  /-- a served window write (R40) -/
  | write (h : s.inService = true ∧ (s.record n).status ≠ .barred) (k : Nat) (w : Word) :
      EngineEvent s n (s.writeStep n k w)
  /-- an expiry of its timer (R61) -/
  | expiry (h : (s.record n).timer ≠ none) : EngineEvent s n (s.expire n)
  /-- a RELEASE (R67) -/
  | release (h : s.inService = true ∧ (s.record n).status = .barred) : EngineEvent s n (s.releaseRecord n)

/-- What a command can do to the record, speed and aspect units, their tables and the place in or out of service. -/
inductive State.EngineMove (s : State) : State → Prop where
  | stay : EngineMove s s
  | event {n : Nat} {e : Event} (h : s.EngineEvent n e) : EngineMove s e.1
  /-- a refresh overrun (R13) -/
  | overrun (h : s.inService = true) : EngineMove s s.overrunRecords.1
  /-- the changeover timer expires (R121) -/
  | changeover (h : s.changeoverDue = true) : EngineMove s (s.setSelection { s.aspect.select with timer := .expired })
  /-- the tables are written or loaded (R158, R165, R171) -/
  | configured (h : s.inService = false) (c : Sections) : EngineMove s (s.withCfg c)
  /-- an entry to CONFIG (R78) -/
  | config : EngineMove s s.enterConfigMode
  /-- an entry to RUN (R167) -/
  | run (h : s.inService = false) (c : Sections) : EngineMove s (s.withCfg c).enterRun
  /-- a full reset (R162) -/
  | reset (u : State) (cause : ResetCause) : EngineMove s (u.fullReset cause)

/-- One move of the engine, with operations before and after it that leave the units alone. -/
def State.EngineTurn (s t : State) : Prop := ∃ u v, s.SameUnits u ∧ u.EngineMove v ∧ v.SameUnits t

theorem State.EngineMove.turn {s t : State} (h : s.EngineMove t) : s.EngineTurn t := ⟨s, t, .refl s, h, .refl t⟩

theorem State.SameUnits.turn {s t : State} (h : s.SameUnits t) : s.EngineTurn t := ⟨t, t, h, .stay, .refl t⟩

theorem State.EngineTurn.andSame {s u t : State} (h : s.EngineTurn u) (ht : u.SameUnits t) : s.EngineTurn t := by
  obtain ⟨x, y, hx, hmove, hy⟩ := h
  exact ⟨x, y, hx, hmove, hy.trans ht⟩

theorem State.SameUnits.andTurn {s u t : State} (h : s.SameUnits u) (ht : u.EngineTurn t) : s.EngineTurn t := by
  obtain ⟨x, y, hx, hmove, hy⟩ := ht
  exact ⟨x, y, h.trans hx, hmove, hy⟩

/-- The tables can be exchanged out of service, with what else the command does to the other units. -/
theorem State.EngineTurn.configured {s t : State} (h : s.inService = false) (c : Sections)
    (ht : (s.withCfg c).SameUnits t) : s.EngineTurn t := (State.EngineMove.configured h c).turn.andSame ht

/-! ### The memory path and the refresh unit -/

theorem State.serveGranted_engine (s : State) (r : UpstreamRequest) :
    s.EngineTurn (s.upstreamGranted.serveGranted r) := by
  have hmemory : ∀ a, s.SameUnits (s.upstreamGranted.serveMemory r a) := fun a => by cases r <;> exact .of_fields
  have hdispose : s.EngineTurn (s.upstreamGranted.dispose r).freePort :=
    (((s.withPath_sameUnits _).trans (State.dispose_sameUnits s.upstreamGranted r)).trans .of_fields).turn
  rw [State.serveGranted, State.upstreamGranted_disposition]
  split
  · exact (hmemory _).turn
  · exact ((hmemory _).trans (State.capture_sameUnits _ _ _)).turn
  · rename_i a n k hd
    have hmem := hmemory a
    have hserved := State.disposition_memoryRecord hd
    rw [← hmem.service, ← State.record_congr hmem.recs] at hserved
    exact (hmem.andTurn (State.EngineMove.event (.write hserved k _)).turn).andSame (Event.finish_sameUnits _)
  all_goals exact hdispose

theorem State.grantUpstream_engine (s : State) : s.EngineTurn s.grantUpstream := by
  cases h : s.path.up with
  | claiming r =>
    rw [s.grantUpstream_claiming r h]
    exact s.serveGranted_engine r
  | _ => simp only [State.grantUpstream, h]; exact (State.SameUnits.refl s).turn

theorem State.arbitrate_engine (s : State) : s.EngineTurn s.arbitrate := by
  have hscan : s.SameUnits s.grantScan := by
    unfold State.grantScan
    split
    · exact s.withPath_sameUnits _
    all_goals exact .refl s
  unfold State.arbitrate
  split
  · split
    · exact (s.withPath_sameUnits _).turn
    · exact s.grantUpstream_engine
    · exact hscan.turn
    · exact (State.SameUnits.refl s).turn
  all_goals exact (State.SameUnits.refl s).turn

/-- A post is carried by an arrival, a grant and a completion (log 14). -/
theorem State.deskWrite_engine (s : State) (a : Addr) (w : Word) : s.EngineTurn (s.deskWrite a w) := by
  have harrival := s.dispose_sameUnits (.write a w)
  rw [s.deskWrite_eq]
  split
  · exact (State.SameUnits.refl s).turn
  · split
    · exact (harrival.andTurn (State.grantUpstream_engine _)).andSame (State.columnDone_sameUnits _)
    · exact harrival.turn

theorem State.refreshTick_engine (s : State) : s.EngineTurn s.refreshTick := by
  have hoverrun : ∀ u : State, u.EngineTurn u.overrun := by
    intro u
    have hlost : u.SameUnits ((u.notify .overrun).withMem u.mem.forget) := .of_fields
    unfold State.overrun
    dsimp only
    split
    · rename_i hs
      have hmove := State.EngineMove.overrun (s := (u.notify .overrun).withMem u.mem.forget) hs
      exact (hlost.andTurn hmove.turn).andSame (overrunMessages_sameUnits _)
    · exact hlost.turn
  unfold State.refreshTick
  dsimp only
  split
  · exact (s.withPath_sameUnits _).andTurn (hoverrun (s.withRefresh _))
  · exact (s.withPath_sameUnits _).turn

/-! ### Start-up, the desk key and the maintenance link -/

theorem State.not_inService {s : State} (hrun : s.ctl.part ≠ .run) (hretain : s.ctl.part ≠ .retain) :
    s.inService = false := by
  rw [Bool.eq_false_iff, ne_eq, State.inService_iff]
  exact fun h => h.elim hrun hretain

/-- LOAD is left to RUN or RETAIN, or to SAFE (R165). -/
theorem State.startupLoad_engine {s : State} (h : s.ctl.part = .load) : s.EngineTurn s.startupLoad := by
  have hout : s.inService = false := s.not_inService (by rw [h]; nofun) (by rw [h]; nofun)
  unfold State.startupLoad
  split
  · dsimp only
    split
    · exact (State.EngineMove.run hout _).turn
    · exact .configured hout (imageSections s.image) (.of_fields (service := hout.symm))
  · exact State.SameUnits.turn (.of_fields (service := hout.symm))

/-- The filter's change moves the part between RUN and RETAIN at most (R166). -/
theorem State.deskChange_sameUnits (s : State) : s.SameUnits s.deskChange := by
  unfold State.deskChange State.followDesk
  split
  · rename_i hpart _
    exact .of_fields (service := ((State.inService_iff s).2 (.inl hpart)).symm)
  · rename_i hpart _
    exact .of_fields (service := ((State.inService_iff s).2 (.inr hpart)).symm)
  · exact .of_fields

theorem State.finishRequest_sameUnits (s : State) (r : LinkResult) (sec detail : Nat) :
    s.SameUnits (s.finishRequest r sec detail) := .of_fields

theorem State.takeEnterConfig_engine (s : State) : s.EngineTurn s.takeEnterConfig := by
  have henter : s.EngineTurn (s.enterConfigMode.commandResult .ok 1) :=
    State.EngineMove.config.turn.andSame (State.finishRequest_sameUnits _ _ _ _)
  have hanswer : ∀ r, s.EngineTurn (s.commandResult r 1) := fun r => (s.finishRequest_sameUnits r 14 1).turn
  unfold State.takeEnterConfig
  split
  · exact hanswer _
  · exact henter
  · split
    · exact henter
    · exact hanswer _
  · split
    · exact henter
    · exact hanswer _
  all_goals exact (State.SameUnits.refl s).turn

theorem State.takeResume_engine (s : State) : s.EngineTurn s.takeResume := by
  unfold State.takeResume
  split
  · rename_i h
    have hout : s.inService = false :=
      s.not_inService (fun hp => nomatch h.symm.trans hp) fun hp => nomatch h.symm.trans hp
    split
    · exact (State.EngineMove.run hout s.cfg).turn.andSame (State.finishRequest_sameUnits s.enterRun _ _ _)
    · exact (s.finishRequest_sameUnits _ _ _).turn
  · exact (s.finishRequest_sameUnits _ _ _).turn

theorem State.takeRelease_engine (s : State) (n : Nat) : s.EngineTurn (s.takeRelease n) := by
  unfold State.takeRelease
  split
  · rename_i h
    exact ((State.EngineMove.event (.release h)).turn.andSame (Event.finish_sameUnits _)).andSame
      (State.finishRequest_sameUnits _ _ _ _)
  · exact (s.finishRequest_sameUnits _ _ _).turn

theorem State.performCommand_engine (s : State) (request : List Byte) (code : Nat) (arg : Byte) :
    s.EngineTurn (s.performCommand request code arg) := by
  have plain : ∀ (k : Nat) (f : State → State), s.EngineTurn (f s) → s.EngineTurn (s.withoutArgument k arg f) := by
    intro k f hf
    unfold State.withoutArgument
    split
    · exact hf
    · exact (s.finishRequest_sameUnits _ _ _).turn
  unfold State.performCommand
  split
  · exact plain _ _ s.takeEnterConfig_engine
  · exact plain _ _ s.takeResume_engine
  · refine plain _ _ (State.SameUnits.turn ?_)
    unfold State.takeStore
    split <;> exact .of_fields
  · refine plain _ _ (State.SameUnits.turn ?_)
    unfold State.takeLoad
    split <;> exact .of_fields
  · split
    · exact (s.finishRequest_sameUnits _ _ _).turn
    · exact s.takeRelease_engine _
  · exact plain _ _ (State.SameUnits.of_fields (t := s.takeClearRecall)).turn
  · exact plain _ _ (State.EngineMove.reset s _).turn
  · exact (s.finishRequest_sameUnits _ _ _).turn

/-- A write of a section passes its checks out of service alone (R158). -/
theorem State.writeCheck_passes {s : State} {q : LinkRequest} (h : s.writeCheck q = none) : s.inService = false := by
  unfold State.writeCheck at h
  rw [Bool.eq_false_iff]
  intro hs
  rw [if_pos hs] at h
  split at h <;> exact absurd h nofun

theorem State.performRequest_engine (s : State) (request : List Byte) (q : LinkRequest) :
    s.EngineTurn (s.performRequest request q) := by
  unfold State.performRequest
  split
  · exact (s.finishRequest_sameUnits _ _ _).turn
  · split
    · exact (State.SameUnits.of_fields (t := s.performRead q)).turn
    · split
      · exact s.performCommand_engine _ _ _
      · split
        · exact (s.finishRequest_sameUnits _ _ _).turn
        · rename_i hcheck
          exact .configured (State.writeCheck_passes hcheck) _ (State.finishRequest_sameUnits _ _ _ _)

theorem State.linkTransfer_engine (s : State) (x : LinkTransfer) : s.EngineTurn (s.linkTransfer x) := by
  have haddress : s.SameUnits (s.answerAddress x.target) := .of_fields
  unfold State.linkTransfer
  dsimp only
  split
  · split
    · exact haddress.turn
    · split
      · exact haddress.andTurn (State.finishRequest_sameUnits _ _ _ _).turn
      · exact haddress.andTurn (State.performRequest_engine _ _ _)
  · exact haddress.turn

/-! ### Every command -/

/-- What `exec` answers is a turn of the engine. -/
def EngineTurnOf (s : State) (o : Host.Outcome State Fault Refusal) : Prop := ∃ t, o = complete t ∧ s.EngineTurn t

theorem engineTurnOf {s t : State} (h : s.EngineTurn t) : EngineTurnOf s (complete t) := ⟨t, rfl, h⟩

theorem engineTurnOf_same {s t : State} (h : s.SameUnits t) : EngineTurnOf s (complete t) := engineTurnOf h.turn

theorem engineTurnOf_idle (s : State) : EngineTurnOf s (complete s) := engineTurnOf_same (.refl s)

/-- A command that takes effect only under its condition. -/
theorem engineTurnOf_guarded {s t : State} {p : Prop} [Decidable p] (h : p → s.EngineTurn t) :
    EngineTurnOf s (if p then complete t else complete s) := by
  split
  · exact engineTurnOf (h ‹_›)
  · exact engineTurnOf_idle s

theorem engineTurnOf_powerUpEnd (s : State) (straps : BitVec 2) : EngineTurnOf s (execPowerUpEnd straps s) := by
  refine engineTurnOf_guarded fun h => State.SameUnits.turn (.of_fields (service := ?_))
  simp only [State.powerUpMayEnd, Bool.and_eq_true, beq_iff_eq] at h
  rw [State.inService, State.inService, h.1.1]
  rfl

theorem engineTurnOf_initialRefreshDone (s : State) : EngineTurnOf s (execInitialRefreshDone s) := by
  unfold execInitialRefreshDone
  split
  · rename_i hpart _
    refine engineTurnOf_same ?_
    split
    · refine .of_fields (service := ?_)
      rw [State.inService, State.inService, hpart]
      rfl
    · exact .of_fields
  · exact engineTurnOf_idle s

theorem engineTurnOf_scanWord (s : State) : EngineTurnOf s (execScanWord s) := by
  unfold execScanWord
  split
  · split
    · exact engineTurnOf_idle s
    · exact engineTurnOf_same (s.serveScanWord_sameUnits _)
  all_goals exact engineTurnOf_idle s

theorem engineTurnOf_storeDone (s : State) (faults : List (Nat × Word)) : EngineTurnOf s (execStoreDone faults s) := by
  unfold execStoreDone
  split
  · refine engineTurnOf_same ?_
    unfold State.endStore
    dsimp only
    split <;> exact .of_fields
  all_goals exact engineTurnOf_idle s

/-- A LOAD ends out of service, where it was taken (R157, R171). -/
theorem engineTurnOf_loadDone {s : State} (hjob : JobInv s) : EngineTurnOf s (execLoadDone s) := by
  unfold execLoadDone
  split
  · rename_i hload
    have hpart := hjob (by rw [hload]; nofun)
    have hout : s.inService = false := by
      rcases hpart with hp | hp <;> exact s.not_inService (by rw [hp]; nofun) (by rw [hp]; nofun)
    refine engineTurnOf ?_
    unfold State.endLoad
    split
    · exact .configured hout _ (State.finishRequest_sameUnits _ _ _ _)
    · exact (s.finishRequest_sameUnits _ _ _).turn
  all_goals exact engineTurnOf_idle s

theorem engineTurnOf_freshnessExpiry (s : State) (n : Nat) : EngineTurnOf s (execFreshnessExpiry n s) := by
  refine engineTurnOf_guarded fun h =>
    (State.EngineMove.event (.expiry fun hnone => ?_)).turn.andSame (Event.finish_sameUnits _)
  rw [State.freshnessDue, hnone] at h
  exact absurd h nofun

theorem engineTurnOf_deskOnInputChange (s : State) (high : Bool) : EngineTurnOf s (execDeskOnInputChange high s) := by
  refine engineTurnOf_same ?_
  unfold State.deskInput
  split <;> exact .of_fields

/-- Every command is a turn of the engine; LOAD_DONE is one where R157's place of a request is kept. -/
theorem exec_engine (c : Instr) (s : State) (hjob : c = .loadDone → JobInv s) : EngineTurnOf s (exec c s) := by
  cases c with
  | powerOn | supplyDip | resetLine => exact engineTurnOf (State.EngineMove.reset _ _).turn
  | powerUpEnd straps => exact engineTurnOf_powerUpEnd s straps
  | memoryInitPauseEnd => exact engineTurnOf_guarded fun _ => (State.SameUnits.of_fields).turn
  | initialRefreshDone => exact engineTurnOf_initialRefreshDone s
  | startupLoadDone =>
    exact engineTurnOf_guarded fun h => (State.startupLoad_engine h).andSame (State.releaseHeld_sameUnits _)
  | deskOnInputChange high => exact engineTurnOf_deskOnInputChange s high
  | deskOnFilterChange => exact engineTurnOf_guarded fun _ => s.deskChange_sameUnits.turn
  | millisecondTick =>
    unfold exec execMillisecondTick
    dsimp only
    split
    · exact engineTurnOf_idle s
    · exact engineTurnOf_same .of_fields
  | refreshTick => exact engineTurnOf_guarded fun _ => s.refreshTick_engine
  | arbiterGrant => exact engineTurnOf s.arbitrate_engine
  | refreshDone => exact engineTurnOf_guarded fun _ => (s.withPath_sameUnits _).turn
  | upstreamColumnDone => exact engineTurnOf_same s.columnDone_sameUnits
  | upstreamArrival r => exact engineTurnOf_same (s.arrive_sameUnits r)
  | statusWord0Read a => exact engineTurnOf_same (s.arrive_sameUnits _)
  | scanBurstArrival start count => exact engineTurnOf_same (s.arriveBurst_sameUnits start count)
  | scanWord => exact engineTurnOf_scanWord s
  | freshnessExpiry n => exact engineTurnOf_freshnessExpiry s n
  | changeoverTimerExpiry =>
    exact engineTurnOf_guarded fun h => (State.EngineMove.changeover h).turn.andSame (State.takeRequests_sameUnits _ _)
  | axlePulse | ackLineAsserted | ackLineReleased | readTransfer => exact engineTurnOf_same .of_fields
  | resetLineReleased | supplyGoodAfterDip => exact engineTurnOf_same .of_fields
  | axleWindowEnd | ackReleaseSettled => exact engineTurnOf_guarded fun _ => (State.SameUnits.of_fields).turn
  | ackPress => exact engineTurnOf_guarded fun _ => s.press_sameUnits.turn
  | postMessageWord | postRaise | postClear | postAck | badPost => exact engineTurnOf (s.deskWrite_engine _ _)
  | storeDone faults => exact engineTurnOf_storeDone s faults
  | loadDone => exact engineTurnOf_loadDone (hjob rfl)
  | linkAddressProbe | readRequest | sectionWrite | enterConfig | resume | store | load | release | clearRecall
  | restart | badCommand => exact engineTurnOf (s.linkTransfer_engine _)

theorem exec_engineTurn {c : Instr} {s t : State} (hjob : c = .loadDone → JobInv s) (h : exec c s = .next t) :
    s.EngineTurn t := by
  obtain ⟨u, e, hu⟩ := exec_engine c s hjob
  rw [e] at h
  cases h
  exact hu.andSame .of_fields

/-- A step is a turn of the engine: it idles or runs the front command. -/
theorem step_engineTurn {s t : State} (hjob : JobInv s) (h : step s = .next t) : s.EngineTurn t := by
  unfold step at h
  split at h
  · cases h
    exact (State.SameUnits.refl s).turn
  · rename_i rest _
    have hqueue : s.SameUnits (s.withPending rest) := .of_fields
    exact hqueue.andTurn (exec_engineTurn (fun _ => hjob) h)

end Sys2Proof.Machine
end

section
/-! PROOFS. A record shown VALID has its presented values: O9. -/

namespace Sys2Proof.Machine

/-! ### Presented values of one record -/

/-- The kind of record `n` has its presented values, whatever the record's status (R90, R114, R123). -/
def State.Presents (s : State) (n : Nat) : Prop :=
  (s.kind n = .speed → (s.speedKind n).presented ≠ none) ∧ (s.kind n = .aspect → (s.aspectKind n).shown ≠ none) ∧
    (s.kind n = .select → s.aspect.select.inForce ≠ none)

theorem presentedInv_iff (s : State) :
    PresentedInv s ↔ (s.inService = true → ∀ n, n < 24 → (s.record n).status = .valid → s.Presents n) := Iff.rfl

theorem presentedInv_out {s : State} (h : s.inService = false) : PresentedInv s := fun hs => by
  rw [h] at hs
  cases hs

/-- Presented values that are there stay where the tables stay and what is presented does. -/
theorem State.Presents.congr {s t : State} {n : Nat} (h : s.Presents n) (hkind : t.kind n = s.kind n)
    (hspeed : (t.speedKind n).presented = (s.speedKind n).presented)
    (hshown : (t.aspectKind n).shown = (s.aspectKind n).shown)
    (hforce : s.aspect.select.inForce ≠ none → t.aspect.select.inForce ≠ none) : t.Presents n := by
  obtain ⟨hs, ha, hf⟩ := h
  unfold State.Presents
  rw [hkind, hspeed, hshown]
  exact ⟨hs, ha, fun hk => hforce (hf hk)⟩

theorem State.SameUnits.presentedInv {s t : State} (h : s.SameUnits t) (hs : PresentedInv s) : PresentedInv t := by
  rw [presentedInv_iff] at hs ⊢
  intro ht n hn hv
  rw [h.service] at ht
  rw [State.record_congr h.recs] at hv
  refine State.Presents.congr (hs ht n hn hv) (by rw [State.kind, State.kind, h.cfg]) ?_ (h.kinds n).1
    (by rw [h.select]; exact id)
  rw [State.speedKind, State.speedKind, h.speeds]

/-- An event at record `n` keeps the invariant where the system in force stays, and record `n` has its presented values
where the event leaves it VALID. -/
theorem State.OnlyRecord.presentedInv {s t : State} {n : Nat} (h : s.OnlyRecord t n)
    (hforce : s.aspect.select.inForce ≠ none → t.aspect.select.inForce ≠ none)
    (hn : n < 24 → ((s.record n).status = .valid → s.Presents n) → (t.record n).status = .valid → t.Presents n)
    (hs : PresentedInv s) : PresentedInv t := by
  rw [presentedInv_iff] at hs ⊢
  intro ht m hm hv
  have hservice : t.inService = s.inService := by
    rw [State.inService, State.inService, State.part, State.part, h.sameFrame.ctl]
  rw [hservice] at ht
  by_cases hmn : m = n
  · subst hmn
    exact hn hm (hs ht m hm) hv
  · rw [h.records m hmn] at hv
    exact State.Presents.congr (hs ht m hm hv) (by rw [State.kind, State.kind, h.sameFrame.cfg])
      (congrArg SpeedKind.presented (h.speeds m hmn)) (congrArg AspectKind.shown (h.aspects m hmn)) hforce

/-! ### The system in force stays -/

theorem enterStale_select (s : State) (n : Nat) : (s.enterStale n).aspect.select = s.aspect.select :=
  discardKind_select _ n

theorem bar_select (s : State) (n : Nat) : (s.bar n).1.aspect.select = s.aspect.select := by
  refine (discardKind_select _ n).trans ?_
  unfold State.notifyIf
  split <;> rfl

theorem refuse_select (s : State) (n : Nat) (why : Reason) : (s.refuse n why).1.aspect.select = s.aspect.select := by
  have hnote : (s.noteRefusal n why).aspect.select = s.aspect.select := by rw [noteRefusal_frame]
  show ((s.noteRefusal n why).refuseStatus n).1.aspect.select = s.aspect.select
  rw [← hnote]
  unfold State.refuseStatus
  dsimp only
  split
  · exact bar_select _ n
  · split
    · exact enterStale_select _ n
    all_goals rfl

theorem expire_select (s : State) (n : Nat) : (s.expire n).1.aspect.select = s.aspect.select := by
  unfold State.expire
  split
  case h_1 | h_2 | h_4 => exact enterStale_select s n
  all_goals rfl

theorem overrunRecord_select (s : State) (n : Nat) : (s.overrunRecord n).1.aspect.select = s.aspect.select := by
  unfold State.overrunRecord
  split
  · split
    case h_1 | h_2 => exact enterStale_select s n
    all_goals rfl
  · rfl

/-- An accepted SELECT version leaves a system in force (R118). -/
theorem selectSystem_inForce (s : State) (q : Nat) : (s.selectSystem q).1.aspect.select.inForce ≠ none := by
  unfold State.selectSystem
  dsimp only
  split
  · nofun
  · rename_i hf
    split
    · nofun
    · split
      · nofun
      · exact fun h => nomatch hf.symm.trans h

theorem acceptKind_inForce (s : State) (n : Nat) (words : List Word) (h : s.aspect.select.inForce ≠ none) :
    (s.acceptKind n words).1.aspect.select.inForce ≠ none := by
  unfold State.acceptKind
  split
  case h_3 => exact selectSystem_inForce s _
  case h_2 =>
    unfold State.acceptAspect
    dsimp only
    split <;> exact h
  all_goals exact h

theorem enterValid_inForce (s : State) (n : Nat) (h : s.aspect.select.inForce ≠ none) :
    (s.enterValid n).1.aspect.select.inForce ≠ none := by
  unfold State.enterValid
  dsimp only
  split
  · unfold State.completeChangeover
    dsimp only
    split
    · nofun
    · exact h
  all_goals exact h

theorem acceptStatus_inForce (s : State) (n : Nat) (h : s.aspect.select.inForce ≠ none) :
    (s.acceptStatus n).1.aspect.select.inForce ≠ none := by
  unfold State.acceptStatus
  dsimp only
  split
  · exact enterValid_inForce s n h
  · exact h
  · split
    · exact enterValid_inForce s n h
    · exact h
  · split
    · exact enterValid_inForce s n h
    · exact h
  · exact h

/-! ### An acceptance computes the presented values (R83, R110, R118) -/

/-- An acceptance of an ASPECT record leaves a shown aspect: the one it carries, or the one shown before (R110,
R111). -/
theorem aspectComputation_shown (confirm sys n : Nat) (k : AspectKind) (x : Shown) (onEntry : Bool) :
    (aspectComputation confirm sys n k x onEntry).1.shown ≠ none := by
  have hupgrade : k.shown ≠ none → (upgradeAspect confirm k x).shown ≠ none := by
    intro h
    unfold upgradeAspect
    split
    · nofun
    · split
      · split
        · split
          · nofun
          · exact h
        · exact h
      · exact h
  unfold aspectComputation
  split
  · nofun
  · rename_i hold
    split
    · nofun
    · split
      · nofun
      · exact hupgrade (by rw [hold]; nofun)

/-- The kind computation of an acceptance, once the content check has passed (R47, R48). -/
theorem acceptKind_presents {s : State} {n : Nat} {words : List Word} (hspeeds : n < s.speed.kinds.length)
    (haspects : n < s.aspect.kinds.length) (hcontent : s.contentCheck n words = true) :
    (s.acceptKind n words).1.Presents n := by
  have hkind : (s.acceptKind n words).1.kind n = s.kind n := by
    rw [State.kind, State.kind, (State.acceptKind_only s n words).sameFrame.cfg]
  unfold State.Presents
  rw [hkind]
  refine ⟨fun hk => ?_, fun hk => ?_, fun hk => ?_⟩
  · rw [acceptKind_speed words hk, s.speedKind_setSpeedKind_self n _ hspeeds]
    nofun
  · have hfound : (s.cfg.findAspect (s.cfg.entry n).system (bits (at0 words 0) 7 0)).isSome = true := by
      simp only [State.contentCheck, hk, State.aspectContent, Bool.and_eq_true] at hcontent
      exact hcontent.1.2
    obtain ⟨e, he⟩ := Option.isSome_iff_exists.1 hfound
    simp only [State.acceptKind, hk, State.acceptAspect, he]
    rw [s.aspectKind_setAspectKind_self n _ haspects]
    exact aspectComputation_shown _ _ _ _ _ _
  · simp only [State.acceptKind, hk, State.acceptSelect]
    exact selectSystem_inForce s _

/-- The display status takes no presented values away (R63). -/
theorem acceptStatus_presents {s : State} {n : Nat} (h : s.Presents n) : (s.acceptStatus n).1.Presents n := by
  obtain ⟨hframe, -⟩ := acceptStatus_frame s n
  have hkinds : (s.acceptStatus n).1.aspect.kinds = s.aspect.kinds := by
    have hvalid : (s.enterValid n).1.aspect.kinds = s.aspect.kinds := by
      unfold State.enterValid
      dsimp only
      split
      · unfold State.completeChangeover
        dsimp only
        split <;> rfl
      all_goals rfl
    unfold State.acceptStatus
    dsimp only
    split
    case h_1 => exact hvalid
    case h_3 | h_4 =>
      split
      · exact hvalid
      · rfl
    all_goals rfl
  refine h.congr (by rw [hframe]; rfl) (by rw [hframe]; rfl) ?_ (acceptStatus_inForce s n)
  rw [State.aspectKind, State.aspectKind, hkinds]

theorem accept_presents {s : State} {n : Nat} {words : List Word} (seq : Byte) (hspeeds : n < s.speed.kinds.length)
    (haspects : n < s.aspect.kinds.length) (hcontent : s.contentCheck n words = true) :
    (s.accept n seq words).1.Presents n :=
  acceptStatus_presents (acceptKind_presents (s := s.setRecord n ((s.record n).accept seq)) hspeeds haspects hcontent)

theorem accept_inForce (s : State) (n : Nat) (seq : Byte) (words : List Word) (h : s.aspect.select.inForce ≠ none) :
    (s.accept n seq words).1.aspect.select.inForce ≠ none :=
  acceptStatus_inForce _ n (acceptKind_inForce (s.setRecord n ((s.record n).accept seq)) n words h)

/-- A close that passes its checks has passed the content check (R45, R47). -/
theorem closeCheck_content {s : State} {n : Nat} {crc : Byte} {words : List Word} {w : Word}
    (h : s.closeCheck n crc words w = none) : s.contentCheck n words = true := by
  unfold State.closeCheck at h
  split at h
  · cases h
  · split at h
    · cases h
    · split at h
      · assumption
      · cases h

/-! ### Every move of the engine -/

/-- The lists of the records and of their kind states have their fixed length. -/
def State.UnitsShaped (s : State) : Prop :=
  s.recs.length = 24 ∧ s.speed.kinds.length = 24 ∧ s.aspect.kinds.length = 24

theorem ShapeInv.units {s : State} (h : ShapeInv s) : s.UnitsShaped := by
  obtain ⟨-, -, hrecs, hspeeds, haspects, -⟩ := h
  exact ⟨hrecs, hspeeds, haspects⟩

theorem State.SameUnits.shaped {s t : State} (h : s.SameUnits t) (hs : s.UnitsShaped) : t.UnitsShaped := by
  rwa [State.UnitsShaped, h.recs, h.speeds, h.aspects]

theorem State.OnlyRecord.shaped {s t : State} {n : Nat} (h : s.OnlyRecord t n) (hs : s.UnitsShaped) :
    t.UnitsShaped := by
  rwa [State.UnitsShaped, h.recsLength, h.speedsLength, h.aspectsLength]

section
variable {s : State} {n : Nat}

/-- After a refusal only a record whose status has not been touched is VALID (R65, R66). -/
theorem refuseStatus_valid (hn : n < s.recs.length) (hv : ((s.refuseStatus n).1.record n).status = .valid) :
    (s.refuseStatus n).1 = s := by
  unfold State.refuseStatus at hv ⊢
  dsimp only at hv ⊢
  split at hv
  · rw [bar_record hn] at hv
    cases hv
  · rename_i hlimit
    rw [if_neg hlimit]
    cases hs : (s.record n).status with
    | recovering =>
      simp only [hs] at hv
      rw [enterStale_record hn] at hv
      cases hv
    | _ => rfl

/-- A refusal that leaves the record VALID leaves its presented values (R49, R66). -/
theorem refuse_presents (hn : n < s.recs.length) (haspects : n < s.aspect.kinds.length) (why : Reason)
    (hs : (s.record n).status = .valid → s.Presents n) (hv : ((s.refuse n why).1.record n).status = .valid) :
    (s.refuse n why).1.Presents n := by
  have hlen : n < (s.noteRefusal n why).recs.length := by rw [noteRefusal_only.recsLength]; exact hn
  have hframe := noteRefusal_frame (s := s) (n := n) (why := why)
  have hnoted : (s.record n).status = .valid → (s.noteRefusal n why).Presents n := fun h => by
    refine (hs h).congr (noteRefusal_kind n) (by rw [hframe]; rfl) ?_ (by rw [hframe]; exact id)
    rw [noteRefusal_aspectKind haspects]
    split <;> rfl
  have hstatus : ((s.noteRefusal n why).record n).status = (s.record n).status := by rw [noteRefusal_record hn]; rfl
  have hrefuse : s.refuse n why = (s.noteRefusal n why).refuseStatus n := rfl
  rw [← hstatus] at hnoted
  rw [hrefuse] at hv ⊢
  have hsame := refuseStatus_valid hlen hv
  rw [hsame] at hv ⊢
  exact hnoted hv

theorem refuse_presentedInv (hshaped : s.UnitsShaped) (why : Reason) (h : PresentedInv s) :
    PresentedInv (s.refuse n why).1 := by
  obtain ⟨hrecs, -, haspects⟩ := hshaped
  exact (s.refuse_only n why).presentedInv (by rw [refuse_select]; exact id)
    (fun hn => refuse_presents (by omega) (by omega) why) h

/-- A version that is opened or extended is not shown yet (R41, R42). -/
theorem setWrite_presentedInv (w : WriteState) (h : PresentedInv s) : PresentedInv (s.setWrite n w) := by
  refine (s.setRecord_only n _).presentedInv id (fun hn hs hv => ?_) h
  refine hs ?_
  by_cases hl : n < s.recs.length
  · rw [s.record_setRecord_self n _ hl] at hv
    exact hv
  · rw [State.record_past (by simpa using hl)] at hv
    cases hv

theorem close_presentedInv (hshaped : s.UnitsShaped) (crc : Byte) (words : List Word) (w : Word) (h : PresentedInv s) :
    PresentedInv (s.close n crc words w).1 := by
  unfold State.close
  split
  · exact refuse_presentedInv hshaped _ h
  · rename_i hcheck
    obtain ⟨-, hspeeds, haspects⟩ := hshaped
    exact (s.accept_only n _ _).presentedInv (accept_inForce s n _ words)
      (fun hn _ _ => accept_presents _ (by omega) (by omega) (closeCheck_content hcheck)) h

theorem writeStep_presentedInv (hshaped : s.UnitsShaped) (k : Nat) (w : Word) (h : PresentedInv s) :
    PresentedInv (s.writeStep n k w).1 := by
  unfold State.writeStep
  split
  · exact setWrite_presentedInv _ h
  · split
    · exact refuse_presentedInv hshaped _ h
    · split
      · exact refuse_presentedInv hshaped _ h
      · split
        · exact close_presentedInv hshaped _ _ _ h
        · exact setWrite_presentedInv _ h

/-- An event of the engine keeps the invariant: an expiry and a RELEASE leave no record VALID. -/
theorem State.EngineEvent.presentedInv {e : Event} (he : s.EngineEvent n e) (hshaped : s.UnitsShaped)
    (h : PresentedInv s) : PresentedInv e.1 := by
  cases he with
  | write _ k w => exact writeStep_presentedInv hshaped k w h
  | expiry =>
    refine (s.expire_only n).presentedInv (by rw [expire_select]; exact id) (fun hn _ hv => ?_) h
    rw [expire_record (hshaped.1.symm ▸ hn)] at hv
    exact absurd hv ((s.record n).afterExpiry_status _)
  | release =>
    refine (s.releaseRecord_only n).presentedInv id (fun hn _ hv => ?_) h
    rw [releaseRecord_record (hshaped.1.symm ▸ hn)] at hv
    cases hv

/-- An overrun makes a record STALE or leaves it with its kind state (R68, R74). -/
theorem overrunRecord_presentedInv (hshaped : s.UnitsShaped) (h : PresentedInv s) :
    PresentedInv (s.overrunRecord n).1 := by
  by_cases hf : s.Falls n
  · refine (s.overrunRecord_only n).presentedInv (by rw [overrunRecord_select]; exact id) (fun hn _ hv => ?_) h
    have hstale : ((s.enterStale n).record n).status = .stale := by rw [enterStale_record (hshaped.1.symm ▸ hn)]
    obtain ⟨hvalid, hother⟩ := overrunRecord_falls s n hf
    by_cases hs : (s.record n).status = .valid
    · rw [hvalid hs] at hv
      exact nomatch hstale.symm.trans hv
    · rw [hother hs] at hv
      exact nomatch hstale.symm.trans hv
  · rw [overrunRecord_stays s n hf]
    exact h

theorem overrunRecords_presentedInv (hshaped : s.UnitsShaped) (h : PresentedInv s) :
    PresentedInv s.overrunRecords.1 := by
  have fold : ∀ (ns : List Nat) (e : Event), e.1.UnitsShaped → PresentedInv e.1 →
      PresentedInv (ns.foldl (fun e n => Event.andThen e fun s => s.overrunRecord n) e).1 := by
    intro ns
    induction ns with
    | nil => exact fun _ _ h => h
    | cons m ns ih =>
      exact fun e he h => ih _ ((e.1.overrunRecord_only m).shaped he) (overrunRecord_presentedInv he h)
  exact fold _ (s, []) hshaped h

end

/-- At an entry to RUN every record is EMPTY (R167). -/
theorem enterRun_status (s : State) {n : Nat} (hn : n < 24) : (s.enterRun.record n).status = .empty := by
  have hrecs : s.enterRun.recs = s.runEvent.recs := by
    unfold State.enterRun
    split <;> rfl
  have hlen : n < recordIndices.length := hn
  rw [State.record_congr (s := s.runEvent) hrecs]
  simp [State.record, State.runEvent, State.recordAtRun, List.getD_eq_getElem?_getD, hlen, RecordState.reset]

/-- Every move of the engine keeps the invariant. -/
theorem State.EngineMove.presentedInv {s t : State} (hmove : s.EngineMove t) (hshaped : s.UnitsShaped)
    (h : PresentedInv s) : PresentedInv t := by
  cases hmove with
  | stay => exact h
  | event he => exact he.presentedInv hshaped h
  | overrun => exact overrunRecords_presentedInv hshaped h
  | changeover => exact h
  | configured hout c => exact presentedInv_out hout
  | config => exact presentedInv_out rfl
  | run =>
    intro _ n hn hv
    rw [enterRun_status _ hn] at hv
    cases hv
  | reset => exact presentedInv_out rfl

/-- Settles O9: a step makes at most one move of the engine (`step_engineTurn`), and each move keeps the invariant: an
acceptance computes the presented values (`accept_presents`), and what discards them leaves the record not VALID. -/
theorem everyStepKeepsPresentedValues : Obligations.EveryStepKeepsPresentedValues := by
  intro s t hs hshape hjob h
  obtain ⟨u, v, hbefore, hmove, hafter⟩ := step_engineTurn hjob h
  have hu := hbefore.presentedInv hs
  exact hafter.presentedInv (hmove.presentedInv (hbefore.shaped hshape.units) hu)

end Sys2Proof.Machine
end

section
/-! PROOFS. Speeds as functions: the display (O42), the supervision class (O43) and the axle windows (O46). -/

namespace Sys2Proof.Machine

/-! ### The speed settings (Table 5.1) -/

theorem speedSettings_is (c : Sections) (n : Nat) : SpeedSettingsIs c n (c.speedSettings n) := by
  have h0 := (at0 c.speeds (4 * n)).isLt
  have h1 := (at0 c.speeds (4 * n + 1)).isLt
  have h2 := (at0 c.speeds (4 * n + 2)).isLt
  have h3 := (at0 c.speeds (4 * n + 3)).isLt
  simp only [SpeedSettingsIs, Sections.speedSettings, bits_eq, Nat.add_zero]
  omega

/-! ### The slewed speed (R85) -/

section
variable (st : SpeedSettings) (vc : Nat) (now : Time) {p : Previous}

theorem slewed_none : slewed st none vc now = vc := rfl

theorem slewed_up (h : p.slewed ≤ vc) :
    slewed st (some p) vc now = min vc (p.slewed + slewStep st (elapsed p.time now)) := if_pos h

theorem slewed_down (h : vc < p.slewed) :
    slewed st (some p) vc now = max vc (p.slewed - slewStep st (elapsed p.time now)) := if_neg (by omega)

/-- The slewed speed lies between the previous one and the clamped speed. -/
theorem slewed_between (p : Previous) :
    (p.slewed ≤ vc → p.slewed ≤ slewed st (some p) vc now ∧ slewed st (some p) vc now ≤ vc) ∧
      (vc < p.slewed → vc ≤ slewed st (some p) vc now ∧ slewed st (some p) vc now ≤ p.slewed) := by
  refine ⟨fun h => ?_, fun h => ?_⟩
  · rw [slewed_up st vc now h]
    omega
  · rw [slewed_down st vc now h]
    omega

/-- The slewed speed does not pass a bound that the clamped speed and the previous slewed speed keep. -/
theorem slewed_le {bound : Nat} (prev : Option Previous) (hvc : vc ≤ bound)
    (hprev : ∀ p, prev = some p → p.slewed ≤ bound) : slewed st prev vc now ≤ bound := by
  cases prev with
  | none => exact hvc
  | some p =>
    obtain ⟨hup, hdown⟩ := slewed_between st vc now p
    rcases Nat.lt_or_ge vc p.slewed with h | h
    · exact (hdown h).2.trans (hprev p rfl)
    · exact (hup h).2.trans hvc

end

/-! ### The displayed speed (R86) -/

section
variable (st : SpeedSettings) {vs : Nat} {p : Previous}

theorem displayedSpeed_zero (prev : Option Previous) : displayedSpeed st prev 0 = 0 := rfl

theorem displayedSpeed_none (vs : Nat) : displayedSpeed st none vs = if vs = 0 then 0 else (vs + 8) / 16 := rfl

theorem displayedSpeed_above (hvs : 0 < vs) (h : (vs + 8) / 16 = p.displayed + 1) :
    displayedSpeed st (some p) vs =
      if 16 * p.displayed + 8 + st.hysteresis ≤ vs then (vs + 8) / 16 else p.displayed := by
  unfold displayedSpeed
  rw [if_neg (by omega)]
  dsimp only
  rw [if_pos h]

theorem displayedSpeed_below (hvs : 0 < vs) (h : (vs + 8) / 16 + 1 = p.displayed) :
    displayedSpeed st (some p) vs =
      if vs + 8 + st.hysteresis ≤ 16 * p.displayed then (vs + 8) / 16 else p.displayed := by
  unfold displayedSpeed
  rw [if_neg (by omega)]
  dsimp only
  rw [if_neg (by omega), if_pos h]

/-- The hysteresis holds a displayed speed that the nearest one is next to, and no other. -/
theorem displayedSpeed_nearest (hvs : 0 < vs) (habove : (vs + 8) / 16 ≠ p.displayed + 1)
    (hbelow : (vs + 8) / 16 + 1 ≠ p.displayed) : displayedSpeed st (some p) vs = (vs + 8) / 16 := by
  unfold displayedSpeed
  rw [if_neg (by omega)]
  dsimp only
  rw [if_neg habove, if_neg hbelow]

/-- The displayed speed is 0, the nearest whole speed or the one displayed before. -/
theorem displayedSpeed_cases (prev : Option Previous) (vs : Nat) : displayedSpeed st prev vs = 0 ∨
    displayedSpeed st prev vs = (vs + 8) / 16 ∨ ∃ p, prev = some p ∧ displayedSpeed st prev vs = p.displayed := by
  rcases Nat.eq_zero_or_pos vs with rfl | hvs
  · exact .inl rfl
  · cases prev with
    | none => exact .inr (.inl (if_neg (by omega)))
    | some p =>
      by_cases habove : (vs + 8) / 16 = p.displayed + 1
      · rw [displayedSpeed_above st hvs habove]
        split
        · exact .inr (.inl rfl)
        · exact .inr (.inr ⟨p, rfl, rfl⟩)
      · by_cases hbelow : (vs + 8) / 16 + 1 = p.displayed
        · rw [displayedSpeed_below st hvs hbelow]
          split
          · exact .inr (.inl rfl)
          · exact .inr (.inr ⟨p, rfl, rfl⟩)
        · exact .inr (.inl (displayedSpeed_nearest st hvs habove hbelow))

theorem displayedSpeed_le {prev : Option Previous} (hvs : vs ≤ 16 * st.scaleEnd)
    (hprev : ∀ p, prev = some p → p.displayed ≤ st.scaleEnd) : displayedSpeed st prev vs ≤ st.scaleEnd := by
  rcases displayedSpeed_cases st prev vs with h | h | ⟨p, hp, h⟩ <;> rw [h]
  · exact Nat.zero_le _
  · omega
  · exact hprev p hp

end

/-! ### The needle (R87) -/

theorem needle_eq (st : SpeedSettings) (vs : Nat) : needle st vs = 1000 * vs / (16 * st.scaleEnd) := rfl

theorem needle_le {st : SpeedSettings} {vs : Nat} (hvs : vs ≤ 16 * st.scaleEnd) : needle st vs ≤ 1000 := by
  rw [needle_eq]
  exact Nat.div_le_of_le_mul (by omega)

theorem needle_scaleEnd {st : SpeedSettings} (h : 0 < st.scaleEnd) : needle st (16 * st.scaleEnd) = 1000 := by
  rw [needle_eq]
  exact Nat.mul_div_cancel _ (by omega)

/-- Settles O42: the equations of `slewed` and `displayedSpeed` case by case, and the bound each of them keeps. -/
theorem displayNeverExceedsTheScale : Obligations.DisplayNeverExceedsTheScale := by
  refine ⟨speedSettings_is, fun st prev vc vs now => ⟨needle_eq st vs, ?_, ?_⟩, ?_⟩
  · rintro rfl
    exact ⟨slewed_none st vc now, displayedSpeed_none st vs⟩
  · rintro p rfl
    refine ⟨slewed_up st vc now, slewed_down st vc now, ?_, fun hvs => ⟨fun h => ?_, ?_, ?_, fun h => ?_⟩⟩
    · rintro rfl
      exact displayedSpeed_zero st _
    · exact displayedSpeed_nearest st hvs (by omega) (by omega)
    · exact displayedSpeed_above st hvs
    · exact displayedSpeed_below st hvs
    · exact (displayedSpeed_nearest st hvs (by omega) (by omega)).trans h
  · intro st prev va now hscale hprev vc vs
    have hvs : vs ≤ 16 * st.scaleEnd := slewed_le st vc now prev (Nat.min_le_right _ _) fun p hp => (hprev p hp).1
    refine ⟨hvs, displayedSpeed_le st hvs fun p hp => (hprev p hp).2, needle_le hvs, fun hend => ?_, ?_⟩
    · rw [hend]
      exact needle_scaleEnd hscale
    · rintro p rfl
      exact slewed_between st vc now p

/-! ### The supervision class (R88, R89) -/

section
variable {st : SpeedSettings} {vc vp : Nat}

/-- Warning settings that do not pass the intervention settings give such margins (R88, R168). -/
theorem warningMargin_le (habs : st.warnAbs ≤ st.intAbs) (hprop : st.warnProp ≤ st.intProp) (vp : Nat) :
    warningMargin st vp ≤ interventionMargin st vp :=
  max_le_max (Nat.mul_le_mul_left 16 habs) (Nat.div_le_div_right (Nat.mul_le_mul_left vp hprop))

theorem supervision_none (vt : Nat) : supervision st vc 65535 vt = 0 := rfl

/-- At or below the permitted speed the target decides. -/
theorem supervision_within (vt : Nat) (hp : vp ≠ 65535) (h : vc ≤ vp) :
    supervision st vc vp vt = if vt ≠ 65535 ∧ vt < vp then 2 else 1 := by
  have hpermitted : vp ≠ speedNone := hp
  rw [supervision, if_neg hpermitted, if_pos h]
  rfl

/-- Above the permitted speed the margins decide. -/
theorem supervision_over (vt : Nat) (hp : vp ≠ 65535) (h : vp < vc) :
    supervision st vc vp vt = if vc ≤ vp + warningMargin st vp then 3
      else if vc ≤ vp + interventionMargin st vp then 4 else 5 := by
  have hpermitted : vp ≠ speedNone := hp
  rw [supervision, if_neg hpermitted, if_neg (by omega)]

end

/-- Settles O43: the permitted speed is none, is kept (`supervision_within`) or is exceeded (`supervision_over`). -/
theorem supervisionClassByTheTable : Obligations.SupervisionClassByTheTable := by
  intro st vc vp vt mw mi habs hprop
  have hmargins : mw ≤ mi := warningMargin_le habs hprop vp
  refine ⟨hmargins, ?_⟩
  by_cases hp : vp = 65535
  · rw [hp, supervision_none]
    omega
  · rcases Nat.lt_or_ge vp vc with h | h
    · have hclass : supervision st vc vp vt = if vc ≤ vp + mw then 3 else if vc ≤ vp + mi then 4 else 5 :=
        supervision_over vt hp h
      split at hclass
      · omega
      · split at hclass <;> omega
    · have hclass := supervision_within (st := st) vt hp h
      split at hclass <;> omega

/-! ### Axle windows (R93 to R95) -/

section
variable {x : Axle} {w : AxleWindow}

theorem Axle.pulse_running (h : x.running = some w) :
    x.pulse = { x with running := some { start := w.start, count := min 65535 (w.count + 1) } } := by
  have hcount : (if w.count < 65535 then w.count + 1 else 65535) = min 65535 (w.count + 1) := by
    split <;> omega
  rw [Axle.pulse, h]
  dsimp only
  rw [hcount]

theorem Axle.pulse_stopped (h : x.running = none) : x.pulse = x := by rw [Axle.pulse, h]

theorem Axle.endWindow_running (now : Time) (h : x.running = some w) : x.endWindow now =
    { x with history := (w.count :: x.history).take 2, vx := x.speedOf w.count,
             running := some { start := now, count := 0 } } := by
  rw [Axle.endWindow, h]

/-- A window is due once it has lasted its length. -/
theorem Axle.windowDue_iff (now : Time) :
    x.windowDue now = true ↔ ∃ w, x.running = some w ∧ x.window ≤ (now - w.start).toNat := by
  unfold Axle.windowDue
  cases x.running with
  | none => simp
  | some w =>
    simp only [Option.some.injEq, exists_eq_left']
    exact decide_eq_true_iff

end

theorem withSpeed_self (s : State) : s.withSpeed { s.speed with axle := s.speed.axle } = s := rfl

/-- Settles O46: a pulse and a due end change the axle unit by its equations, and an end that is not due changes
nothing. -/
theorem axleWindowsCountAndGiveSpeed : Obligations.AxleWindowsCountAndGiveSpeed := by
  refine fun s => ⟨fun w hw => ⟨_, rfl, ?_, rfl⟩, fun hstopped => ?_, fun w hw hlong => ?_, fun hshort => ?_⟩
  · exact congrArg (fun x => { s.speed with axle := x }) (Axle.pulse_running hw)
  · refine answers_same (congrArg complete ?_)
    rw [Axle.pulse_stopped hstopped, withSpeed_self]
  · have hdue := (Axle.windowDue_iff s.now).2 ⟨w, hw, hlong⟩
    exact ⟨_, if_pos hdue, rfl, Axle.endWindow_running s.now hw, rfl⟩
  · refine answers_same (if_neg fun hdue => ?_)
    obtain ⟨w, hw, hlong⟩ := (Axle.windowDue_iff s.now).1 hdue
    exact absurd hlong (Nat.not_le.2 (hshort w hw))

end Sys2Proof.Machine
end

section
/-! PROOFS. The effective aspect, the main aspect and the presented words: O44. -/

namespace Sys2Proof.Machine

/-! ### The ASPECT record of a system (R115) -/

theorem State.isAspectOf_iff (s : State) (y n : Nat) :
    s.isAspectOf y n = true ↔ s.kind n = .aspect ∧ (s.cfg.entry n).system = y := by
  rw [State.isAspectOf, Bool.and_eq_true, beq_iff_eq, beq_iff_eq]

theorem aspectRecord_iff (s : State) (y n : Nat) : s.aspectRecord y = some n ↔ AspectRecordOf s y n := by
  rw [State.aspectRecord, recordIndices, List.find?_range_eq_some, AspectRecordOf, List.mem_range, s.isAspectOf_iff]
  simp only [Bool.not_eq_true', Bool.eq_false_iff, ne_eq, s.isAspectOf_iff]
  tauto

/-! ### The effective aspect (R115) -/

/-- Every system contributes under its own number. -/
theorem effective_source (s : State) (y : Nat) : (s.effective y).source = y := by
  unfold State.effective
  split
  · rfl
  · split
    · split <;> rfl
    · rfl

theorem effective_valid {s : State} {y n : Nat} {x : Shown} (hn : s.aspectRecord y = some n)
    (hv : (s.record n).status = .valid) (hx : (s.aspectKind n).shown = some x) :
    s.effective y = { rank := x.rank, symbol := x.symbol, flash := x.flash, source := y } := by
  simp only [State.effective, hn, hv, if_true, hx]

/-- A system without a VALID record contributes its stale symbol. -/
theorem effective_notValid {s : State} {y : Nat} (h : s.systemValid y = false) : s.effective y = s.staleAspect y := by
  unfold State.systemValid at h
  unfold State.effective
  split
  · rfl
  · rename_i n hn
    rw [hn] at h
    rw [if_neg (by simpa using h)]

theorem staleAspect_eq (s : State) (y : Nat) : s.staleAspect y =
    { rank := 0, symbol := (s.cfg.aspectHeader y).toNat % 256, flash := false, source := y } := by
  rw [State.staleAspect, Sections.staleSymbol, bits_low]

theorem effective_is (s : State) (y : Nat) : EffectiveIs s y (s.effective y) := by
  refine ⟨fun n x hn hv hx => effective_valid ((aspectRecord_iff s y n).2 hn) hv hx, fun hnone => ?_⟩
  have hstale : s.systemValid y = false := by
    unfold State.systemValid
    split
    · rename_i n hn
      simpa using hnone n ((aspectRecord_iff s y n).1 hn)
    · rfl
  rw [effective_notValid hstale, staleAspect_eq]

/-! ### The main aspect (R123) -/

section
variable {s : State} {f q : Nat}

theorem mainAspect_settled (hf : s.aspect.select.inForce = some f) (hq : s.aspect.select.requested = some q)
    (h : s.aspect.select.changeover = false) : s.mainAspect = some (s.effective f) := by
  simp only [State.mainAspect, hf, hq, h, Bool.false_eq_true, if_false]

theorem mainAspect_changeover (hf : s.aspect.select.inForce = some f) (hq : s.aspect.select.requested = some q)
    (h : s.aspect.select.changeover = true) : s.mainAspect =
      if (s.effective f).rank < (s.effective q).rank then some (s.effective f) else some (s.effective q) := by
  simp only [State.mainAspect, hf, hq, h, if_true]

theorem mainAspect_changeover_lower (hf : s.aspect.select.inForce = some f) (hq : s.aspect.select.requested = some q)
    (h : s.aspect.select.changeover = true) :
    ((s.effective f).rank < (s.effective q).rank → s.mainAspect = some (s.effective f)) ∧
      ((s.effective q).rank ≤ (s.effective f).rank → s.mainAspect = some (s.effective q)) := by
  rw [mainAspect_changeover hf hq h]
  exact ⟨fun hlt => if_pos hlt, fun hle => if_neg (by omega)⟩

/-- During a changeover in service the requested system's record is not VALID, so its stale aspect is the main one
(R115, R118, R123). -/
theorem mainAspect_changeover_inService (hinv : SelectionInv s) (hf : s.aspect.select.inForce = some f)
    (hq : s.aspect.select.requested = some q) (h : s.aspect.select.changeover = true) (hs : s.inService = true) :
    s.mainAspect = some (s.staleAspect q) := by
  obtain ⟨-, -, hactive⟩ := hinv
  obtain ⟨_, q', -, hq', -, hstale⟩ := hactive h
  cases hq.symm.trans hq'
  have heffective := effective_notValid (hstale hs)
  rw [← heffective]
  refine (mainAspect_changeover_lower hf hq h).2 ?_
  rw [heffective]
  exact Nat.zero_le _

end

/-! ### The presented words (R90, R114, R124) -/

/-- The flag of a value that may be absent. -/
theorem flagBit_isSome {α : Type} (o : Option α) (i : Nat) : flagBit o.isSome i = if o = none then 0 else 2 ^ i := by
  cases o <;> rfl

theorem anyAwaiting_iff (s : State) :
    s.anyAwaiting = true ↔ ∃ i, i < 24 ∧ s.kind i = .aspect ∧ (s.aspectKind i).awaiting = true := by
  simp [State.anyAwaiting, recordIndices]

/-- The words a record presents are those of its table. -/
theorem presented_is {s : State} {n : Nat} {ws : List Word} (h : s.presented n = some ws) : PresentedIs s n ws := by
  unfold State.presented at h
  unfold PresentedIs
  cases hk : s.kind n <;> rw [hk] at h <;> dsimp only at h ⊢
  case speed =>
    cases hp : (s.speedKind n).presented <;> rw [hp] at h <;> cases h
    exact ⟨_, rfl, rfl⟩
  case aspect =>
    unfold AspectKind.presented at h
    cases hx : (s.aspectKind n).shown <;> rw [hx] at h <;> cases h
    refine ⟨_, _, _, rfl, rfl, word_toNat _, ?_⟩
    rw [word_toNat, flagBit_isSome]
    rfl
  case select =>
    unfold State.selectPresented at h
    cases hm : s.mainAspect with
    | none => rw [hm] at h; cases h
    | some m =>
      rw [hm] at h
      cases h
      obtain ⟨f, q, hf, hq⟩ :
          ∃ f q, s.aspect.select.inForce = some f ∧ s.aspect.select.requested = some q := by
        unfold State.mainAspect at hm
        split at hm
        · exact ⟨_, _, ‹_›, ‹_›⟩
        · cases hm
      refine ⟨m, f, q, _, _, _, s.anyAwaiting, rfl, hf, hq, rfl, anyAwaiting_iff s, word_toNat _, ?_, ?_⟩
      · rw [word_toNat, Nat.mul_comm 16]
        rfl
      · rw [word_toNat, hf, hq, Nat.mul_comm 256]
        rfl
  all_goals cases h

/-- Settles O44: `effective_is`, the presented words both ways, and the main aspect with a changeover or without one. -/
theorem mainAspectIsNeverMorePermissive : Obligations.MainAspectIsNeverMorePermissive := by
  refine ⟨fun s => ⟨effective_is s, fun n ws => ⟨presented_is, presented_of_is⟩, fun f q hf hq =>
    ⟨mainAspect_settled hf hq, mainAspect_changeover_lower hf hq⟩⟩, fun s f q m hinv hf hq hm => ?_⟩
  cases hactive : s.aspect.select.changeover with
  | false =>
    obtain rfl : s.effective f = m := Option.some.inj ((mainAspect_settled hf hq hactive).symm.trans hm)
    exact ⟨Nat.le_refl _, fun _ => ⟨rfl, effective_source s f⟩, nofun⟩
  | true =>
    obtain ⟨hforce, hrequested⟩ := mainAspect_changeover_lower hf hq hactive
    have hranks : m.rank ≤ (s.effective f).rank ∧ m.rank ≤ (s.effective q).rank := by
      rcases Nat.lt_or_ge (s.effective f).rank (s.effective q).rank with hlt | hle
      · obtain rfl : s.effective f = m := Option.some.inj ((hforce hlt).symm.trans hm)
        exact ⟨Nat.le_refl _, Nat.le_of_lt hlt⟩
      · obtain rfl : s.effective q = m := Option.some.inj ((hrequested hle).symm.trans hm)
        exact ⟨hle, Nat.le_refl _⟩
    refine ⟨hranks.1, nofun, fun _ => ⟨hranks.2, fun hs => ?_⟩⟩
    have hstale := mainAspect_changeover_inService hinv hf hq hactive hs
    rw [← staleAspect_eq]
    exact Option.some.inj (hm.symm.trans hstale)

end Sys2Proof.Machine
end

section
/-! PROOF SUPPORT. What an acceptance does to the aspect unit, case by case: an ASPECT record's kind state (R110, R111)
and the selection (R118). -/

namespace Sys2Proof.Machine

/-! ### An upgrade (R111) -/

section
variable {confirm : Nat} {k : AspectKind} {x : Shown} {u : PendingUpgrade}

theorem upgradeAspect_once (k : AspectKind) (x : Shown) :
    upgradeAspect 1 k x = { k with shown := some x, upgrade := none } := rfl

theorem upgradeAspect_confirms (hu : k.upgrade = some u) (hcode : u.code = x.code) (hcount : u.count + 1 = confirm) :
    upgradeAspect confirm k x = { k with shown := some x, upgrade := none } := by
  unfold upgradeAspect
  simp [hu, hcode, hcount]

theorem upgradeAspect_counts (hconfirm : confirm ≠ 1) (hu : k.upgrade = some u) (hcode : u.code = x.code)
    (hcount : u.count + 1 ≠ confirm) :
    upgradeAspect confirm k x = { k with upgrade := some { code := x.code, count := u.count + 1 } } := by
  unfold upgradeAspect
  simp [hconfirm, hu, hcode, hcount]

theorem upgradeAspect_begins (hconfirm : confirm ≠ 1) (hu : ∀ u, k.upgrade = some u → u.code ≠ x.code) :
    upgradeAspect confirm k x = { k with upgrade := some { code := x.code, count := 1 } } := by
  unfold upgradeAspect
  rw [if_neg hconfirm]
  split
  · rename_i u hk
    rw [if_neg (hu u hk)]
  · rfl

/-- An upgrade is shown at its confirmation alone. -/
theorem upgradeAspect_cases (confirm : Nat) (k : AspectKind) (x : Shown) :
    (upgradeAspect confirm k x = { k with shown := some x, upgrade := none } ∧
      (confirm = 1 ∨ ∃ u, k.upgrade = some u ∧ u.code = x.code ∧ u.count + 1 = confirm)) ∨
    (upgradeAspect confirm k x).shown = k.shown := by
  by_cases hconfirm : confirm = 1
  · subst hconfirm
    exact .inl ⟨upgradeAspect_once k x, .inl rfl⟩
  · by_cases hpending : ∃ u, k.upgrade = some u ∧ u.code = x.code
    · obtain ⟨u, hu, hcode⟩ := hpending
      by_cases hcount : u.count + 1 = confirm
      · exact .inl ⟨upgradeAspect_confirms hu hcode hcount, .inr ⟨u, hu, hcode, hcount⟩⟩
      · exact .inr (by rw [upgradeAspect_counts hconfirm hu hcode hcount])
    · exact .inr (by rw [upgradeAspect_begins hconfirm fun u hu hcode => hpending ⟨u, hu, hcode⟩])

end

/-! ### The aspect computation by the ranks (R110) -/

section
variable {confirm sys n : Nat} {k : AspectKind} {x old : Shown} {onEntry : Bool}

theorem aspectComputation_first (h : k.shown = none) :
    aspectComputation confirm sys n k x onEntry = ({ k with shown := some x, upgrade := none }, []) := by
  rw [aspectComputation, h]

theorem aspectComputation_lower (h : k.shown = some old) (hrank : x.rank < old.rank) :
    aspectComputation confirm sys n k x onEntry =
      ({ k with shown := some x, upgrade := none }, if onEntry then [ackRequest sys n x.code] else []) := by
  rw [aspectComputation, h]
  exact if_pos hrank

theorem aspectComputation_equal (h : k.shown = some old) (hrank : x.rank = old.rank) :
    aspectComputation confirm sys n k x onEntry = ({ k with shown := some x, upgrade := none }, []) := by
  rw [aspectComputation, h]
  exact (if_neg (by omega)).trans (if_pos hrank)

theorem aspectComputation_higher (h : k.shown = some old) (hrank : old.rank < x.rank) :
    aspectComputation confirm sys n k x onEntry = (upgradeAspect confirm k x, []) := by
  rw [aspectComputation, h]
  exact (if_neg (by omega)).trans (if_neg (by omega))

/-- No acceptance moves the awaiting flag by itself (R112, R113). -/
theorem aspectComputation_awaiting : (aspectComputation confirm sys n k x onEntry).1.awaiting = k.awaiting := by
  have hupgrade : (upgradeAspect confirm k x).awaiting = k.awaiting := by
    unfold upgradeAspect
    split
    · rfl
    · split
      · split
        · split <;> rfl
        · rfl
      · rfl
  unfold aspectComputation
  split
  · rfl
  · split
    · rfl
    · split
      · rfl
      · exact hupgrade

/-- A shown rank that has risen is that of a confirmed upgrade (R111). -/
theorem aspectComputation_rises {new : Shown} (hold : k.shown = some old)
    (hnew : (aspectComputation confirm sys n k x onEntry).1.shown = some new) (hrank : old.rank < new.rank) :
    new = x ∧ (aspectComputation confirm sys n k x onEntry).1.upgrade = none ∧
      (confirm = 1 ∨ ∃ u, k.upgrade = some u ∧ u.code = x.code ∧ u.count + 1 = confirm) := by
  rcases Nat.lt_trichotomy x.rank old.rank with h | h | h
  · rw [aspectComputation_lower hold h] at hnew
    obtain rfl : x = new := Option.some.inj hnew
    omega
  · rw [aspectComputation_equal hold h] at hnew
    obtain rfl : x = new := Option.some.inj hnew
    omega
  · rw [aspectComputation_higher hold h] at hnew ⊢
    rcases upgradeAspect_cases confirm k x with ⟨hshows, hconfirmed⟩ | hstays
    · rw [hshows] at hnew ⊢
      exact ⟨(Option.some.inj hnew).symm, rfl, hconfirmed⟩
    · rw [hstays, hold] at hnew
      obtain rfl : old = new := Option.some.inj hnew
      omega

end

/-! ### The selection by the four cases of R118 -/

/-- The selection after a SELECT acceptance with requested system `q`, which is VALID or not, and its requests; a timer
started by it expires at `moment`. -/
def Selection.accept (x : Selection) (q : Nat) (valid : Bool) (moment : Time) : Selection × List PartRequest :=
  match x.inForce with
  | none => ({ x with inForce := some q, requested := some q }, [])
  | some f =>
    if q = f then (x.settle f, changeoverClear x.changeover)
    else if valid then (x.settle q, changeoverClear x.changeover)
    else
      ({ x with requested := some q, changeover := true,
                timer := if x.changeover ∧ x.requested = some q then x.timer else .running moment }, [])

section
variable {x : Selection} {f q : Nat} {valid : Bool} {moment : Time}

theorem Selection.accept_first (h : x.inForce = none) :
    x.accept q valid moment = ({ x with inForce := some q, requested := some q }, []) := by
  rw [Selection.accept, h]

theorem Selection.accept_inForce (h : x.inForce = some f) (hq : q = f) :
    x.accept q valid moment = (x.settle f, changeoverClear x.changeover) := by
  rw [Selection.accept, h]
  exact if_pos hq

theorem Selection.accept_valid (h : x.inForce = some f) (hq : q ≠ f) :
    x.accept q true moment = (x.settle q, changeoverClear x.changeover) := by
  rw [Selection.accept, h]
  exact if_neg hq

theorem Selection.accept_waits (h : x.inForce = some f) (hq : q ≠ f) :
    x.accept q false moment =
      ({ x with requested := some q, changeover := true,
                timer := if x.changeover ∧ x.requested = some q then x.timer else .running moment }, []) := by
  rw [Selection.accept, h]
  exact if_neg hq

end

theorem selectSystem_eq (s : State) (q : Nat) :
    s.selectSystem q = (s.setSelection (s.aspect.select.accept q (s.systemValid q) s.changeoverExpiry).1,
      (s.aspect.select.accept q (s.systemValid q) s.changeoverExpiry).2) := by
  cases hf : s.aspect.select.inForce with
  | none =>
    rw [Selection.accept_first hf]
    simp only [State.selectSystem, hf]
  | some f =>
    by_cases hq : q = f
    · rw [Selection.accept_inForce hf hq]
      simp only [State.selectSystem, hf, if_pos hq]
    · cases hv : s.systemValid q with
      | true =>
        rw [Selection.accept_valid hf hq]
        simp only [State.selectSystem, hf, if_neg hq, hv, if_true]
      | false =>
        rw [Selection.accept_waits hf hq]
        simp only [State.selectSystem, hf, if_neg hq, hv, Bool.false_eq_true, if_false]

/-! ### The event of an ASPECT record (R48, R110) -/

/-- The kind state that an acceptance of `words` computes for ASPECT record `n` where they carry the aspect of entry `e`,
and its requests. -/
def State.aspectResult (s : State) (n : Nat) (e : AspectEntry) (words : List Word) : AspectKind × List PartRequest :=
  aspectComputation (s.cfg.confirmCount (s.cfg.entry n).system) (s.cfg.entry n).system n (s.aspectKind n)
    (shownOf e words) e.onEntry

/-- The entry of the aspect table that a version carries (R108). -/
def State.carriedAspect (s : State) (n : Nat) (words : List Word) : Option AspectEntry :=
  s.cfg.findAspect (s.cfg.entry n).system (bits (at0 words 0) 7 0)

section
variable {s : State} {n : Nat} {words : List Word} {e : AspectEntry}

theorem acceptKind_aspect (h : s.kind n = .aspect) (he : s.carriedAspect n words = some e) :
    s.acceptKind n words = (s.setAspectKind n (s.aspectResult n e words).1, (s.aspectResult n e words).2) := by
  unfold State.carriedAspect at he
  simp only [State.acceptKind, h, State.acceptAspect, he]
  rfl

theorem acceptKind_aspect_unknown (h : s.kind n = .aspect) (he : s.carriedAspect n words = none) :
    s.acceptKind n words = (s, []) := by
  unfold State.carriedAspect at he
  simp only [State.acceptKind, h, State.acceptAspect, he]

/-- No kind but ASPECT moves the kind states of the ASPECT records. -/
theorem acceptKind_kinds (h : s.kind n ≠ .aspect) : (s.acceptKind n words).1.aspect.kinds = s.aspect.kinds := by
  unfold State.acceptKind
  split
  case h_2 haspect => exact absurd haspect h
  case h_3 =>
    rw [State.acceptSelect, selectSystem_eq]
    rfl
  all_goals rfl

/-- No kind but SPEED moves the kind states of the SPEED records. -/
theorem acceptKind_speedKinds (h : s.kind n ≠ .speed) : (s.acceptKind n words).1.speed.kinds = s.speed.kinds := by
  unfold State.acceptKind
  split
  case h_1 hspeed => exact absurd hspeed h
  case h_2 =>
    unfold State.acceptAspect
    dsimp only
    split <;> rfl
  case h_3 =>
    rw [State.acceptSelect, selectSystem_eq]
    rfl
  all_goals rfl

/-- The display status moves the selection at most (R119). -/
theorem acceptStatus_kinds (s : State) (n : Nat) : (s.acceptStatus n).1.aspect.kinds = s.aspect.kinds := by
  have hvalid : (s.enterValid n).1.aspect.kinds = s.aspect.kinds := by
    unfold State.enterValid
    dsimp only
    split
    · unfold State.completeChangeover
      dsimp only
      split <;> rfl
    all_goals rfl
  unfold State.acceptStatus
  dsimp only
  split
  case h_1 => exact hvalid
  case h_3 | h_4 =>
    split
    · exact hvalid
    · rfl
  all_goals rfl

theorem accept_kinds (s : State) (n : Nat) (seq : Byte) (words : List Word) :
    (s.accept n seq words).1.aspect.kinds =
      ((s.setRecord n ((s.record n).accept seq)).acceptKind n words).1.aspect.kinds := acceptStatus_kinds _ n

/-- A kind state past the end of the list reads as after a full reset. -/
theorem State.aspectKind_past (h : ¬n < s.aspect.kinds.length) : s.aspectKind n = AspectKind.reset :=
  List.getD_eq_default _ _ (by omega)

/-- The kind state of an ASPECT record after its acceptance (R110). -/
theorem accept_aspectKind (hn : n < s.aspect.kinds.length) (seq : Byte) (h : s.kind n = .aspect)
    (he : s.carriedAspect n words = some e) :
    (s.accept n seq words).1.aspectKind n = (s.aspectResult n e words).1 := by
  rw [State.aspectKind, accept_kinds, acceptKind_aspect (s := s.setRecord n ((s.record n).accept seq)) h he]
  exact s.aspectKind_setAspectKind_self n _ hn

end

end Sys2Proof.Machine
end

section
/-! PROOFS. The selection state stays consistent: O8. -/

namespace Sys2Proof.Machine

/-! ### The selection and the records it waits for (R117, R118) -/

/-- What R117 and R118 say of the selection state alone: F and Q are there together; they are one and the timer is stopped
with no changeover, and differ during one. -/
structure Selection.Consistent (x : Selection) : Prop where
  together : x.inForce = none ↔ x.requested = none
  settled : x.changeover = false → x.inForce = x.requested ∧ x.timer = .stopped
  active : x.changeover = true → ∃ f q, x.inForce = some f ∧ x.requested = some q ∧ f ≠ q

/-- In service an active changeover waits for a system whose ASPECT record is not VALID (R118, R119). -/
def State.ChangeoverWaits (s : State) : Prop :=
  s.inService = true → s.aspect.select.changeover = true →
    ∀ q, s.aspect.select.requested = some q → s.systemValid q = false

theorem selectionInv_iff (s : State) : SelectionInv s ↔ s.aspect.select.Consistent ∧ s.ChangeoverWaits := by
  constructor
  · rintro ⟨htogether, hsettled, hactive⟩
    refine ⟨⟨htogether, hsettled, fun h => ?_⟩, fun hs h q hq => ?_⟩
    · obtain ⟨f, q, hf, hq, hne, -⟩ := hactive h
      exact ⟨f, q, hf, hq, hne⟩
    · obtain ⟨f, q', -, hq', -, hstale⟩ := hactive h
      cases hq.symm.trans hq'
      exact hstale hs
  · rintro ⟨⟨htogether, hsettled, hactive⟩, hwaits⟩
    refine ⟨htogether, hsettled, fun h => ?_⟩
    obtain ⟨f, q, hf, hq, hne⟩ := hactive h
    exact ⟨f, q, hf, hq, hne, fun hs => hwaits hs h q hq⟩

/-- A system does not become VALID where no ASPECT record of it does. -/
theorem systemValid_stays {s t : State} {q : Nat} (hcfg : t.cfg = s.cfg)
    (h : ∀ m, s.isAspectOf q m = true → (t.record m).status = .valid → (s.record m).status = .valid)
    (hq : s.systemValid q = false) : t.systemValid q = false := by
  have hrecord : t.aspectRecord q = s.aspectRecord q := by
    unfold State.aspectRecord State.isAspectOf State.kind
    rw [hcfg]
  unfold State.systemValid at hq ⊢
  rw [hrecord]
  split
  · rename_i m hm
    rw [hm] at hq
    have hvalid := h m (List.find?_some hm)
    simp only [beq_eq_false_iff_ne, ne_eq] at hq ⊢
    exact mt hvalid hq
  · rfl

/-- What leaves the selection keeps the invariant where it neither brings the part into service nor makes the requested
system VALID. -/
theorem SelectionInv.congr {s t : State} (hs : SelectionInv s) (hselect : t.aspect.select = s.aspect.select)
    (hservice : t.inService = true → s.inService = true)
    (hvalid : ∀ q, s.aspect.select.changeover = true → s.aspect.select.requested = some q →
      s.systemValid q = false → t.systemValid q = false) : SelectionInv t := by
  obtain ⟨hconsistent, hwaits⟩ := (selectionInv_iff s).1 hs
  rw [selectionInv_iff, State.ChangeoverWaits, hselect]
  exact ⟨hconsistent, fun ht h q hq => hvalid q h hq (hwaits (hservice ht) h q hq)⟩

/-- With no changeover there is nothing to wait for. -/
theorem selectionInv_of_settled {s : State} (h : s.aspect.select.Consistent)
    (hsettled : s.aspect.select.changeover = false) : SelectionInv s :=
  (selectionInv_iff s).2 ⟨h, fun _ hactive => nomatch hsettled.symm.trans hactive⟩

/-- Out of service the records have no say. -/
theorem selectionInv_outOfService {s : State} (h : s.aspect.select.Consistent) (hout : s.inService = false) :
    SelectionInv s :=
  (selectionInv_iff s).2 ⟨h, fun hs => nomatch hout.symm.trans hs⟩

theorem Selection.settle_consistent (x : Selection) (f : Nat) : (x.settle f).Consistent :=
  ⟨Iff.intro nofun nofun, fun _ => ⟨rfl, rfl⟩, nofun⟩

theorem Selection.reset_consistent : Selection.reset.Consistent := ⟨Iff.rfl, fun _ => ⟨rfl, rfl⟩, nofun⟩

theorem State.SameUnits.selectionInv {s t : State} (h : s.SameUnits t) (hs : SelectionInv s) : SelectionInv t :=
  hs.congr h.select (by rw [h.service]; exact id) fun _ _ _ => systemValid_stays h.cfg fun m _ => by
    rw [State.record_congr h.recs]
    exact id

/-! ### Events that make no record VALID -/

section
variable {s t : State} {n : Nat}

theorem State.OnlyRecord.inService (h : s.OnlyRecord t n) : t.inService = s.inService := by
  rw [State.inService, State.inService, State.part, State.part, h.sameFrame.ctl]

/-- An event at record `n` that leaves the selection and does not make the record VALID. -/
theorem State.OnlyRecord.selectionInv (h : s.OnlyRecord t n) (hselect : t.aspect.select = s.aspect.select)
    (hn : n < s.recs.length → (t.record n).status = .valid → (s.record n).status = .valid) (hs : SelectionInv s) :
    SelectionInv t := by
  refine hs.congr hselect (by rw [h.inService]; exact id) fun q _ _ => systemValid_stays h.sameFrame.cfg fun m _ hv => ?_
  by_cases hm : m = n
  · subst hm
    by_cases hl : m < s.recs.length
    · exact hn hl hv
    · rw [State.record_past (by rw [h.recsLength]; exact hl)] at hv
      cases hv
  · rwa [h.records m hm] at hv

/-- A record replaced by one of the same status. -/
theorem setRecord_selectionInv {r : RecordState} (hr : r.status = (s.record n).status) (h : SelectionInv s) :
    SelectionInv (s.setRecord n r) :=
  (s.setRecord_only n r).selectionInv rfl (fun hl => by rw [s.record_setRecord_self n r hl, hr]; exact id) h

theorem refuse_selectionInv (why : Reason) (h : SelectionInv s) : SelectionInv (s.refuse n why).1 := by
  refine (s.refuse_only n why).selectionInv (refuse_select s n why) (fun hl hv => ?_) h
  rw [refuse_record hl] at hv
  rcases ((s.record n).refuse why).judged_status (s.cfg.entry n).refusalLimit with hs | hs
  · exact hs.symm.trans hv
  · exact absurd hv hs

theorem expire_selectionInv (h : SelectionInv s) : SelectionInv (s.expire n).1 := by
  refine (s.expire_only n).selectionInv (expire_select s n) (fun hl hv => ?_) h
  rw [expire_record hl] at hv
  exact absurd hv ((s.record n).afterExpiry_status _)

theorem releaseRecord_selectionInv (h : SelectionInv s) : SelectionInv (s.releaseRecord n).1 := by
  refine (s.releaseRecord_only n).selectionInv rfl (fun hl hv => ?_) h
  rw [releaseRecord_record hl] at hv
  cases hv

theorem overrunRecord_selectionInv (h : SelectionInv s) : SelectionInv (s.overrunRecord n).1 := by
  refine (s.overrunRecord_only n).selectionInv (overrunRecord_select s n) (fun hl hv => ?_) h
  by_cases hf : s.Falls n
  · exact hf.2.elim id fun hr => by
      rw [(overrunRecord_falls s n hf).2 (by rw [hr]; nofun), enterStale_record hl] at hv
      cases hv
  · rwa [overrunRecord_stays s n hf] at hv

theorem overrunRecords_selectionInv (h : SelectionInv s) : SelectionInv s.overrunRecords.1 := by
  have fold : ∀ (ns : List Nat) (e : Event), SelectionInv e.1 →
      SelectionInv (ns.foldl (fun e n => Event.andThen e fun s => s.overrunRecord n) e).1 := by
    intro ns
    induction ns with
    | nil => exact fun _ h => h
    | cons m ns ih => exact fun e h => ih _ (overrunRecord_selectionInv h)
  exact fold _ (s, []) h

/-! ### Acceptances (R118, R119) -/

/-- The four cases of R118: only a system that is not VALID is waited for. -/
theorem selectSystem_selectionInv (q : Nat) (h : SelectionInv s) : SelectionInv (s.selectSystem q).1 := by
  obtain ⟨⟨-, hsettled, hactive⟩, -⟩ := (selectionInv_iff s).1 h
  rw [selectSystem_eq]
  cases hf : s.aspect.select.inForce with
  | none =>
    have hquiet : s.aspect.select.changeover = false := by
      rw [Bool.eq_false_iff]
      intro hx
      obtain ⟨f, -, hf', -⟩ := hactive hx
      exact nomatch hf.symm.trans hf'
    rw [Selection.accept_first hf]
    exact selectionInv_of_settled
      ⟨Iff.intro nofun nofun, fun hx => ⟨rfl, (hsettled hx).2⟩, fun hx => nomatch hquiet.symm.trans hx⟩ hquiet
  | some f =>
    by_cases hq : q = f
    · rw [Selection.accept_inForce hf hq]
      exact selectionInv_of_settled (s.aspect.select.settle_consistent f) rfl
    · cases hvalid : s.systemValid q with
      | true =>
        rw [Selection.accept_valid hf hq]
        exact selectionInv_of_settled (s.aspect.select.settle_consistent q) rfl
      | false =>
        rw [Selection.accept_waits hf hq]
        refine (selectionInv_iff _).2 ⟨⟨?_, nofun, fun _ => ⟨f, q, hf, rfl, Ne.symm hq⟩⟩, ?_⟩
        · exact Iff.intro (fun hnone => nomatch hf.symm.trans hnone) nofun
        · rintro _ _ _ ⟨⟩
          exact hvalid

theorem acceptKind_selectionInv (words : List Word) (h : SelectionInv s) : SelectionInv (s.acceptKind n words).1 := by
  by_cases hk : s.kind n = .select
  · simp only [State.acceptKind, hk]
    exact selectSystem_selectionInv _ h
  · refine (s.acceptKind_only n words).selectionInv ?_ (fun _ => by
      rw [State.record_congr (acceptKind_recs s n words)]; exact id) h
    unfold State.acceptKind
    split
    case h_3 hsel => exact absurd hsel hk
    case h_2 =>
      unfold State.acceptAspect
      dsimp only
      split <;> rfl
    all_goals rfl

/-- An entry to VALID completes the changeover that waits for the record's system, and is of another system's record or of
no ASPECT record where it does not (R119). -/
theorem enterValid_selectionInv (h : SelectionInv s) : SelectionInv (s.enterValid n).1 := by
  have hstays : (s.kind n = .aspect → s.aspect.select.changeover = true →
      s.aspect.select.requested ≠ some (s.cfg.entry n).system) →
      SelectionInv (s.setRecord n { s.record n with status := .valid, progress := 0 }) := by
    intro hother
    refine h.congr rfl id fun q hx hq => systemValid_stays rfl fun m hm hv => ?_
    obtain ⟨hkind, hsystem⟩ := (s.isAspectOf_iff q m).1 hm
    have hmn : m ≠ n := by
      rintro rfl
      exact hother hkind hx (hsystem ▸ hq)
    rwa [s.record_setRecord_ne n m _ hmn] at hv
  unfold State.enterValid
  dsimp only
  split
  case h_1 =>
    unfold State.completeChangeover
    dsimp only
    split
    · exact selectionInv_of_settled (s.aspect.select.settle_consistent _) rfl
    · rename_i hwaits
      exact hstays fun _ hx hq => hwaits ⟨hx, hq⟩
  all_goals
    rename_i hkind
    exact hstays fun haspect => nomatch hkind.symm.trans haspect

theorem acceptStatus_selectionInv (h : SelectionInv s) : SelectionInv (s.acceptStatus n).1 := by
  have hrecovering : ∀ k, SelectionInv (s.setRecord n { s.record n with status := .recovering, progress := k }) := fun k =>
    (s.setRecord_only n _).selectionInv rfl (fun hl hv => by rw [s.record_setRecord_self n _ hl] at hv; cases hv) h
  unfold State.acceptStatus
  dsimp only
  split
  · exact enterValid_selectionInv h
  · exact h
  · split
    · exact enterValid_selectionInv h
    · exact hrecovering 1
  · split
    · exact enterValid_selectionInv h
    · exact setRecord_selectionInv rfl h
  · exact h

theorem accept_selectionInv (seq : Byte) (words : List Word) (h : SelectionInv s) :
    SelectionInv (s.accept n seq words).1 := by
  have haccepted : SelectionInv (s.setRecord n ((s.record n).accept seq)) := setRecord_selectionInv rfl h
  exact setRecord_selectionInv rfl (acceptStatus_selectionInv (acceptKind_selectionInv words haccepted))

/-! ### Every move of the engine -/

theorem writeStep_selectionInv (k : Nat) (w : Word) (h : SelectionInv s) : SelectionInv (s.writeStep n k w).1 := by
  unfold State.writeStep
  split
  · exact setRecord_selectionInv rfl h
  · split
    · exact refuse_selectionInv _ h
    · split
      · exact refuse_selectionInv _ h
      · split
        · unfold State.close
          split
          · exact refuse_selectionInv _ h
          · exact accept_selectionInv _ _ h
        · exact setRecord_selectionInv rfl h

/-- An expiry of the changeover timer leaves the changeover active (R121). -/
theorem expired_selectionInv (hdue : s.changeoverDue = true) (h : SelectionInv s) :
    SelectionInv (s.setSelection { s.aspect.select with timer := .expired }) := by
  obtain ⟨⟨htogether, -, hactive⟩, hwaits⟩ := (selectionInv_iff s).1 h
  have hx : s.aspect.select.changeover = true := (Bool.and_eq_true_iff.1 hdue).1
  exact (selectionInv_iff _).2 ⟨⟨htogether, (fun hno => nomatch hx.symm.trans hno), hactive⟩, hwaits⟩

/-- An entry to CONFIG stops the timer and leaves service (R117). -/
theorem enterConfigMode_selectionInv (h : SelectionInv s) : SelectionInv s.enterConfigMode := by
  obtain ⟨⟨htogether, hsettled, hactive⟩, -⟩ := (selectionInv_iff s).1 h
  refine selectionInv_outOfService ⟨htogether, fun hx => ⟨(hsettled hx).1, ?_⟩, hactive⟩ rfl
  show s.aspect.select.timer.stop = .stopped
  rw [(hsettled hx).2]
  rfl

/-- Every move of the engine keeps the selection consistent. -/
theorem State.EngineMove.selectionInv (hmove : s.EngineMove t) (h : SelectionInv s) : SelectionInv t := by
  cases hmove with
  | stay => exact h
  | event he =>
    cases he with
    | write _ k w => exact writeStep_selectionInv k w h
    | expiry => exact expire_selectionInv h
    | release => exact releaseRecord_selectionInv h
  | overrun => exact overrunRecords_selectionInv h
  | changeover hdue => exact expired_selectionInv hdue h
  | configured hout c => exact selectionInv_outOfService ((selectionInv_iff s).1 h).1 hout
  | config => exact enterConfigMode_selectionInv h
  | run hout c =>
    have hselect : (s.withCfg c).enterRun.aspect.select = Selection.reset := by
      unfold State.enterRun
      split <;> rfl
    exact selectionInv_of_settled (hselect ▸ Selection.reset_consistent) (by rw [hselect]; rfl)
  | reset u cause => exact selectionInv_of_settled Selection.reset_consistent rfl

end

/-- Settles O8: a step makes at most one move of the engine (`step_engineTurn`), and each keeps the invariant: a SELECT
acceptance opens a changeover for a system that is not VALID (`selectSystem_selectionInv`), and an entry to VALID ends the
changeover that waits for it (`enterValid_selectionInv`). -/
theorem everyStepKeepsTheSelection : Obligations.EveryStepKeepsTheSelection := by
  intro s t hs hjob h
  obtain ⟨u, v, hbefore, hmove, hafter⟩ := step_engineTurn hjob h
  exact hafter.selectionInv (hmove.selectionInv (hbefore.selectionInv hs))

end Sys2Proof.Machine
end

section
/-! PROOFS. A shown rank rises at a confirmed acceptance alone: O12. -/

namespace Sys2Proof.Machine

/-! ### What is shown stays or is lost -/

/-- Record `n` shows what it showed, or nothing. -/
def State.ShowsNoMore (s t : State) (n : Nat) : Prop :=
  (t.aspectKind n).shown = (s.aspectKind n).shown ∨ (t.aspectKind n).shown = none

theorem State.ShowsNoMore.refl (s : State) (n : Nat) : s.ShowsNoMore s n := .inl rfl

theorem State.ShowsNoMore.trans {a b c : State} {n : Nat} (h1 : a.ShowsNoMore b n) (h2 : b.ShowsNoMore c n) :
    a.ShowsNoMore c n := by
  rcases h2 with h2 | h2
  · exact h1.imp h2.trans h2.trans
  · exact .inr h2

/-- A rise of the rank that record `n` shows is confirmed (R111). -/
def State.RisesConfirmed (s t : State) (n : Nat) : Prop :=
  ∀ old new, (s.aspectKind n).shown = some old → (t.aspectKind n).shown = some new → old.rank < new.rank →
    s.inService = true ∧ s.kind n = .aspect ∧ (t.aspectKind n).upgrade = none ∧
      (s.cfg.confirmCount (s.cfg.entry n).system = 1 ∨
        ∃ u, (s.aspectKind n).upgrade = some u ∧ u.code = new.code ∧
          u.count + 1 = s.cfg.confirmCount (s.cfg.entry n).system)

section
variable {s t u v : State} {n m : Nat}

/-- What is not shown anew has no higher rank. -/
theorem State.ShowsNoMore.risesConfirmed (h : s.ShowsNoMore t n) : s.RisesConfirmed t n := by
  intro old new hold hnew hrank
  rcases h with h | h
  · rw [h, hold] at hnew
    cases hnew
    omega
  · rw [h] at hnew
    cases hnew

/-- A rise between operations that leave the engine's units alone. -/
theorem State.RisesConfirmed.between (h : u.RisesConfirmed v n) (hbefore : s.SameUnits u) (hafter : v.SameUnits t) :
    s.RisesConfirmed t n := by
  obtain ⟨hshown, hupgrade⟩ := hbefore.kinds n
  obtain ⟨hshown', hupgrade'⟩ := hafter.kinds n
  unfold State.RisesConfirmed at *
  rw [hshown', hupgrade']
  rwa [hshown, hupgrade, hbefore.service, State.kind, hbefore.cfg] at h

/-- An event at record `m` leaves what the others show. -/
theorem State.OnlyRecord.showsNoMore (h : s.OnlyRecord t m) (hm : m < s.aspect.kinds.length → s.ShowsNoMore t m)
    (n : Nat) : s.ShowsNoMore t n := by
  by_cases hn : n = m
  · subst hn
    by_cases hl : n < s.aspect.kinds.length
    · exact hm hl
    · exact .inr (by rw [State.aspectKind_past (by rw [h.aspectsLength]; exact hl)]; rfl)
  · exact .inl (congrArg AspectKind.shown (h.aspects n hn))

/-! ### Events that show nothing anew (R74, R111) -/

theorem discardKind_showsNoMore (s : State) (n m : Nat) : s.ShowsNoMore (s.discardKind m) n := by
  refine (s.discardKind_only m).showsNoMore (fun hm => ?_) n
  obtain ⟨haspect, hother⟩ := discardKind_aspectKind s m hm
  by_cases hk : s.kind m = .aspect
  · exact .inr (by rw [haspect hk]; rfl)
  · exact .inl (by rw [hother hk])

theorem enterStale_showsNoMore (s : State) (n m : Nat) : s.ShowsNoMore (s.enterStale m) n :=
  discardKind_showsNoMore _ n m

theorem bar_showsNoMore (s : State) (n m : Nat) : s.ShowsNoMore (s.bar m).1 n := by
  rw [bar_state]
  exact discardKind_showsNoMore (s.barNoted m) n m

theorem refuse_showsNoMore (s : State) (n m : Nat) (why : Reason) : s.ShowsNoMore (s.refuse m why).1 n := by
  have hnoted : s.ShowsNoMore (s.noteRefusal m why) n := by
    refine noteRefusal_only.showsNoMore (fun hm => .inl ?_) n
    rw [noteRefusal_aspectKind hm]
    split <;> rfl
  refine hnoted.trans ?_
  show (s.noteRefusal m why).ShowsNoMore ((s.noteRefusal m why).refuseStatus m).1 n
  unfold State.refuseStatus
  dsimp only
  split
  · exact bar_showsNoMore _ n m
  · split
    · exact enterStale_showsNoMore _ n m
    all_goals exact .refl _ n

theorem expire_showsNoMore (s : State) (n m : Nat) : s.ShowsNoMore (s.expire m).1 n := by
  unfold State.expire
  split
  case h_1 | h_2 | h_4 => exact enterStale_showsNoMore s n m
  all_goals exact .refl _ n

theorem overrunRecords_showsNoMore (s : State) (n : Nat) : s.ShowsNoMore s.overrunRecords.1 n := by
  have hrecord : ∀ (x : State) (m : Nat), x.ShowsNoMore (x.overrunRecord m).1 n := by
    intro x m
    unfold State.overrunRecord
    split
    · split
      case h_1 | h_2 => exact enterStale_showsNoMore x n m
      all_goals exact .refl _ n
    · exact .refl _ n
  have fold : ∀ (ms : List Nat) (e : Event),
      e.1.ShowsNoMore (ms.foldl (fun e m => Event.andThen e fun s => s.overrunRecord m) e).1 n := by
    intro ms
    induction ms with
    | nil => exact fun e => .refl e.1 n
    | cons m ms ih => exact fun e => (hrecord e.1 m).trans (ih _)
  exact fold _ (s, [])

/-! ### Acceptances (R110, R111) -/

/-- An acceptance shows a higher rank where its upgrade is confirmed. -/
theorem accept_risesConfirmed (hserv : s.inService = true) (seq : Byte) (words : List Word) :
    s.RisesConfirmed (s.accept m seq words).1 n := by
  have hkinds := accept_kinds s m seq words
  by_cases hn : n = m
  · subst hn
    by_cases hk : s.kind n = .aspect
    · cases he : s.carriedAspect n words with
      | none =>
        rw [acceptKind_aspect_unknown (s := s.setRecord n ((s.record n).accept seq)) hk he] at hkinds
        exact State.ShowsNoMore.risesConfirmed (.inl (by rw [State.aspectKind, hkinds]; rfl))
      | some e =>
        intro old new hold hnew hrank
        have hl : n < s.aspect.kinds.length := by
          by_contra hl
          rw [State.aspectKind_past hl] at hold
          cases hold
        rw [accept_aspectKind hl seq hk he] at hnew ⊢
        obtain ⟨rfl, hnone, hconfirmed⟩ := aspectComputation_rises hold hnew hrank
        exact ⟨hserv, hk, hnone, hconfirmed⟩
    · rw [acceptKind_kinds (s := s.setRecord n ((s.record n).accept seq)) hk] at hkinds
      exact State.ShowsNoMore.risesConfirmed (.inl (by rw [State.aspectKind, hkinds]; rfl))
  · exact State.ShowsNoMore.risesConfirmed (.inl (congrArg AspectKind.shown ((s.accept_only m seq words).aspects n hn)))

theorem writeStep_risesConfirmed (hserv : s.inService = true) (k : Nat) (w : Word) :
    s.RisesConfirmed (s.writeStep m k w).1 n := by
  have hrefuse : ∀ why, s.RisesConfirmed (s.refuse m why).1 n := fun why => (refuse_showsNoMore s n m why).risesConfirmed
  unfold State.writeStep
  split
  · exact (State.ShowsNoMore.refl s n).risesConfirmed
  · split
    · exact hrefuse _
    · split
      · exact hrefuse _
      · split
        · unfold State.close
          split
          · exact hrefuse _
          · exact accept_risesConfirmed hserv _ _
        · exact (State.ShowsNoMore.refl s n).risesConfirmed

/-! ### Every move of the engine -/

/-- After an entry to RUN and after a full reset nothing is shown (R162, R167). -/
theorem State.aspectKind_of_reset (h : t.aspect.kinds = List.replicate Config.recordCount AspectKind.reset) (n : Nat) :
    t.aspectKind n = AspectKind.reset := by
  rw [State.aspectKind, h, List.getD_eq_getElem?_getD, List.getElem?_getD_replicate_default_eq]

theorem State.EngineMove.risesConfirmed (hmove : s.EngineMove t) (n : Nat) : s.RisesConfirmed t n := by
  have hreset : t.aspect.kinds = List.replicate Config.recordCount AspectKind.reset → s.RisesConfirmed t n :=
    fun h => State.ShowsNoMore.risesConfirmed (.inr (by rw [State.aspectKind_of_reset h]; rfl))
  cases hmove with
  | event he =>
    cases he with
    | write h k w => exact writeStep_risesConfirmed h.1 k w
    | expiry => exact (expire_showsNoMore s n _).risesConfirmed
    | release => exact (State.ShowsNoMore.refl s n).risesConfirmed
  | overrun => exact (overrunRecords_showsNoMore s n).risesConfirmed
  | run hout c =>
    refine hreset ?_
    unfold State.enterRun
    split <;> rfl
  | reset u cause => exact hreset rfl
  | stay | changeover | configured | config => exact (State.ShowsNoMore.refl s n).risesConfirmed

end

/-- LOAD_DONE leaves the aspect unit (R171). -/
theorem exec_loadDone_aspect {s t : State} (h : exec .loadDone s = .next t) : t.aspect = s.aspect := by
  have hload : s.endLoad.aspect = s.aspect := by
    unfold State.endLoad
    split <;> rfl
  simp only [exec, execLoadDone] at h
  split at h <;> cases h
  · exact hload
  all_goals rfl

/-- Settles O12: but for LOAD_DONE, which leaves the aspect unit, a command makes at most one move of the engine, and of
those an acceptance alone shows an aspect anew (`accept_risesConfirmed`). -/
theorem shownRankRisesOnlyWhenConfirmed : Obligations.ShownRankRisesOnlyWhenConfirmed := by
  intro c s t n old new h
  suffices hrises : s.RisesConfirmed t n from hrises old new
  by_cases hload : c = .loadDone
  · subst hload
    exact State.ShowsNoMore.risesConfirmed (.inl (by
      rw [State.aspectKind, exec_loadDone_aspect h]
      rfl))
  · obtain ⟨u, v, hbefore, hmove, hafter⟩ := exec_engineTurn (fun hc => absurd hc hload) h
    exact (hmove.risesConfirmed n).between hbefore hafter

end Sys2Proof.Machine
end

section
/-! PROOFS. Accepted SELECT versions: O39. The rules of the first part serve every kind but SPEED. -/

namespace Sys2Proof.Machine

/-! ### An acceptance that leaves the speed unit (R47, R48) -/

/-- The state after the acceptance of `words` at the grant of check word `w`, its requests taken. -/
def State.accepted (s : State) (a : Addr) (w : Word) (n : Nat) (words : List Word) : State :=
  ((s.windowWritten a w n (s.cfg.entry n).inputs).accept n (highByte w) words).finish

section
variable {s : State} {a : Addr} {w : Word} {n : Nat} {words : List Word}

theorem exec_acceptance (h : AcceptsVersion s a w n words) :
    exec .arbiterGrant s = .next (s.accepted a w n words).driveLines := by
  have hexec := exec_windowWrite h.1
  rwa [writeStep_accepts h] at hexec

theorem accept_speedKinds (seq : Byte) (h : s.kind n ≠ .speed) :
    (s.accept n seq words).1.speed.kinds = s.speed.kinds :=
  (congrArg (fun x : State => x.speed.kinds) (acceptStatus_frame _ n).1).trans
    (acceptKind_speedKinds (s := s.setRecord n ((s.record n).accept seq)) h)

theorem accepted_frame (h : s.kind n ≠ .speed) :
    (s.accepted a w n words).driveLines = { s with
      mem := (s.accepted a w n words).driveLines.mem
      path := (s.accepted a w n words).driveLines.path
      recs := (s.accepted a w n words).driveLines.recs
      aspect := (s.accepted a w n words).driveLines.aspect
      msg := (s.accepted a w n words).driveLines.msg
      status := (s.accepted a w n words).driveLines.status
      lines := (s.accepted a w n words).driveLines.lines
      freeCount := (s.accepted a w n words).driveLines.freeCount } := by
  have hspeeds : (s.accepted a w n words).speed.kinds = s.speed.kinds :=
    (Event.finish_sameUnits _).speeds.trans
      (accept_speedKinds (s := s.windowWritten a w n (s.cfg.entry n).inputs) (highByte w) h)
  have hframe : s.accepted a w n words = _ :=
    accept_finish_frame (s := s.windowWritten a w n (s.cfg.entry n).inputs) (n := n) (highByte w) words
  rw [show ((s.windowWritten a w n (s.cfg.entry n).inputs).accept n (highByte w) words).finish =
    s.accepted a w n words from rfl, hspeeds] at hframe
  generalize s.accepted a w n words = z at *
  rw [State.driveLines, State.withLines, hframe]
  rfl

end

/-! ### The event of the SELECT record (R48, R118) -/

/-- The clear of message 1124 in the terms of the statements (R118). -/
theorem changeoverClear_ask (active : Bool) :
    (active = true → (changeoverClear active).map PartRequest.ask = [.clear 1124]) ∧
      (active = false → (changeoverClear active).map PartRequest.ask = []) := by
  cases active
  · exact ⟨nofun, fun _ => rfl⟩
  · exact ⟨fun _ => rfl, nofun⟩

section
variable {s : State} {n : Nat}

/-- Which systems are VALID does not hang on a record that is no ASPECT record. -/
theorem systemValid_setRecord (h : s.kind n ≠ .aspect) (r : RecordState) (q : Nat) :
    (s.setRecord n r).systemValid q = s.systemValid q := by
  unfold State.systemValid
  rw [show (s.setRecord n r).aspectRecord q = s.aspectRecord q from rfl]
  cases hm : s.aspectRecord q with
  | none => rfl
  | some m =>
    have hmn : m ≠ n := by
      rintro rfl
      exact h ((s.isAspectOf_iff q m).1 (List.find?_some hm)).1
    dsimp only
    rw [s.record_setRecord_ne n m r hmn]

/-- The selection after an accepted SELECT version `[q]`, and the requests of its kind. -/
def State.selectResult (s : State) (q : Nat) : Selection × List PartRequest :=
  s.aspect.select.accept q (s.systemValid q) s.changeoverExpiry

theorem acceptKind_select (q : Word) (r : RecordState) (h : s.kind n = .select) :
    (s.setRecord n r).acceptKind n [q] =
      ((s.setRecord n r).setSelection (s.selectResult q.toNat).1, (s.selectResult q.toNat).2) := by
  have hkind : (s.setRecord n r).kind n = .select := h
  simp only [State.acceptKind, hkind]
  refine (selectSystem_eq (s.setRecord n r) q.toNat).trans ?_
  rw [systemValid_setRecord (by rw [h]; nofun)]
  rfl

/-- For the SELECT record an acceptance moves the record and the selection alone; its requests are those of R118 and the
clear of the stale message. -/
theorem accept_select (hn : n < s.recs.length) (seq : Byte) (q : Word) (h : s.kind n = .select) :
    (s.accept n seq [q]).1.aspect = { s.aspect with select := (s.selectResult q.toNat).1 } ∧
      (s.accept n seq [q]).2 = (s.selectResult q.toNat).2 ++ s.staleClears n := by
  have hkind := acceptKind_select q ((s.record n).accept seq) h
  refine ⟨?_, ?_⟩
  · have haspect := (acceptStatus_frame
      ((s.setRecord n ((s.record n).accept seq)).setSelection (s.selectResult q.toNat).1) n).2
      fun haspectKind => nomatch h.symm.trans haspectKind
    unfold State.accept Event.andThen
    rw [hkind]
    exact haspect
  · rw [accept_clears hn seq [q] (by rw [h]; nofun), hkind]

/-- The requests of a SELECT acceptance, as the statements have them; they leave the aspect unit. -/
theorem accept_select_asks (hn : n < s.recs.length) (seq : Byte) (q : Word) (h : s.kind n = .select) :
    (∃ y, AsksTaken s ((s.selectResult q.toNat).2.map PartRequest.ask ++ staleCleared s n) y ∧
      (s.accept n seq [q]).finish.msg = y.msg ∧ (s.accept n seq [q]).finish.status = y.status) ∧
    (s.accept n seq [q]).finish.aspect = { s.aspect with select := (s.selectResult q.toNat).1 } := by
  obtain ⟨haspect, hrequests⟩ := accept_select hn seq q h
  have hclear : ∀ r ∈ (s.accept n seq [q]).2, ∃ code, r = .condClear code := by
    intro r hr
    rw [hrequests] at hr
    rcases List.mem_append.1 hr with hr | hr
    · have hselect := selectSystem_requests s q.toNat r
      rw [selectSystem_eq] at hselect
      exact ⟨1124, hselect hr⟩
    · exact ⟨_, staleClears_mem hr⟩
  constructor
  · obtain ⟨⟨y, hy, hmsg, hstatus⟩, -⟩ := takeRequests_asked (n := n) (fun r hr => by
      obtain ⟨code, rfl⟩ := hclear r hr
      exact trivial) (s.accept n seq [q]).1
    rw [hrequests, List.map_append, staleClears_ask, AsksTaken, accept_frame] at hy
    exact ⟨y, hy, hmsg, hstatus⟩
  · rw [Event.finish, takeRequests_aspect fun r hr => by
      obtain ⟨code, rfl⟩ := hclear r hr
      exact trivial]
    exact haspect

end

/-- The grant that accepts a SELECT version: the selection moved, its requests taken, and what stays. -/
theorem exec_selectAcceptance {s : State} {a : Addr} {w : Word} {n : Nat} {q : Word} (hshape : ShapeInv s)
    (h : AcceptsVersion s a w n [q]) (hkind : s.kind n = .select) :
    ∃ t y, exec .arbiterGrant s = .next t ∧ t.aspect = { s.aspect with select := (s.selectResult q.toNat).1 } ∧
      AsksTaken s ((s.selectResult q.toNat).2.map PartRequest.ask ++ staleCleared s n) y ∧
      t.msg = y.msg ∧ t.status = y.status ∧
      t = { s with mem := t.mem, path := t.path, recs := t.recs, aspect := t.aspect, msg := t.msg,
                   status := t.status, lines := t.lines, freeCount := t.freeCount } := by
  have hn : n < (s.windowWritten a w n (s.cfg.entry n).inputs).recs.length := h.1.lt_recs hshape
  obtain ⟨⟨y, hy, hmsg, hstatus⟩, haspect⟩ := accept_select_asks hn (highByte w) q hkind
  exact ⟨_, y, exec_acceptance h, haspect, hy, hmsg, hstatus, accepted_frame (by rw [hkind]; nofun)⟩

/-- Settles O39: the acceptance moves the selection as `Selection.accept` does, by its four cases, and its requests are the
clear of a changeover that ends and the clear of the stale message (`exec_selectAcceptance`). -/
theorem selectAcceptanceMovesTheSelection : Obligations.SelectAcceptanceMovesTheSelection := by
  intro s a w n q hshape h hkind x
  obtain ⟨t, y, hexec, haspect, hy, hmsg, hstatus, hframe⟩ := exec_selectAcceptance hshape h hkind
  have hclear := changeoverClear_ask x.changeover
  have hselect : t.aspect.select = (s.selectResult q.toNat).1 := by rw [haspect]
  refine ⟨t, (s.selectResult q.toNat).2.map PartRequest.ask, y, hexec, by rw [haspect], hy, hmsg, hstatus, hframe, ?_⟩
  rw [hselect]
  refine ⟨fun hnone => ?_, fun f hf => ⟨fun hq => ?_, fun hq hvalid => ?_, fun hq hstale => ?_⟩⟩
  · rw [State.selectResult, Selection.accept_first hnone]
    exact ⟨rfl, rfl⟩
  · rw [State.selectResult, Selection.accept_inForce hf hq]
    exact ⟨rfl, hclear⟩
  · rw [State.selectResult, hvalid, Selection.accept_valid hf hq]
    exact ⟨rfl, hclear⟩
  · rw [State.selectResult, hstale, Selection.accept_waits hf hq]
    exact ⟨rfl, rfl⟩

end Sys2Proof.Machine
end

section
/-! PROOFS. Accepted ASPECT versions: O38. -/

namespace Sys2Proof.Machine

/-! ### The aspect tables (R106, Table 6.1) -/

theorem confirmCount_eq (c : Sections) (y : Nat) : c.confirmCount y = (at0 c.aspects (33 * y)).toNat / 8192 % 4 := rfl

/-- Entry `j` of a table reads as Table 6.1 says. -/
theorem aspectEntry_is (c : Sections) (y j : Nat) (hj : j < c.aspectCount y) :
    AspectEntryIs c y (c.aspectEntry y j).code (c.aspectEntry y j) := by
  have hw1 := (at0 c.aspects (33 * y + 1 + 2 * j)).isLt
  have hw2 := (at0 c.aspects (33 * y + 2 + 2 * j)).isLt
  refine ⟨j, hj, (bits_high _).symm, rfl, bits_low _, ?_, ?_⟩
  · show bit _ 15 = true ↔ _
    rw [bit_iff]
    omega
  · show bits _ 3 0 = _
    rw [bits_eq]
    omega

theorem findAspect_is {c : Sections} {y code : Nat} {e : AspectEntry} (h : c.findAspect y code = some e) :
    AspectEntryIs c y code e := by
  obtain ⟨j, hj, rfl⟩ := List.mem_map.1 (List.mem_of_find?_eq_some h)
  have hcode : (c.aspectEntry y j).code = code := by simpa using List.find?_some h
  exact hcode ▸ aspectEntry_is c y j (List.mem_range.1 hj)

theorem findAspect_none {c : Sections} {y code : Nat} (h : c.findAspect y code = none) (e : AspectEntry) :
    ¬AspectEntryIs c y code e := by
  rintro ⟨j, hj, hcode, -⟩
  have hfound := (findAspect_isSome_iff c y code).2 ⟨j, hj, hcode⟩
  rw [h] at hfound
  cases hfound

/-! ### Requests for which the record waits (R112, R138) -/

/-- A request as an acceptance of ASPECT record `n` makes them: a clear, or a raise for which the record waits. -/
def PartRequest.OfAspect (n : Nat) : PartRequest → Prop
  | .raise _ none => False
  | .raise _ (some m) => m = n
  | .condRaise _ => False
  | .condClear _ => True
  | .overrun _ => False

theorem PartRequest.OfAspect.ofAcceptance {n : Nat} {q : PartRequest} (h : q.OfAspect n) : q.OfAcceptance n := by
  match q, h with
  | .raise _ (some _), h => exact h
  | .condClear _, _ => exact trivial

/-- The messages and the awaiting flag of record `n` are as after the requests `x`, the flag being `was` before. -/
structure State.TookAs (s : State) (n : Nat) (was : Bool) (x : Asked) : Prop where
  msg : s.msg = x.msg
  status : s.status = x.status
  awaiting : (s.aspectKind n).awaiting = (was || x.took)

section
variable {s : State} {n : Nat} {was : Bool} {x : Asked}

/-- One request taken by the part is one request taken in the terms of the statements, the awaiting flag with it. -/
theorem State.TookAs.takeOne {q : PartRequest} (h : s.TookAs n was x) (hq : q.OfAspect n)
    (hn : n < s.aspect.kinds.length) : (s.takeOne q).1.TookAs n was (x.after s.now q.ask) := by
  obtain ⟨msg, status, took⟩ := x
  obtain ⟨rfl, rfl, hwas⟩ := h
  match q, hq with
  | .condClear c, _ => exact ⟨rfl, rfl, hwas⟩
  | .raise r (some m), hm =>
    obtain rfl : m = n := hm
    obtain ⟨hmsg, hstatus⟩ := s.raise_afterRaise r
    have haspect : (s.raise r).1.aspect = s.aspect := by rw [State.raise_frame]
    have hkind : (s.raise r).1.aspectKind m = s.aspectKind m := by rw [State.aspectKind, haspect, State.aspectKind]
    have htaken : (s.raise r).2.taken = decide ((s.msg.raise s.now r).2 ≠ .dropped) := by
      rw [State.raise_outcome]
      cases (s.msg.raise s.now r).2 <;> rfl
    show ((s.raise r).1.awaitIf (s.raise r).2.taken m).TookAs m was _
    unfold State.awaitIf
    split
    · rename_i htook
      refine ⟨hmsg, hstatus, ?_⟩
      rw [State.aspectKind_setAspectKind_self _ m _ (by rw [haspect]; exact hn)]
      show true = (was || (took || decide _))
      rw [← htaken, htook, Bool.or_true, Bool.or_true]
    · rename_i htook
      refine ⟨hmsg, hstatus, ?_⟩
      show _ = (was || (took || decide _))
      rw [hkind, hwas, ← htaken, Bool.eq_false_iff.2 htook, Bool.or_false]

theorem State.TookAs.foldl {qs : List PartRequest} (hqs : ∀ q ∈ qs, q.OfAspect n) (h : s.TookAs n was x)
    (hn : n < s.aspect.kinds.length) :
    (qs.foldl (fun s q => (s.takeOne q).1) s).TookAs n was ((qs.map PartRequest.ask).foldl (Asked.after s.now) x) := by
  induction qs generalizing s x with
  | nil => exact h
  | cons q qs ih =>
    have honly := s.takeOne_only q
    have hnow : (s.takeOne q).1.now = s.now := congrArg Control.ms honly.sameFrame.ctl
    have hrest := ih (fun r hr => hqs r (List.mem_cons_of_mem _ hr))
      (h.takeOne (hqs q List.mem_cons_self) hn) (by rw [(s.takeOne_sameUnits q).aspects]; exact hn)
    rwa [hnow] at hrest

/-- The requests of an ASPECT acceptance, as the statements have them, with the awaiting flag (R112). -/
theorem takeRequests_tookAs {rs : List PartRequest} (h : ∀ q ∈ rs, q.OfAspect n) (hn : n < s.aspect.kinds.length) :
    ∃ x, AsksTaken s (rs.map PartRequest.ask) x ∧ (s.takeRequests rs).TookAs n (s.aspectKind n).awaiting x := by
  obtain ⟨qs, k, hperm, htaken⟩ := s.takeRequests_order rs fun q hq u => (h q hq).ofAcceptance.follows u
  have hbegin : s.TookAs n (s.aspectKind n).awaiting { msg := s.msg, status := s.status, took := false } :=
    ⟨rfl, rfl, (Bool.or_false _).symm⟩
  obtain ⟨hmsg, hstatus, hawaiting⟩ := hbegin.foldl (fun q hq => h q (hperm.mem_iff.1 hq)) hn
  rw [htaken]
  exact ⟨_, ⟨qs.map PartRequest.ask, hperm.map _, rfl⟩, hmsg, hstatus, hawaiting⟩

end

/-! ### The changeover that an entry to VALID completes (R119) -/

/-- The clear of message 1124 where an acceptance completes a changeover. -/
def completionClear (completes : Bool) : List PartRequest := if completes then [.condClear 1124] else []

/-- The selection where an acceptance of record `n` completes a changeover, or does not. -/
def State.selectionAfter (s : State) (n : Nat) (completes : Bool) : Selection :=
  if completes then s.aspect.select.settle (s.cfg.entry n).system else s.aspect.select

section
variable {s : State} {n : Nat}

theorem completesChangeover_iff (s t : State) (n : Nat) :
    completesChangeover s t n = true ↔ ((s.record n).status ≠ .valid ∧ (t.record n).status = .valid) ∧
      s.aspect.select.changeover = true ∧ s.aspect.select.requested = some (s.cfg.entry n).system := by
  simp [completesChangeover, and_assoc]

/-- The changeover that waits for the system of record `n` ends, and no other (R119). -/
theorem completeChangeover_after (s : State) (n : Nat) {completes : Bool}
    (hc : completes = true ↔ s.aspect.select.changeover = true ∧
      s.aspect.select.requested = some (s.cfg.entry n).system) :
    (s.completeChangeover n).2 = completionClear completes ∧
      (s.completeChangeover n).1.aspect.select = s.selectionAfter n completes := by
  unfold State.completeChangeover
  dsimp only
  cases completes with
  | true =>
    rw [if_pos (hc.1 rfl)]
    exact ⟨rfl, rfl⟩
  | false =>
    rw [if_neg fun hx => nomatch hc.2 hx]
    exact ⟨rfl, rfl⟩

theorem enterValid_aspect (h : s.kind n = .aspect) :
    s.enterValid n = (s.setRecord n { s.record n with status := .valid, progress := 0 }).completeChangeover n := by
  have hkind : (s.setRecord n { s.record n with status := .valid, progress := 0 }).kind n = .aspect := h
  unfold State.enterValid
  dsimp only
  rw [hkind]

/-- An acceptance of an EMPTY record, and one that completes its recovery, is an entry to VALID (R63, R70). -/
theorem acceptStatus_enters (h : (s.record n).status = .empty ∨ (s.record n).Returns (s.cfg.entry n).recovery) :
    s.acceptStatus n = ((s.enterValid n).1, (s.enterValid n).2 ++ s.staleClears n) := by
  unfold State.acceptStatus State.staleClears
  dsimp only
  rcases h with h | ⟨h, hneed⟩ | ⟨h, hneed⟩
  · simp [h]
  · simp [h, hneed, Event.andThen, clearStale]
  · simp [h, hneed, Event.andThen, clearStale]

/-- Every other acceptance leaves the selection and asks for nothing; the record is VALID after it only if it was. -/
theorem acceptStatus_otherwise (hn : n < s.recs.length)
    (h : ¬((s.record n).status = .empty ∨ (s.record n).Returns (s.cfg.entry n).recovery)) :
    (s.acceptStatus n).2 = s.staleClears n ∧ (s.acceptStatus n).1.aspect = s.aspect ∧
      (((s.acceptStatus n).1.record n).status = .valid → (s.record n).status = .valid) := by
  obtain ⟨hempty, hreturns⟩ := not_or.1 h
  have hclears : s.staleClears n = [] := if_neg hreturns
  rw [acceptStatus_record hn, hclears]
  unfold RecordState.Returns at hreturns
  unfold State.acceptStatus RecordState.recovered
  dsimp only
  cases hs : (s.record n).status with
  | empty => exact absurd hs hempty
  | stale =>
    have hneed : (s.cfg.entry n).recovery ≠ 1 := fun hneed => hreturns (.inl ⟨hs, hneed⟩)
    simp [hneed]
  | recovering =>
    have hneed : (s.record n).progress + 1 ≠ (s.cfg.entry n).recovery := fun hneed => hreturns (.inr ⟨hs, hneed⟩)
    simp [hneed]
  | _ => exact ⟨rfl, rfl, by simp [hs]⟩

/-- The display status of an ASPECT record: what an entry to VALID asks for, and the clear of the stale message. -/
theorem acceptStatus_aspect (hn : n < s.recs.length) (h : s.kind n = .aspect) :
    (s.acceptStatus n).2 =
        completionClear (completesChangeover s (s.acceptStatus n).1 n) ++ s.staleClears n ∧
      (s.acceptStatus n).1.aspect.select = s.selectionAfter n (completesChangeover s (s.acceptStatus n).1 n) := by
  have hc := completesChangeover_iff s (s.acceptStatus n).1 n
  generalize completesChangeover s (s.acceptStatus n).1 n = completes at hc
  by_cases henters : (s.record n).status = .empty ∨ (s.record n).Returns (s.cfg.entry n).recovery
  · rw [acceptStatus_enters henters] at hc ⊢
    have hwas : (s.record n).status ≠ .valid := by
      rcases henters with h | ⟨h, -⟩ | ⟨h, -⟩ <;> rw [h] <;> nofun
    have hafter : ((s.enterValid n).1.record n).status = .valid := by rw [enterValid_record hn]
    obtain ⟨hrequests, hselect⟩ := completeChangeover_after
      (s.setRecord n { s.record n with status := .valid, progress := 0 }) n
      (hc.trans (and_iff_right ⟨hwas, hafter⟩))
    rw [← enterValid_aspect h] at hrequests hselect
    exact ⟨congrArg (· ++ s.staleClears n) hrequests, hselect⟩
  · obtain ⟨hrequests, haspect, hvalid⟩ := acceptStatus_otherwise hn henters
    obtain rfl : completes = false := by
      rw [Bool.eq_false_iff]
      exact fun hx => (hc.1 hx).1.1 (hvalid (hc.1 hx).1.2)
    rw [hrequests, haspect]
    exact ⟨rfl, rfl⟩

end

/-! ### The event of an ASPECT record (R48, R110) -/

section
variable {s : State} {n : Nat} {words : List Word} {e : AspectEntry}

/-- Whether a changeover is completed hangs on the record's status before and after, and on the selection before. -/
theorem completesChangeover_congr {s s' t t' : State} {n : Nat} (hcfg : s'.cfg = s.cfg)
    (hselect : s'.aspect.select = s.aspect.select) (hs : (s'.record n).status = (s.record n).status)
    (ht : (t'.record n).status = (t.record n).status) : completesChangeover s' t' n = completesChangeover s t n := by
  unfold completesChangeover
  rw [hcfg, hselect, hs, ht]

/-- The requests of an ASPECT acceptance, and the selection after it. -/
theorem accept_aspect (hn : n < s.recs.length) (seq : Byte) (h : s.kind n = .aspect)
    (he : s.carriedAspect n words = some e) :
    (s.accept n seq words).2 = (s.aspectResult n e words).2 ++
        (completionClear (completesChangeover s (s.accept n seq words).1 n) ++ s.staleClears n) ∧
      (s.accept n seq words).1.aspect.select =
        s.selectionAfter n (completesChangeover s (s.accept n seq words).1 n) := by
  obtain ⟨u, hu⟩ : ∃ u, u = (s.setRecord n ((s.record n).accept seq)).setAspectKind n (s.aspectResult n e words).1 :=
    ⟨_, rfl⟩
  have hkind : (s.setRecord n ((s.record n).accept seq)).acceptKind n words = (u, (s.aspectResult n e words).2) := by
    rw [hu]
    exact acceptKind_aspect (s := s.setRecord n ((s.record n).accept seq)) h he
  have haccept : s.accept n seq words =
      ((u.acceptStatus n).1.startTimer n, (s.aspectResult n e words).2 ++ (u.acceptStatus n).2) := by
    unfold State.accept Event.andThen
    rw [hkind]
  have hlen : n < u.recs.length := by rw [hu]; simpa using hn
  have hrecord : u.record n = (s.record n).accept seq := by rw [hu]; exact s.record_setRecord_self n _ hn
  have hclears : u.staleClears n = s.staleClears n := by
    unfold State.staleClears
    rw [hrecord, hu]
    rfl
  have hcompletes : completesChangeover u (u.acceptStatus n).1 n = completesChangeover s (s.accept n seq words).1 n := by
    refine completesChangeover_congr (by rw [hu]; rfl) (by rw [hu]; rfl) (by rw [hrecord]; rfl) ?_
    rw [haccept, startTimer_record (by rw [(u.acceptStatus_only n).recsLength]; exact hlen)]
  have hselection : ∀ b, u.selectionAfter n b = s.selectionAfter n b := fun b => by rw [hu]; rfl
  obtain ⟨hrequests, hselect⟩ := acceptStatus_aspect hlen (by rw [hu]; exact h)
  rw [hcompletes, hclears] at hrequests
  rw [hcompletes, hselection] at hselect
  refine ⟨?_, ?_⟩
  · rw [haccept] at hrequests ⊢
    rw [hrequests]
  · rw [haccept] at hselect ⊢
    exact hselect

/-- The requests of an ASPECT acceptance are clears and raises for which the record waits (R112, R119). -/
theorem accept_ofAspect (hn : n < s.recs.length) (seq : Byte) (h : s.kind n = .aspect)
    (he : s.carriedAspect n words = some e) : ∀ q ∈ (s.accept n seq words).2, q.OfAspect n := by
  intro q hq
  rw [(accept_aspect hn seq h he).1] at hq
  rcases List.mem_append.1 hq with hq | hq
  · rw [aspectComputation_requests _ _ _ _ _ _ q hq]
    exact rfl
  · rcases List.mem_append.1 hq with hq | hq
    · unfold completionClear at hq
      split at hq
      · rw [List.mem_singleton.1 hq]
        exact trivial
      · cases hq
    · rw [staleClears_mem hq]
      exact trivial

/-- The clear of message 1124 in the terms of the statements. -/
theorem completionClear_ask (completes : Bool) :
    (completionClear completes).map PartRequest.ask = if completes = true then [.clear 1124] else [] := by
  cases completes <;> rfl

end

/-- What an acceptance of ASPECT record `n` from `s` leaves: the kind state computed from the version's entry `e`, the
awaiting flag set where its raise was taken, the selection with a changeover it completes, and the requests it made. -/
structure AspectAccepted (s t : State) (n : Nat) (words : List Word) (e : AspectEntry) (y : Asked) : Prop where
  others : ∀ m, m ≠ n → t.aspectKind m = s.aspectKind m
  shown : (t.aspectKind n).shown = (s.aspectResult n e words).1.shown
  upgrade : (t.aspectKind n).upgrade = (s.aspectResult n e words).1.upgrade
  awaiting : (t.aspectKind n).awaiting = ((s.aspectKind n).awaiting || y.took)
  select : t.aspect.select = s.selectionAfter n (completesChangeover s t n)
  asked : AsksTaken s ((s.aspectResult n e words).2.map PartRequest.ask ++
    (if completesChangeover s t n = true then [.clear 1124] else []) ++ staleCleared s n) y
  msg : t.msg = y.msg
  status : t.status = y.status

theorem accept_aspectAccepted {s : State} {n : Nat} {words : List Word} {e : AspectEntry} (hn : n < s.recs.length)
    (hk : n < s.aspect.kinds.length) (seq : Byte) (h : s.kind n = .aspect) (he : s.carriedAspect n words = some e) :
    ∃ y, AspectAccepted s (s.accept n seq words).finish n words e y := by
  obtain ⟨hrequests, hselect⟩ := accept_aspect hn seq h he
  have hof := accept_ofAspect hn seq h he
  have honly := s.accept_only n seq words
  have hresult := accept_aspectKind hk seq h he
  have hunits := Event.finish_sameUnits (s.accept n seq words)
  have hcompletes : completesChangeover s (s.accept n seq words).finish n =
      completesChangeover s (s.accept n seq words).1 n :=
    completesChangeover_congr rfl rfl rfl (by rw [State.record_congr hunits.recs])
  obtain ⟨y, hy, hmsg, hstatus, hawaiting⟩ := takeRequests_tookAs hof (by rw [honly.aspectsLength]; exact hk)
  obtain ⟨-, hothers⟩ := takeRequests_asked (fun q hq => (hof q hq).ofAcceptance) (s.accept n seq words).1
  refine ⟨y, fun m hm => (hothers m hm).trans (honly.aspects m hm), ?_, ?_, ?_, ?_, ?_, hmsg, hstatus⟩
  · rw [(hunits.kinds n).1, hresult]
  · rw [(hunits.kinds n).2, hresult]
  · rw [hresult, State.aspectResult, aspectComputation_awaiting] at hawaiting
    exact hawaiting
  · rw [hunits.select, hselect, hcompletes]
  · rw [hrequests, List.map_append, List.map_append, staleClears_ask, completionClear_ask, ← List.append_assoc, AsksTaken,
      accept_frame] at hy
    rw [hcompletes]
    exact hy

theorem exec_aspectAcceptance {s : State} {a : Addr} {w : Word} {n : Nat} {words : List Word} {e : AspectEntry}
    (hshape : ShapeInv s) (h : AcceptsVersion s a w n words) (hkind : s.kind n = .aspect)
    (he : s.carriedAspect n words = some e) :
    ∃ t y, exec .arbiterGrant s = .next t ∧ AspectAccepted s t n words e y ∧
      t = { s with mem := t.mem, path := t.path, recs := t.recs, aspect := t.aspect, msg := t.msg,
                   status := t.status, lines := t.lines, freeCount := t.freeCount } := by
  have hn : n < (s.windowWritten a w n (s.cfg.entry n).inputs).recs.length := h.1.lt_recs hshape
  obtain ⟨-, -, -, -, haspects, -⟩ := hshape
  obtain ⟨-, -, -, hn24, -⟩ := h.1
  have hk : n < (s.windowWritten a w n (s.cfg.entry n).inputs).aspect.kinds.length := haspects.symm ▸ hn24
  obtain ⟨y, hothers, hshown, hupgrade, hawaiting, hselect, hasked, hmsg, hstatus⟩ :=
    accept_aspectAccepted hn hk (highByte w) hkind he
  exact ⟨_, y, exec_acceptance h, ⟨hothers, hshown, hupgrade, hawaiting, hselect, hasked, hmsg, hstatus⟩,
    accepted_frame (by rw [hkind]; nofun)⟩

/-- Settles O38: the entries of a table read as Table 6.1 says (`findAspect_is`); the acceptance computes the kind state
`State.aspectResult` by the ranks, and its requests, the awaiting flag and the selection go by `AspectAccepted`. -/
theorem aspectAcceptanceShowsOrConfirms : Obligations.AspectAcceptanceShowsOrConfirms := by
  refine ⟨fun c y => ⟨confirmCount_eq c y, fun code => ⟨fun e => findAspect_is, findAspect_none⟩⟩, ?_⟩
  intro s a w n words e hshape h hkind he sys x shows ackMessage
  have hcarried : s.carriedAspect n words = some e := by rw [State.carriedAspect, bits_low]; exact he
  obtain ⟨t, y, hexec, haccepted, hframe⟩ := exec_aspectAcceptance hshape h hkind hcarried
  obtain ⟨hothers, hshown, hupgrade, hawaiting, hselect, hasked, hmsg, hstatus⟩ := haccepted
  have hresult : s.aspectResult n e words =
      aspectComputation (s.cfg.confirmCount sys) sys n (s.aspectKind n) x e.onEntry := rfl
  refine ⟨t, (s.aspectResult n e words).2.map PartRequest.ask, y, hexec, hothers, hselect, hasked, hmsg, hstatus,
    hawaiting, hframe, fun hnone => ?_, fun old hold => ⟨fun hlower => ?_, fun hequal => ?_, fun hhigher => ?_⟩⟩
  · rw [hresult, aspectComputation_first hnone] at hshown hupgrade ⊢
    exact ⟨⟨hshown, hupgrade⟩, rfl⟩
  · rw [hresult, aspectComputation_lower hold hlower] at hshown hupgrade ⊢
    exact ⟨⟨hshown, hupgrade⟩, fun hentry => by rw [hentry]; rfl, fun hentry => by rw [hentry]; rfl⟩
  · rw [hresult, aspectComputation_equal hold hequal] at hshown hupgrade ⊢
    exact ⟨⟨hshown, hupgrade⟩, rfl⟩
  · rw [hresult, aspectComputation_higher hold hhigher] at hshown hupgrade ⊢
    refine ⟨rfl, fun hone => ?_, fun hmore => ⟨fun u hu hcode => ⟨fun hcount => ?_, fun hcount => ?_⟩, fun hbegins => ?_⟩⟩
    · rw [hone, upgradeAspect_once] at hshown hupgrade
      exact ⟨hshown, hupgrade⟩
    · rw [upgradeAspect_confirms hu hcode hcount] at hshown hupgrade
      exact ⟨hshown, hupgrade⟩
    · rw [upgradeAspect_counts (by omega) hu hcode hcount] at hshown hupgrade
      exact ⟨hshown.trans hold, hupgrade⟩
    · rw [upgradeAspect_begins (by omega) hbegins] at hshown hupgrade
      exact ⟨hshown.trans hold, hupgrade⟩

end Sys2Proof.Machine
end

section
/-! PROOFS. The ACK input: O48. -/

namespace Sys2Proof.Machine

/-! ### The debouncer (R139) -/

theorem releaseDue_iff (s : State) :
    s.releaseDue = true ↔ ∃ m, s.msg.debouncer = .releasing m ∧ 30 ≤ (s.ctl.ms - m).toNat := by
  unfold State.releaseDue
  cases s.msg.debouncer with
  | releasing m =>
    simp only [Debouncer.releasing.injEq, exists_eq_left']
    exact decide_eq_true_iff
  | _ => simp

/-- The four commands of the debouncer: a level of the line, and its 30 ms of release (R139). -/
theorem debouncerMoves (s : State) :
    (∃ t, exec .ackLineAsserted s = .next t ∧
      t.msg = { s.msg with
        ackLine := true
        debouncer := if s.ctl.part = .powerUp then s.msg.debouncer else debounceAsserted s.msg.debouncer s.ctl.ms } ∧
      t = { s with msg := t.msg, lines := t.lines }) ∧
    (∃ t, exec .ackLineReleased s = .next t ∧
      t.msg = { s.msg with
        ackLine := false
        debouncer := if s.ctl.part = .powerUp then s.msg.debouncer else debounceReleased s.msg.debouncer s.ctl.ms } ∧
      t = { s with msg := t.msg, lines := t.lines }) :=
  ⟨⟨_, rfl, rfl, rfl⟩, ⟨_, rfl, rfl, rfl⟩⟩

/-! ### The acknowledgement of the head (R113, R136) -/

/-- An ACK does not read the debouncer. -/
theorem MessageUnit.ack_debouncer (m : MessageUnit) (d : Debouncer) (now : Time) (code : Nat) :
    MessageUnit.ack { m with debouncer := d } now code =
      ({ (m.ack now code).1 with debouncer := d }, (m.ack now code).2) := by
  unfold MessageUnit.ack
  dsimp only
  cases findEntry code m.entries with
  | none => rfl
  | some e =>
    dsimp only
    cases e.state with
    | acked => rfl
    | unacked => dsimp only; split <;> rfl
    | clearedUnacked => dsimp only; split <;> rfl

/-- The ACK of a head that waits finds it. -/
theorem MessageUnit.ack_head {m : MessageUnit} {h : Entry} {rest : List Entry} (now : Time)
    (hes : m.entries = h :: rest) (hs : h.state ≠ .acked) :
    (m.ack now h.code).2 = if 1120 ≤ h.code ∧ h.code ≤ 1123 then .system (h.code - 1120) else .acknowledged := by
  have hcode : isSystemCode h.code = true ↔ 1120 ≤ h.code ∧ h.code ≤ 1123 := by
    rw [isSystemCode, Bool.and_eq_true, decide_eq_true_iff, decide_eq_true_iff]
  simp only [MessageUnit.ack, hes, findEntry_cons_self, hcode]
  cases hstate : h.state with
  | acked => exact absurd hstate hs
  | unacked => dsimp only; split <;> rfl
  | clearedUnacked => dsimp only; split <;> rfl

/-- The awaiting flag of the system's ASPECT records falls, and nothing else of a kind state (R113). -/
theorem systemAcknowledged_kind (s : State) (sys n : Nat) :
    (s.systemAcknowledged sys).aspectKind n =
      if n < s.aspect.kinds.length ∧ s.kind n = .aspect ∧ (s.cfg.entry n).system = sys then
        { s.aspectKind n with awaiting := false }
      else s.aspectKind n := by
  have hkinds : (s.systemAcknowledged sys).aspect.kinds = s.aspect.kinds.mapIdx fun n k =>
      if (s.cfg.entry n).kind == .aspect && (s.cfg.entry n).system == sys then { k with awaiting := false } else k := rfl
  by_cases hn : n < s.aspect.kinds.length
  · simp only [State.aspectKind, hkinds, List.getD_eq_getElem?_getD, List.getElem?_mapIdx,
      List.getElem?_eq_getElem hn, Option.map_some, Option.getD_some, Bool.and_eq_true, beq_iff_eq, State.kind, hn,
      true_and]
  · rw [if_neg fun h => hn h.1, State.aspectKind_past hn, State.aspectKind_past (by rw [hkinds, List.length_mapIdx]; exact hn)]

/-- An ACK that finds its entry moves the message unit, and of the aspect unit the awaiting flags of the system it names. -/
theorem State.acknowledge_found {s : State} {code : Nat} {p : Prop} [Decidable p]
    (h : (s.msg.ack s.now code).2 = if p then .system (code - 1120) else .acknowledged) :
    (∀ n, (s.acknowledge code).aspectKind n =
      if n < s.aspect.kinds.length ∧ p ∧ s.kind n = .aspect ∧ (s.cfg.entry n).system = code - 1120 then
        { s.aspectKind n with awaiting := false }
      else s.aspectKind n) ∧
    s.acknowledge code = { s with
      msg := (s.msg.ack s.now code).1, aspect := { s.aspect with kinds := (s.acknowledge code).aspect.kinds } } := by
  by_cases hp : p
  · rw [if_pos hp] at h
    have hack : s.acknowledge code = (s.withMsg (s.msg.ack s.now code).1).systemAcknowledged (code - 1120) := by
      simp only [State.acknowledge, h]
    rw [hack]
    refine ⟨fun n => ?_, rfl⟩
    simp only [hp, true_and]
    exact systemAcknowledged_kind (s.withMsg (s.msg.ack s.now code).1) _ n
  · rw [if_neg hp] at h
    have hack : s.acknowledge code = s.withMsg (s.msg.ack s.now code).1 := by
      simp only [State.acknowledge, h]
    rw [hack]
    refine ⟨fun n => ?_, rfl⟩
    rw [if_neg fun hall => hp hall.2.1]
    rfl

/-! ### A press (R140) -/

section
variable {s : State}

theorem exec_ackPress_due (h : s.pressDue = true) : exec .ackPress s = .next s.press.driveLines := if_pos h

/-- A press in RUN that finds no head, or one that does not wait or has not settled, is counted late (R140). -/
theorem press_late (hrun : s.ctl.part = .run)
    (h : ∀ e rest, s.msg.entries = e :: rest → e.state = .acked ∨ elapsed e.headSince s.now < s.cfg.settleTime) :
    s.press = (s.withMsg { s.msg with debouncer := .pressed }).countLateAck := by
  rw [s.press_run hrun, State.judgePress]
  dsimp only [State.withMsg_msg]
  cases hes : s.msg.entries with
  | nil => rfl
  | cons e rest =>
    refine if_neg ?_
    rintro ⟨hwaits, hsettled⟩
    rcases h e rest hes with hacked | hshort
    · exact hwaits hacked
    · exact absurd hsettled (Nat.not_le.2 hshort)

end

/-- Settles O48: the debouncer moves by its equations, a press that is due acknowledges the settled head (`press_settled`),
is counted late (`press_late`) or is discarded (`State.press_out`), and one that is not due changes nothing. -/
theorem ackInputIsDebouncedAndJudged : Obligations.AckInputIsDebouncedAndJudged := by
  refine ⟨fun s => ?_, fun s m hpressing => ⟨fun hlong => ⟨?_, ?_, ?_⟩, fun hshort => ?_⟩⟩
  · obtain ⟨hasserted, hreleased⟩ := debouncerMoves s
    refine ⟨hasserted, hreleased, fun m hm hlong => ?_, fun hshort => ?_⟩
    · exact ⟨_, if_pos ((releaseDue_iff s).2 ⟨m, hm, hlong⟩), rfl, rfl⟩
    · refine answers_same (if_neg fun hdue => ?_)
      obtain ⟨m, hm, hlong⟩ := (releaseDue_iff s).1 hdue
      exact absurd hlong (Nat.not_le.2 (hshort m hm))
  · intro h rest hrun hes hwaits hsettled
    have hexec := exec_ackPress_due (pressDue_true hpressing hlong)
    rw [press_settled hrun hes hwaits hsettled] at hexec
    have hpressed := s.msg.ack_debouncer .pressed s.ctl.ms h.code
    have hout := s.msg.ack_head s.ctl.ms hes hwaits
    obtain ⟨hkinds, hframe⟩ := State.acknowledge_found (s := s.withMsg { s.msg with debouncer := .pressed })
      (code := h.code) ((congrArg Prod.snd hpressed).trans hout)
    generalize (s.withMsg { s.msg with debouncer := .pressed }).acknowledge h.code = z at *
    refine ⟨_, hexec, ?_, fun n => ?_, ?_⟩
    · exact (congrArg State.msg hframe).trans (congrArg Prod.fst hpressed)
    · refine (hkinds n).trans (if_congr ?_ rfl rfl)
      simp only [and_assoc]
      rfl
    · rw [State.driveLines, State.withLines, hframe]
      rfl
  · intro hrun hlate
    have hexec := exec_ackPress_due (pressDue_true hpressing hlong)
    rw [press_late hrun hlate] at hexec
    exact ⟨_, hexec, rfl, rfl, rfl⟩
  · intro hrun
    have hexec := exec_ackPress_due (pressDue_true hpressing hlong)
    rw [s.press_out hrun] at hexec
    exact ⟨_, hexec, rfl, rfl⟩
  · refine answers_same (if_neg (Bool.eq_false_iff.1 (pressDue_false fun m' hm' => ?_)))
    cases hpressing.symm.trans hm'
    exact hshort

end Sys2Proof.Machine
end

section
/-! PROOFS. The expiry of the changeover timer: O45. -/

namespace Sys2Proof.Machine

/-- The timer is due while its changeover is active and its moment has been reached (R120, R121). -/
theorem changeoverDue_iff (s : State) :
    s.changeoverDue = true ↔ s.aspect.select.changeover = true ∧
      ∃ m, s.aspect.select.timer = .running m ∧ (s.ctl.ms - m).toNat < 2147483648 := by
  unfold State.changeoverDue
  rw [Bool.and_eq_true]
  refine and_congr_right fun _ => ?_
  cases s.aspect.select.timer with
  | running m =>
    simp only [ChangeoverTimer.running.injEq, exists_eq_left']
    exact decide_eq_true_iff
  | _ => simp

/-- The message 1124 (R121), class 0, with marker 4 × F + Q. -/
def changeoverMessage (f q : Nat) : RaiseRequest := partRaise 1124 0 true (4 * f + q)

theorem changeoverRequest_eq {s : State} {f q : Nat} (hf : s.aspect.select.inForce = some f)
    (hq : s.aspect.select.requested = some q) : s.changeoverRequest = .raise (changeoverMessage f q) none := by
  rw [State.changeoverRequest, hf, hq]
  rfl

/-- The state with the changeover timer marked expired, its message not yet raised. -/
def State.changeoverExpired (s : State) : State := s.setSelection { s.aspect.select with timer := .expired }

theorem exec_changeoverExpiry {s : State} {f q : Nat} (hdue : s.changeoverDue = true)
    (hf : s.aspect.select.inForce = some f) (hq : s.aspect.select.requested = some q) :
    exec .changeoverTimerExpiry s = .next (s.changeoverExpired.raise (changeoverMessage f q)).1.driveLines := by
  rw [← State.takeRequests_raise, ← changeoverRequest_eq hf hq]
  exact if_pos hdue

/-- Settles O45: a timer that is due is marked expired and its message raised (`exec_changeoverExpiry`); one that is not due
changes nothing. -/
theorem changeoverExpiryRaisesItsMessage : Obligations.ChangeoverExpiryRaisesItsMessage := by
  refine fun s => ⟨fun m f q hactive htimer hreached hf hq => ?_, fun h => answers_same (if_neg fun hdue => ?_)⟩
  · have hexec := exec_changeoverExpiry ((changeoverDue_iff s).2 ⟨hactive, m, htimer, hreached⟩) hf hq
    obtain ⟨hmsg, hstatus⟩ := s.changeoverExpired.raise_afterRaise (changeoverMessage f q)
    have hframe := s.changeoverExpired.raise_frame (changeoverMessage f q)
    generalize (s.changeoverExpired.raise (changeoverMessage f q)).1 = z at *
    refine ⟨_, hexec, congrArg State.aspect hframe, hmsg, hstatus, ?_⟩
    rw [State.driveLines, State.withLines, hframe]
    rfl
  · obtain ⟨hactive, m, htimer, hreached⟩ := (changeoverDue_iff s).1 hdue
    rw [hactive, htimer] at h
    rcases h with h | h | h | ⟨m', h, hearly⟩ <;> cases h
    omega

end Sys2Proof.Machine
end

section
/-! PROOF SUPPORT. The bounds of the message list as a property of its entries and its ordinal count (`ListSound`), and what
placing, dropping, marking and renumbering keep of them: O6, and the rules that O49 to O51 use. -/

namespace Sys2Proof.Machine

/-! ### The bounds of a list (R130, R131, R142) -/

/-- What holds of one entry of a list with the ordinal count `next`. -/
structure Entry.Sound (next : Nat) (e : Entry) : Prop where
  ordinal : e.ordinal < next
  ackless : e.needsAck = false → e.state = .acked
  countPos : 1 ≤ e.count
  countMax : e.count ≤ 255

/-- Entries in presentation order, with one for each code and for each ordinal. -/
structure ListSound (next : Nat) (es : List Entry) : Prop where
  order : es.Pairwise fun x y => x.before y = true
  codes : (es.map Entry.code).Nodup
  ordinals : (es.map Entry.ordinal).Nodup
  entry : ∀ e ∈ es, e.Sound next

/-- The bounds of the whole unit. -/
structure MessageUnit.Sound (m : MessageUnit) : Prop where
  list : ListSound m.nextOrdinal m.entries
  capacity : m.entries.length ≤ 32
  nextOrdinal : m.nextOrdinal ≤ 4294967295
  recalls : m.recalls.length ≤ 10

theorem listInv_iff (s : State) : ListInv s ↔ s.msg.Sound := by
  constructor
  · rintro ⟨horder, hcap, hcodes, hords, hentry, hnext, hrecalls⟩
    refine ⟨⟨horder, hcodes, hords, fun e he => ?_⟩, hcap, hnext, hrecalls⟩
    obtain ⟨ho, hack, hpos, hmax⟩ := hentry e he
    exact ⟨ho, hack, hpos, hmax⟩
  · rintro ⟨⟨horder, hcodes, hords, hentry⟩, hcap, hnext, hrecalls⟩
    refine ⟨horder, hcap, hcodes, hords, fun e he => ?_, hnext, hrecalls⟩
    obtain ⟨ho, hack, hpos, hmax⟩ := hentry e he
    exact ⟨ho, hack, hpos, hmax⟩

theorem ListInv.sound {s : State} (h : ListInv s) : s.msg.Sound := (listInv_iff s).1 h

theorem Entry.Sound.mono {n n' : Nat} {e : Entry} (h : e.Sound n) (hn : n ≤ n') : e.Sound n' :=
  { h with ordinal := h.ordinal.trans_le hn }

theorem ListSound.mono {n n' : Nat} {es : List Entry} (h : ListSound n es) (hn : n ≤ n') : ListSound n' es :=
  { h with entry := fun e he => (h.entry e he).mono hn }

theorem ListSound.nil (n : Nat) : ListSound n [] :=
  ⟨List.Pairwise.nil, List.nodup_nil, List.nodup_nil, fun _ he => absurd he List.not_mem_nil⟩

theorem ListSound.sublist {n : Nat} {es l : List Entry} (h : ListSound n es) (hl : l.Sublist es) : ListSound n l where
  order := h.order.sublist hl
  codes := h.codes.sublist (hl.map _)
  ordinals := h.ordinals.sublist (hl.map _)
  entry e he := h.entry e (hl.subset he)

theorem ListSound.eq_of_code {n : Nat} {es : List Entry} (h : ListSound n es) {x y : Entry} (hx : x ∈ es) (hy : y ∈ es)
    (hc : x.code = y.code) : x = y := List.inj_on_of_nodup_map h.codes hx hy hc

theorem ListSound.eq_of_ordinal {n : Nat} {es : List Entry} (h : ListSound n es) {x y : Entry} (hx : x ∈ es)
    (hy : y ∈ es) (ho : x.ordinal = y.ordinal) : x = y := List.inj_on_of_nodup_map h.ordinals hx hy ho

/-! ### Finding and dropping an entry -/

theorem dropEntry_sublist (c : Nat) (es : List Entry) : (dropEntry c es).Sublist es := List.filter_sublist

theorem mem_dropEntry (c : Nat) (x : Entry) (es : List Entry) : x ∈ dropEntry c es ↔ x ∈ es ∧ x.code ≠ c := by
  simp [dropEntry]

theorem map_code_dropEntry (c : Nat) (es : List Entry) :
    (dropEntry c es).map Entry.code = (es.map Entry.code).filter (· != c) := by
  rw [List.filter_map]
  rfl

theorem ListSound.findEntry_eq {n : Nat} {es : List Entry} (h : ListSound n es) {e : Entry} {c : Nat} (he : e ∈ es)
    (hc : e.code = c) : findEntry c es = some e := by
  cases hf : findEntry c es with
  | none => exact absurd hc ((findEntry_none_iff c es).1 hf e he)
  | some x =>
    obtain ⟨hx, hxc⟩ := findEntry_mem hf
    rw [h.eq_of_code hx he (hxc.trans hc.symm)]

/-- The entries before and behind the one entry of a code are what is left without it. -/
theorem ListSound.exists_dropEntry {n : Nat} {es : List Entry} (h : ListSound n es) {e : Entry} (he : e ∈ es) :
    ∃ l r, es = l ++ e :: r ∧ dropEntry e.code es = l ++ r := by
  obtain ⟨l, r, rfl⟩ := List.append_of_mem he
  have hcodes := h.codes
  rw [List.map_append, List.map_cons, List.nodup_middle, List.nodup_cons, List.mem_append, not_or] at hcodes
  obtain ⟨⟨hl, hr⟩, -⟩ := hcodes
  have hother : ∀ {k : List Entry}, e.code ∉ k.map Entry.code → ∀ y ∈ k, y.code ≠ e.code :=
    fun hk y hy hc => hk (hc ▸ List.mem_map_of_mem hy)
  refine ⟨l, r, rfl, ?_⟩
  have hparts : dropEntry e.code (l ++ e :: r) = dropEntry e.code l ++ dropEntry e.code (e :: r) :=
    List.filter_append ..
  rw [hparts, dropEntry_others (hother hl), dropEntry_cons_self (hother hr)]

/-! ### Placing an entry (R131) -/

/-- A new entry keeps the bounds. -/
theorem ListSound.place {n : Nat} {es : List Entry} (h : ListSound n es) {e : Entry} (he : e.Sound n)
    (hcode : ∀ x ∈ es, x.code ≠ e.code) (hord : ∀ x ∈ es, x.ordinal ≠ e.ordinal) : ListSound n (placeEntry e es) where
  order := pairwise_placeEntry e es hord h.order
  codes := by
    rw [((placeEntry_perm e es).map Entry.code).nodup_iff, List.map_cons, List.nodup_cons]
    exact ⟨fun hin => (List.mem_map.1 hin).elim fun x hx => hcode x hx.1 hx.2, h.codes⟩
  ordinals := by
    rw [((placeEntry_perm e es).map Entry.ordinal).nodup_iff, List.map_cons, List.nodup_cons]
    exact ⟨fun hin => (List.mem_map.1 hin).elim fun x hx => hord x hx.1 hx.2, h.ordinals⟩
  entry x hx := by
    rcases (mem_placeEntry e x es).1 hx with rfl | hx
    · exact he
    · exact h.entry x hx

/-- An entry changed in other values than its code and ordinal, and placed again, keeps the bounds. -/
theorem ListSound.replace {n : Nat} {es : List Entry} (h : ListSound n es) {e x : Entry} (he : e ∈ es)
    (hx : x.Sound n) (hcode : x.code = e.code) (hord : x.ordinal = e.ordinal) : ListSound n (replaceEntry x es) := by
  refine (h.sublist (dropEntry_sublist x.code es)).place hx (fun y hy => ((mem_dropEntry _ _ _).1 hy).2) ?_
  intro y hy ho
  obtain ⟨hmem, hne⟩ := (mem_dropEntry _ _ _).1 hy
  exact hne (by rw [h.eq_of_ordinal hmem he (ho.trans hord), hcode])

theorem length_replaceEntry {n : Nat} {es : List Entry} (h : ListSound n es) {e x : Entry} (he : e ∈ es)
    (hcode : x.code = e.code) : (replaceEntry x es).length = es.length := by
  obtain ⟨l, r, hes, hdrop⟩ := h.exists_dropEntry he
  rw [replaceEntry, hcode, hdrop, length_placeEntry, hes, List.length_append, List.length_append, List.length_cons,
    Nat.add_assoc]

/-- The place of an entry between those that are before it and those that it is before. -/
theorem placeEntry_between {e : Entry} {l r : List Entry} (hl : ∀ x ∈ l, e.before x = false)
    (hr : ∀ x ∈ r, e.before x = true) : placeEntry e (l ++ r) = l ++ e :: r := by
  induction l with
  | nil => exact placeEntry_first hr
  | cons y ys ih =>
    have hy : ¬e.before y = true := by rw [hl y List.mem_cons_self]; exact Bool.false_ne_true
    rw [List.cons_append, placeEntry, if_neg hy, ih fun x hx => hl x (List.mem_cons_of_mem _ hx)]
    rfl

theorem before_asymm {x y : Entry} (h : x.before y = true) : y.before x = false := by
  rw [Bool.eq_false_iff]
  simp only [Entry.before, Ne, Bool.or_eq_true, Bool.and_eq_true, decide_eq_true_eq, beq_iff_eq] at *
  omega

/-- The order reads the class, the group and the ordinal alone. -/
theorem before_congr {x x' : Entry} (hcls : x'.cls = x.cls) (hgroup : x'.group = x.group)
    (hord : x'.ordinal = x.ordinal) (y : Entry) : x'.before y = x.before y ∧ y.before x' = y.before x := by
  simp only [Entry.before, hcls, hgroup, hord, and_self]

/-- An entry that changes neither class nor group nor ordinal stays in its place. -/
theorem ListSound.replace_in_place {n : Nat} {es : List Entry} (h : ListSound n es) {e x : Entry} (he : e ∈ es)
    (hcode : x.code = e.code) (hcls : x.cls = e.cls) (hgroup : x.group = e.group) (hord : x.ordinal = e.ordinal) :
    (replaceEntry x es).map Entry.code = es.map Entry.code := by
  obtain ⟨l, r, hes, hdrop⟩ := h.exists_dropEntry he
  have horder := h.order
  rw [hes, List.pairwise_append, List.pairwise_cons] at horder
  obtain ⟨-, ⟨hr, -⟩, hl⟩ := horder
  have hbefore := before_congr hcls hgroup hord
  rw [replaceEntry, hcode, hdrop, placeEntry_between, hes]
  · simp [hcode]
  · intro y hy
    rw [(hbefore y).1]
    exact before_asymm (hl y hy e List.mem_cons_self)
  · intro y hy
    rw [(hbefore y).1]
    exact hr y hy

/-! ### Marking the head (R132) -/

theorem ListSound.markHead {n : Nat} {es : List Entry} (h : ListSound n es) (now : Time) (before : List Entry) :
    ListSound n (markHead now before es) := by
  rcases markHead_cases now before es with e | ⟨x, t, rfl, e⟩ <;> rw [e]
  · exact h
  · refine ⟨List.pairwise_cons.2 (List.pairwise_cons.1 h.order), h.codes, h.ordinals, fun y hy => ?_⟩
    rcases List.mem_cons.1 hy with rfl | hy
    · obtain ⟨ho, hack, hpos, hmax⟩ := h.entry x List.mem_cons_self
      exact ⟨ho, hack, hpos, hmax⟩
    · exact h.entry y (List.mem_cons_of_mem _ hy)

/-- Only the head-since time of an entry can differ, so other values are those of the list. -/
theorem map_markHead {α : Type} {f : Entry → α} (hf : ∀ (e : Entry) (t : Time), f { e with headSince := t } = f e)
    (now : Time) (before es : List Entry) : (markHead now before es).map f = es.map f := by
  rcases markHead_cases now before es with h | ⟨x, t, rfl, h⟩ <;> rw [h]
  rw [List.map_cons, List.map_cons, hf]

/-! ### Renumbering (R131) -/

/-- The new ordinal of an entry: how many entries have a lower one. -/
def ordinalRank (es : List Entry) (e : Entry) : Nat := es.countP fun x => decide (x.ordinal < e.ordinal)

theorem renumbered_eq (es : List Entry) : renumbered es = es.map fun e => { e with ordinal := ordinalRank es e } := rfl

@[simp] theorem length_renumbered (es : List Entry) : (renumbered es).length = es.length := List.length_map _

@[simp] theorem map_code_renumbered (es : List Entry) : (renumbered es).map Entry.code = es.map Entry.code := by
  rw [renumbered_eq, List.map_map]
  rfl

theorem ordinalRank_lt_length {es : List Entry} {e : Entry} (he : e ∈ es) : ordinalRank es e < es.length :=
  List.countP_lt_length_iff.2 ⟨e, he, by simp⟩

/-- Renumbering keeps the order of ordinals. -/
theorem ordinalRank_lt {es : List Entry} {x y : Entry} (hx : x ∈ es) (h : x.ordinal < y.ordinal) :
    ordinalRank es x < ordinalRank es y := by
  have hcount : ordinalRank es x =
      (es.filter fun z => decide (z.ordinal < y.ordinal)).countP fun z => decide (z.ordinal < x.ordinal) := by
    rw [List.countP_filter]
    refine List.countP_congr fun z _ => ?_
    simp only [decide_eq_true_eq, Bool.and_eq_true]
    omega
  rw [hcount, show ordinalRank es y = _ from List.countP_eq_length_filter]
  exact List.countP_lt_length_iff.2 ⟨x, List.mem_filter.2 ⟨hx, decide_eq_true h⟩, by simp⟩

theorem ListSound.ordinalRank_inj {n : Nat} {es : List Entry} (h : ListSound n es) {x y : Entry} (hx : x ∈ es)
    (hy : y ∈ es) (he : ordinalRank es x = ordinalRank es y) : x = y := by
  rcases Nat.lt_trichotomy x.ordinal y.ordinal with hlt | heq | hgt
  · exact absurd he (ordinalRank_lt hx hlt).ne
  · exact h.eq_of_ordinal hx hy heq
  · exact absurd he (ordinalRank_lt hy hgt).ne'

/-- The renumbered entries stand in the order they stood in, under as many ordinals as they are. -/
theorem ListSound.renumbered {n : Nat} {es : List Entry} (h : ListSound n es) :
    ListSound es.length (renumbered es) where
  order := by
    rw [renumbered_eq, List.pairwise_map]
    refine h.order.imp_of_mem fun {x y} hx _ hb => ?_
    have hrank := ordinalRank_lt (es := es) (y := y) hx
    simp only [Entry.before, Entry.group, Bool.or_eq_true, Bool.and_eq_true, decide_eq_true_eq, beq_iff_eq] at hb ⊢
    exact hb.imp_right (And.imp_right (Or.imp_right (And.imp_right hrank)))
  codes := by
    rw [map_code_renumbered]
    exact h.codes
  ordinals := by
    rw [renumbered_eq, List.map_map]
    exact (List.nodup_map_iff_inj_on (h.codes.of_map _)).2 fun x hx y hy he => h.ordinalRank_inj hx hy he
  entry e he := by
    rw [renumbered_eq, List.mem_map] at he
    obtain ⟨x, hx, rfl⟩ := he
    obtain ⟨-, hack, hpos, hmax⟩ := h.entry x hx
    exact ⟨ordinalRank_lt_length hx, hack, hpos, hmax⟩

end Sys2Proof.Machine
end

section
/-! PROOFS. RAISE, CLEAR and ACK on a list within its bounds, by the state of the entry with their code: O49, O50, O51. -/

namespace Sys2Proof.Machine

/-! ### The list that an operation leaves (R131, R132) -/

theorem othersOf_eq (c : Nat) (es : List Entry) : othersOf c es = dropEntry c es :=
  List.filter_congr fun e _ => by by_cases h : e.code = c <;> simp [h]

/-- The unit's list after its head is marked, where every entry comes with the head-since time of its code. -/
theorem listBecomes_markHead {m m' : MessageUnit} {now : Time} {es es' : List Entry}
    (hm' : m'.entries = markHead now m.entries es) (hperm : es.Perm es')
    (horder : (markHead now m.entries es).Pairwise fun x y => x.before y = true)
    (hsince : ∀ x ∈ es, ∀ y ∈ m.entries, y.code = x.code → x.headSince = y.headSince) : ListBecomes m m' now es' := by
  refine ⟨?_, by rwa [hm'], fun h hh => ?_⟩
  · rw [hm', map_markHead (fun _ _ => rfl)]
    exact hperm.map _
  · rw [hm'] at hh
    cases es with
    | nil => exact absurd hh nofun
    | cons x t =>
      cases hm : m.entries with
      | nil =>
        rw [hm] at hh
        obtain rfl := Option.some.inj hh
        rfl
      | cons y rest =>
        rw [hm] at hh
        dsimp only [List.head?_cons]
        by_cases hc : x.code = y.code
        · rw [markHead_same now rest t hc] at hh
          obtain rfl := Option.some.inj hh
          rw [if_pos hc.symm]
          exact hsince x List.mem_cons_self y (hm ▸ List.mem_cons_self) hc.symm
        · rw [markHead_other now rest t hc] at hh
          obtain rfl := Option.some.inj hh
          exact (if_neg (Ne.symm hc)).symm

section
variable {m m' : MessageUnit} (h : m.Sound) (now : Time) {e : Entry} (he : e ∈ m.entries)
include h he

/-- The entry of a code replaced by one that keeps its code, ordinal and head-since time. -/
theorem MessageUnit.Sound.listBecomes_replace {x : Entry} (hx : x.Sound m.nextOrdinal) (hcode : x.code = e.code)
    (hord : x.ordinal = e.ordinal) (hhead : x.headSince = e.headSince)
    (hm' : m'.entries = markHead now m.entries (replaceEntry x m.entries)) :
    ListBecomes m m' now (x :: othersOf e.code m.entries) := by
  refine listBecomes_markHead hm' ?_ ((h.list.replace he hx hcode hord).markHead now m.entries).order ?_
  · rw [othersOf_eq, ← hcode]
    exact placeEntry_perm x _
  · intro y hy z hz hc
    rcases (mem_placeEntry _ _ _).1 hy with rfl | hy
    · rw [h.list.eq_of_code hz he (hc.trans hcode), hhead]
    · rw [h.list.eq_of_code hz ((mem_dropEntry _ _ _).1 hy).1 hc]

omit he in
/-- The entries of a code taken out. -/
theorem MessageUnit.Sound.listBecomes_drop (c : Nat) (hm' : m'.entries = markHead now m.entries (dropEntry c m.entries)) :
    ListBecomes m m' now (othersOf c m.entries) := by
  refine listBecomes_markHead hm' (by rw [othersOf_eq])
    ((h.list.sublist (dropEntry_sublist c _)).markHead now m.entries).order fun y hy z hz hc => ?_
  rw [h.list.eq_of_code hz ((mem_dropEntry _ _ _).1 hy).1 hc]

end

/-! ### RAISE of a code that is present (R133) -/

theorem countUp_le {n : Nat} (h : n ≤ 255) : countUp n ≤ 255 := by unfold countUp; split <;> omega

theorem raiseAgain_sound {n : Nat} {e : Entry} (r : RaiseRequest) (h : e.Sound n) : (raiseAgain r e).Sound n where
  ordinal := h.ordinal
  ackless hn := by
    have hneeds : e.needsAck = false := hn
    simp [raiseAgain, raisedState, hneeds]
  countPos := by
    have hpos := h.countPos
    simp only [raiseAgain, countUp]
    split <;> omega
  countMax := countUp_le h.countMax

/-- Settles O49: the entry of the code is replaced by itself raised again (`MessageUnit.raise_present`), and replacing an
entry by one of its code and ordinal keeps the list in order (`MessageUnit.Sound.listBecomes_replace`). -/
theorem raiseOfAPresentCodeRaisesItAgain : Obligations.RaiseOfAPresentCodeRaisesItAgain := by
  intro s now r e hinv he hcode
  have hs := hinv.sound
  have hentry := hs.list.entry e he
  have hraise := s.msg.raise_present now r (hs.list.findEntry_eq he hcode)
  have hsound := raiseAgain_sound r hentry
  have hagain : raiseAgain r e = { e with
      count := if e.count = 255 then 255 else e.count + 1, marker := r.marker
      state := if e.needsAck then .unacked else .acked } := by
    rw [raiseAgain, countUp_eq hentry.countMax]
    rfl
  simp only [hraise]
  refine ⟨trivial, ?_, rfl, (length_markHead now _ _).trans (length_replaceEntry hs.list he rfl)⟩
  rw [← hagain, ← hcode]
  exact hs.listBecomes_replace now he hsound rfl rfl rfl rfl

/-! ### RAISE of a new code (R131, R134) -/

theorem newEntry_sound (r : RaiseRequest) (now : Time) (n : Nat) : (newEntry r now n).Sound (n + 1) where
  ordinal := Nat.lt_succ_self n
  ackless hn := by
    have hneeds : r.needsAck = false := hn
    simp [newEntry, raisedState, hneeds]
  countPos := Nat.le_refl 1
  countMax := show 1 ≤ 255 by decide

/-- The entry created in a part `base` of the list without its code, under the ordinal that no entry has. -/
theorem ListSound.place_new {n : Nat} {base : List Entry} (h : ListSound n base) (now : Time) (r : RaiseRequest)
    (hnew : ∀ e ∈ base, e.code ≠ r.code) : ListSound (n + 1) (placeEntry (newEntry r now n) base) :=
  (h.mono n.le_succ).place (newEntry_sound r now n) hnew fun x hx => (h.entry x hx).ordinal.ne

theorem MessageUnit.roomForOrdinal_below {m : MessageUnit} (h : m.nextOrdinal < 4294967295) : m.roomForOrdinal = m :=
  if_neg (Nat.not_le.2 h)

theorem MessageUnit.roomForOrdinal_full {m : MessageUnit} (h : m.nextOrdinal = 4294967295) :
    m.roomForOrdinal = { m with entries := renumbered m.entries, nextOrdinal := m.entries.length } :=
  if_pos h.ge

theorem MessageUnit.Sound.roomForOrdinal {m : MessageUnit} (h : m.Sound) :
    m.roomForOrdinal.Sound ∧ m.roomForOrdinal.nextOrdinal < 4294967295 := by
  rcases h.nextOrdinal.lt_or_eq with hlt | heq
  · rw [MessageUnit.roomForOrdinal_below hlt]
    exact ⟨h, hlt⟩
  · have hcap := h.capacity
    rw [MessageUnit.roomForOrdinal_full heq]
    refine ⟨⟨h.list.renumbered, ?_, ?_, h.recalls⟩, ?_⟩
    · rwa [length_renumbered]
    · exact hcap.trans (by decide)
    · exact hcap.trans_lt (by decide)

/-- A creation in a part of the list: it joins those entries, and a new head is head from now on (R132). -/
theorem MessageUnit.Sound.listBecomes_create {m m' : MessageUnit} (h : m.Sound) (now : Time) (r : RaiseRequest)
    (hnew : ∀ e ∈ m.entries, e.code ≠ r.code) {base : List Entry} (hbase : base.Sublist m.entries)
    (hm' : m'.entries = markHead now m.entries (placeEntry (newEntry r now m.nextOrdinal) base)) :
    ListBecomes m m' now (newEntry r now m.nextOrdinal :: base) := by
  have hplaced := (h.list.sublist hbase).place_new now r fun e he => hnew e (hbase.subset he)
  refine listBecomes_markHead hm' (placeEntry_perm _ _) (hplaced.markHead now m.entries).order fun y hy z hz hc => ?_
  rcases (mem_placeEntry _ _ _).1 hy with rfl | hy
  · exact absurd hc (hnew z hz)
  · rw [h.list.eq_of_code hz (hbase.subset hy) hc]

/-- A new entry sorts before the last one by class and, in its class, by waiting where the last does not: its ordinal is
above every other (R134). -/
theorem MessageUnit.Sound.sortsBeforeLast_iff {m : MessageUnit} (h : m.Sound) (now : Time) (r : RaiseRequest)
    {last : Entry} (hlast : m.entries.getLast? = some last) :
    m.sortsBeforeLast now r = true ↔
      r.cls < last.cls ∨ (r.cls = last.cls ∧ r.needsAck = true ∧ last.state = .acked) := by
  have hord := (h.list.entry last (List.mem_of_getLast? hlast)).ordinal
  have hgroup : (newEntry r now m.nextOrdinal).group = if r.needsAck = true then 0 else 1 := by
    cases hneeds : r.needsAck <;> simp [Entry.group, newEntry, raisedState, hneeds]
  simp only [MessageUnit.sortsBeforeLast, hlast, Entry.before, hgroup, Bool.or_eq_true, Bool.and_eq_true,
    decide_eq_true_eq, beq_iff_eq]
  simp only [newEntry, Entry.group]
  cases r.needsAck <;> by_cases hacked : last.state = .acked <;> simp [hacked] <;> omega

section
variable {m : MessageUnit} (now : Time) (r : RaiseRequest) (habsent : findEntry r.code m.entries = none)
  (hfull : m.entries.length = 32)
include habsent hfull

theorem MessageUnit.raise_evicts (hsorts : m.sortsBeforeLast now r = true) :
    m.raise now r = (m.roomForOrdinal.createIn now r m.roomForOrdinal.entries.dropLast, .evicted) := by
  simp only [MessageUnit.raise, habsent]
  rw [if_neg (show ¬m.entries.length < Config.listCapacity by rw [hfull]; decide), if_pos hsorts]

theorem MessageUnit.raise_drops (hsorts : ¬m.sortsBeforeLast now r = true) : m.raise now r = (m, .dropped) := by
  simp only [MessageUnit.raise, habsent]
  rw [if_neg (show ¬m.entries.length < Config.listCapacity by rw [hfull]; decide), if_neg hsorts]

end

/-- A RAISE of a new code that finds the ordinal count at its largest value: the entries take the ordinals from 0 upward
and the new one the next, and all keep their order (R131). -/
theorem MessageUnit.Sound.raise_renumbers {m : MessageUnit} (h : m.Sound) (now : Time) (r : RaiseRequest)
    (hnew : ∀ e ∈ m.entries, e.code ≠ r.code) (hnext : m.nextOrdinal = 4294967295) (hroom : m.entries.length < 32) :
    (m.raise now r).2 = .created ∧ (m.raise now r).1.nextOrdinal = m.entries.length + 1 ∧
      (othersOf r.code (m.raise now r).1.entries).map Entry.code = m.entries.map Entry.code ∧
      (∃ e ∈ (m.raise now r).1.entries, e.code = r.code ∧ e.ordinal = m.entries.length) ∧
      ∀ x ∈ (m.raise now r).1.entries, x.ordinal ≤ m.entries.length := by
  have hothers : ∀ e ∈ renumbered m.entries, e.code ≠ r.code := by
    simpa [renumbered_eq] using hnew
  have hplaced := h.list.renumbered.place_new now r hothers
  have hmarked := hplaced.markHead now (renumbered m.entries)
  rw [m.raise_room now r ((findEntry_none_iff _ _).2 hnew) hroom, MessageUnit.roomForOrdinal_full hnext]
  refine ⟨rfl, rfl, ?_, ?_, fun x hx => Nat.le_of_lt_succ (hmarked.entry x hx).ordinal⟩
  · calc (othersOf r.code (markHead now (renumbered m.entries) (placeEntry _ (renumbered m.entries)))).map Entry.code
        = (dropEntry r.code (placeEntry (newEntry r now m.entries.length) (renumbered m.entries))).map Entry.code := by
          rw [othersOf_eq, map_code_dropEntry, map_markHead fun _ _ => rfl, map_code_dropEntry]
      _ = m.entries.map Entry.code := by
          rw [show r.code = (newEntry r now m.entries.length).code from rfl, dropEntry_placeEntry hothers,
            map_code_renumbered]
  · have hin : (r.code, m.entries.length) ∈
        (markHead now (renumbered m.entries) (placeEntry (newEntry r now m.entries.length) (renumbered m.entries))).map
          fun e => (e.code, e.ordinal) := by
      rw [map_markHead fun _ _ => rfl]
      exact List.mem_map_of_mem ((mem_placeEntry _ _ _).2 (.inl rfl))
    obtain ⟨e, he, heq⟩ := List.mem_map.1 hin
    exact ⟨e, he, congrArg Prod.fst heq, congrArg Prod.snd heq⟩

/-- Settles O50: a list with room takes the new entry, a full one gives up its last where the new one sorts before it
(`MessageUnit.Sound.sortsBeforeLast_iff`), and a renumbered list keeps its order (`ListSound.renumbered`). -/
theorem raiseOfANewCodeCreatesEvictsOrDrops : Obligations.RaiseOfANewCodeCreatesEvictsOrDrops := by
  refine ⟨fun s now r hinv hnew hnext => ?_, fun s now r hinv hnew hnext hroom => ?_⟩
  · have hs := hinv.sound
    have habsent := (findEntry_none_iff r.code s.msg.entries).2 hnew
    have hordinal := MessageUnit.roomForOrdinal_below hnext
    refine ⟨fun hroom => ?_, fun last hfull hlast => ⟨fun hsorts => ?_, fun hsorts => ?_⟩⟩
    · have hraise := s.msg.raise_room now r habsent hroom
      rw [hordinal] at hraise
      simp only [hraise]
      exact ⟨trivial, hs.listBecomes_create now r hnew (List.Sublist.refl _) rfl, rfl⟩
    · have hraise := MessageUnit.raise_evicts now r habsent hfull ((hs.sortsBeforeLast_iff now r hlast).2 hsorts)
      rw [hordinal] at hraise
      simp only [hraise]
      exact ⟨trivial, hs.listBecomes_create now r hnew (List.dropLast_sublist _) rfl, rfl⟩
    · have hraise := MessageUnit.raise_drops now r habsent hfull (mt (hs.sortsBeforeLast_iff now r hlast).1 hsorts)
      simp only [hraise]
      exact ⟨trivial, trivial⟩
  · exact hinv.sound.raise_renumbers now r hnew hnext hroom

/-! ### CLEAR and ACK (R135, R136, R142) -/

theorem Entry.Sound.needsAck {n : Nat} {e : Entry} (h : e.Sound n) (hs : e.state ≠ .acked) : e.needsAck = true := by
  cases hn : e.needsAck with
  | true => rfl
  | false => exact absurd (h.ackless hn) hs

/-- An entry that waits may take any state. -/
theorem Entry.Sound.withState {n : Nat} {e : Entry} (h : e.Sound n) (hs : e.state ≠ .acked) (st : EntryState) :
    ({ e with state := st } : Entry).Sound n :=
  { h with ackless := fun hn => absurd (h.needsAck hs) (Bool.eq_false_iff.1 hn) }

theorem isSystemCode_iff (code : Nat) : isSystemCode code = true ↔ 1120 ≤ code ∧ code ≤ 1123 := by
  rw [isSystemCode, Bool.and_eq_true, decide_eq_true_iff, decide_eq_true_iff]

section
variable {m : MessageUnit} (now : Time) {c : Nat} {e : Entry}

theorem MessageUnit.ack_absent (h : findEntry c m.entries = none) : m.ack now c = (m, .late) := by
  rw [MessageUnit.ack, h]

theorem MessageUnit.ack_acked (h : findEntry c m.entries = some e) (hs : e.state = .acked) :
    m.ack now c = (m, .late) := by
  simp only [MessageUnit.ack, h, hs]

/-- The codes 1120 to 1123 are removed from both states that wait (log 22). -/
theorem MessageUnit.ack_system (h : findEntry c m.entries = some e) (hc : isSystemCode c = true) (hs : e.state ≠ .acked) :
    m.ack now c = (m.removeEntry now e, .system (c - 1120)) := by
  simp only [MessageUnit.ack, h]
  cases hstate : e.state with
  | acked => exact absurd hstate hs
  | unacked => exact if_pos hc
  | clearedUnacked => exact if_pos hc

theorem MessageUnit.ack_unacked (h : findEntry c m.entries = some e) (hc : ¬isSystemCode c = true)
    (hs : e.state = .unacked) :
    m.ack now c = (m.withList now (replaceEntry { e with state := .acked } m.entries), .acknowledged) := by
  simp only [MessageUnit.ack, h, hs]
  exact if_neg hc

theorem MessageUnit.ack_clearedUnacked (h : findEntry c m.entries = some e) (hc : ¬isSystemCode c = true)
    (hs : e.state = .clearedUnacked) : m.ack now c = (m.removeEntry now e, .acknowledged) := by
  simp only [MessageUnit.ack, h, hs]
  exact if_neg hc

end

/-- Settles O51: each case of CLEAR and ACK either leaves the unit, replaces the entry by one in another state
(`MessageUnit.Sound.listBecomes_replace`), or takes it out (`MessageUnit.Sound.listBecomes_drop`). -/
theorem clearAndAckActByTheEntryState : Obligations.ClearAndAckActByTheEntryState := by
  have hmoved : ∀ {s : State} (now : Time) {e : Entry}, ListInv s → e ∈ s.msg.entries → e.state = .unacked →
      ∀ st, ListBecomes s.msg (s.msg.withList now (replaceEntry { e with state := st } s.msg.entries)) now
        ({ e with state := st } :: othersOf e.code s.msg.entries) := by
    intro s now e hinv he hstate st
    have hwaits : e.state ≠ .acked := by rw [hstate]; nofun
    exact hinv.sound.listBecomes_replace now he ((hinv.sound.list.entry e he).withState hwaits st) rfl rfl rfl rfl
  have hremoved : ∀ {s : State} (now : Time) (e : Entry), ListInv s →
      ListBecomes s.msg (s.msg.removeEntry now e) now (othersOf e.code s.msg.entries) :=
    fun now e hinv => hinv.sound.listBecomes_drop now e.code rfl
  refine ⟨fun s now code hinv => ⟨fun habsent => ?_, ?_⟩, fun s now code hinv => ⟨fun habsent => ?_, ?_⟩⟩
  · simp only [s.msg.clear_absent now code ((findEntry_none_iff _ _).2 habsent), and_self]
  · rintro e he rfl
    have hfind := hinv.sound.list.findEntry_eq he rfl
    refine ⟨(s.msg.clear_found_iff now e.code).2 ⟨e, he, rfl⟩, fun hstate => ?_, fun hstate => ?_, fun hstate => ?_⟩
    · have hgroup : ({ e with state := .clearedUnacked } : Entry).group = e.group := by
        simp [Entry.group, hstate]
      simp only [s.msg.clear_unacked now e.code hfind hstate]
      refine ⟨?_, hmoved now hinv he hstate _, rfl⟩
      exact (map_markHead (fun _ _ => rfl) now _ _).trans
        (hinv.sound.list.replace_in_place he rfl rfl hgroup rfl)
    · simp only [s.msg.clear_acked now e.code hfind hstate]
      exact ⟨hremoved now e hinv, rfl⟩
    · simp only [s.msg.clear_clearedUnacked now e.code hfind hstate]
  · simp only [MessageUnit.ack_absent now ((findEntry_none_iff _ _).2 habsent), and_self]
  · rintro e he rfl
    have hfind := hinv.sound.list.findEntry_eq he rfl
    have hplain : e.code < 1120 ∨ 1123 < e.code → ¬isSystemCode e.code = true := by
      rw [isSystemCode_iff]
      omega
    refine ⟨fun hstate => ?_, fun hlow hhigh hstate => ?_, fun hcode hstate => ?_, fun hcode hstate => ?_⟩
    · simp only [MessageUnit.ack_acked now hfind hstate, and_self]
    · simp only [MessageUnit.ack_system now hfind ((isSystemCode_iff _).2 ⟨hlow, hhigh⟩) hstate]
      exact ⟨trivial, hremoved now e hinv, rfl⟩
    · simp only [MessageUnit.ack_unacked now hfind (hplain hcode) hstate]
      exact ⟨trivial, hmoved now hinv he hstate _, rfl⟩
    · simp only [MessageUnit.ack_clearedUnacked now hfind (hplain hcode) hstate]
      exact ⟨trivial, hremoved now e hinv, rfl⟩

end Sys2Proof.Machine
end

section
/-! PROOF SUPPORT. What one command can do to the message unit: the moves of `MessageUnit.Move`, one after another. -/

namespace Sys2Proof.Machine

/-! ### The moves of the message unit -/

/-- What can happen to the message unit at once. -/
inductive MessageUnit.Move (m : MessageUnit) : MessageUnit → Prop where
  | raise (now : Time) (r : RaiseRequest) : Move m (m.raise now r).1
  | clear (now : Time) (code : Nat) : Move m (m.clear now code).1
  | ack (now : Time) (code : Nat) : Move m (m.ack now code).1
  /-- the post cells' stages, the ACK line and its debouncer move beside the list (R126, R127, R139) -/
  | beside (stages : List (Option Stage)) (line : Bool) (d : Debouncer) :
      Move m { m with stages := stages, ackLine := line, debouncer := d }
  /-- CLEAR_RECALL (R144) -/
  | recallsCleared : Move m { m with recalls := [] }
  /-- an entry to RUN (R147) -/
  | atRun : Move m m.atRun
  /-- a full reset (R146) -/
  | reset (line : Bool) : Move m { MessageUnit.reset with ackLine := line }

/-- From `s` to `t` the message unit makes some moves, one after another. -/
def State.MessageTurn (s t : State) : Prop := Relation.ReflTransGen MessageUnit.Move s.msg t.msg

theorem State.MessageTurn.of_msg {s t : State} (h : t.msg = s.msg := by rfl) : s.MessageTurn t := by
  rw [State.MessageTurn, h]

theorem State.MessageTurn.refl (s : State) : s.MessageTurn s := .of_msg

theorem State.MessageTurn.trans {a b c : State} (h1 : a.MessageTurn b) (h2 : b.MessageTurn c) : a.MessageTurn c :=
  Relation.ReflTransGen.trans h1 h2

theorem MessageUnit.Move.turn {s t : State} (h : s.msg.Move t.msg) : s.MessageTurn t := Relation.ReflTransGen.single h

/-- Other parts of the state change before the unit moves. -/
theorem State.MessageTurn.afterSame {s u t : State} (h : u.MessageTurn t) (hu : u.msg = s.msg := by rfl) :
    s.MessageTurn t := (State.MessageTurn.of_msg hu).trans h

/-- Other parts of the state change after the unit has moved. -/
theorem State.MessageTurn.andSame {s u t : State} (h : s.MessageTurn u) (ht : t.msg = u.msg := by rfl) :
    s.MessageTurn t := h.trans (.of_msg ht)

/-! ### Requests and presses -/

theorem State.raise_messages (s : State) (r : RaiseRequest) : s.MessageTurn (s.raise r).1 := by
  refine MessageUnit.Move.turn ?_
  rw [State.raise_msg]
  exact .raise _ _

theorem State.condClear_messages (s : State) (code : Nat) : s.MessageTurn (s.condClear code) :=
  MessageUnit.Move.turn (.clear _ _)

theorem State.acknowledge_messages (s : State) (code : Nat) : s.MessageTurn (s.acknowledge code) := by
  refine MessageUnit.Move.turn ?_
  rw [State.acknowledge_msg]
  exact .ack _ _

theorem State.takeOne_messages (s : State) (r : PartRequest) : s.MessageTurn (s.takeOne r).1 := by
  cases r with
  | raise r awaits =>
    cases awaits with
    | none => exact s.raise_messages r
    | some n =>
      refine (s.raise_messages r).andSame ?_
      simp only [State.takeOne, State.awaitIf]
      split <;> rfl
  | condRaise r =>
    simp only [State.takeOne]
    split
    · exact s.raise_messages r
    · exact .refl s
  | condClear code => exact s.condClear_messages code
  | overrun r => exact s.raise_messages r

theorem takeAll_messages (f : Nat) : ∀ (rs : List PartRequest) (s : State), s.MessageTurn (takeAll f rs s) := by
  induction f with
  | zero => exact fun _ s => .refl s
  | succ f ih =>
    intro rs s
    match rs with
    | [] => exact .refl s
    | [r] => exact (s.takeOne_messages r).trans (ih _ _)
    | r :: r' :: rest => exact ((State.takeOne_messages (s.choose _).2 _).trans (ih _ _)).afterSame

theorem State.takeRequests_messages (s : State) (rs : List PartRequest) : s.MessageTurn (s.takeRequests rs) :=
  takeAll_messages _ rs s

/-- The requests of an event at one record, which leaves the unit to them. -/
theorem Event.finish_messages {s : State} {e : Event} {n : Nat} (h : s.OnlyRecord e.1 n) : s.MessageTurn e.finish :=
  (State.takeRequests_messages _ _).afterSame (by rw [h.rest])

theorem divideRequests_msg (rs : List PartRequest) : ∀ s : State, (divideRequests rs s).1.msg = s.msg := by
  induction rs with
  | nil => exact fun _ => rfl
  | cons r rest ih =>
    intro s
    simp only [divideRequests]
    split <;> exact ih (s.choose 2).2

theorem State.press_messages (s : State) : s.MessageTurn s.press := by
  have hpressed : s.MessageTurn (s.withMsg { s.msg with debouncer := .pressed }) :=
    MessageUnit.Move.turn (.beside s.msg.stages s.msg.ackLine .pressed)
  unfold State.press
  dsimp only
  split
  · refine hpressed.trans ?_
    unfold State.judgePress
    split
    · exact .of_msg
    · split
      · exact State.acknowledge_messages _ _
      · exact .of_msg
  · exact hpressed

theorem overrunMessages_messages (e : Event) : e.1.MessageTurn (overrunMessages e) := by
  have haround : ∀ (s : State) (rs : List PartRequest) (first last : PartRequest),
      s.MessageTurn (s.takeAround rs first State.press last) := fun s rs _ _ =>
    (((State.takeRequests_messages _ _).afterSame (divideRequests_msg rs s)).trans (State.press_messages _)).trans
      (State.takeRequests_messages _ _)
  unfold overrunMessages
  split
  · dsimp only
    split
    · exact (haround (e.1.choose 2).2 _ _ _).afterSame
    · exact (State.takeRequests_messages (e.1.choose 2).2 _).afterSame
  · exact State.takeRequests_messages _ _

/-- A captured POST write (R126, R127). -/
theorem State.capture_messages (s : State) (k : Nat) (w : Word) : s.MessageTurn (s.capture k w) := by
  have hstage : ∀ (u : State) (c : Nat) (x : Option Stage), u.MessageTurn (u.setStage c x) := fun u _ _ =>
    MessageUnit.Move.turn (.beside _ u.msg.ackLine u.msg.debouncer)
  have hperform : ∀ c st marker act, s.MessageTurn (s.postPerform c st marker act) := by
    intro c st marker act
    cases act with
    | raise => exact s.raise_messages _
    | clear =>
      simp only [State.postPerform, State.postClear]
      split
      · exact s.condClear_messages _
      · exact .of_msg
    | ack => exact s.acknowledge_messages _
  have hacted : ∀ c, s.MessageTurn (s.acted c w) := by
    intro c
    unfold State.acted
    split
    · split
      · exact .of_msg
      · exact hperform _ _ _ _
    · exact .of_msg
  unfold State.capture
  split
  · exact .refl s
  · split
    · exact hstage _ _ _
    · rw [captureAction_eq]
      exact (hacted _).trans (hstage _ _ _)

/-! ### Operations of the memory path that leave the unit alone -/

theorem State.dispose_msg (s : State) (r : UpstreamRequest) : (s.dispose r).msg = s.msg := by
  rw [(s.dispose_only r).rest]

theorem State.arrive_msg (s : State) (r : UpstreamRequest) : (s.arrive r).msg = s.msg := by
  unfold State.arrive
  split
  · exact s.dispose_msg r
  all_goals rfl

theorem State.releasePinHeld_msg (s : State) : s.releasePinHeld.msg = s.msg := by
  unfold State.releasePinHeld
  split
  · exact State.dispose_msg _ _
  all_goals rfl

theorem State.releaseUpstream_msg (s : State) : s.releaseUpstream.msg = s.msg := by
  unfold State.releaseUpstream
  split
  · exact State.dispose_msg _ _
  all_goals rfl

theorem State.columnDone_msg (s : State) : s.columnDone.msg = s.msg := by
  obtain ⟨p, h⟩ := columnDone_path s
  rw [h]
  rfl

theorem State.disposeBurst_msg (s : State) (start : Addr) (count : BitVec 8) :
    (s.disposeBurst start count).msg = s.msg := by
  unfold State.disposeBurst
  split <;> rfl

theorem State.arriveBurst_msg (s : State) (start : Addr) (count : BitVec 8) :
    (s.arriveBurst start count).msg = s.msg := by
  unfold State.arriveBurst
  split
  · exact s.disposeBurst_msg start count
  all_goals rfl

theorem State.releaseBurst_msg (s : State) : s.releaseBurst.msg = s.msg := by
  unfold State.releaseBurst
  split
  · exact State.disposeBurst_msg _ _ _
  all_goals rfl

theorem State.deliver_msg (s : State) (b : Burst) (w : Word) : (s.deliver b w).msg = s.msg := by
  by_cases h : b.left ≤ 1
  · rw [s.deliver_last b w h, State.endBurst, State.releasePinHeld_msg]
    split <;> rfl
  · rw [s.deliver_more b w (by omega)]
    rfl

theorem State.serveScanWord_msg (s : State) (b : Burst) : (s.serveScanWord b).msg = s.msg := by
  unfold State.serveScanWord
  split
  · split
    · exact State.deliver_msg _ _ _
    · rfl
  · exact s.deliver_msg _ _
  · exact State.deliver_msg _ _ _

theorem State.releaseHeld_msg (s : State) : s.releaseHeld.msg = s.msg := by
  have htake : ∀ (u : State) (inRun : Bool) (f : State → State), (∀ x : State, (f x).msg = x.msg) →
      (u.takeUp inRun f).msg = u.msg := by
    intro u inRun f hf
    unfold State.takeUp
    split <;> exact hf _
  unfold State.releaseHeld
  split
  · exact (htake _ _ _ State.releaseBurst_msg).trans (htake _ _ _ State.releaseUpstream_msg)
  · exact (State.releaseBurst_msg _).trans s.releaseUpstream_msg

/-! ### Grants, posts and the refresh unit -/

theorem State.serveGranted_messages (s : State) (r : UpstreamRequest) : s.MessageTurn (s.serveGranted r) := by
  have hmemory : ∀ a, (s.serveMemory r a).msg = s.msg := fun a => by cases r <;> rfl
  have hdispose : s.MessageTurn (s.dispose r).freePort := .of_msg (s.dispose_msg r)
  unfold State.serveGranted
  split
  · exact .of_msg (hmemory _)
  · exact (State.capture_messages _ _ _).afterSame (hmemory _)
  · exact (Event.finish_messages (State.writeStep_only _ _ _ _)).afterSame (hmemory _)
  all_goals exact hdispose

theorem State.grantUpstream_messages (s : State) : s.MessageTurn s.grantUpstream := by
  cases h : s.path.up with
  | claiming r =>
    rw [s.grantUpstream_claiming r h]
    exact (s.upstreamGranted.serveGranted_messages r).afterSame
  | _ => simp only [State.grantUpstream, h]; exact .refl s

theorem State.arbitrate_messages (s : State) : s.MessageTurn s.arbitrate := by
  have hscan : s.grantScan.msg = s.msg := by
    unfold State.grantScan
    split <;> rfl
  unfold State.arbitrate
  split
  · split
    · exact .of_msg
    · exact s.grantUpstream_messages
    · exact .of_msg hscan
    · exact .refl s
  all_goals exact .refl s

/-- A post is carried by an arrival, a grant and a completion (log 14). -/
theorem State.deskWrite_messages (s : State) (a : Addr) (w : Word) : s.MessageTurn (s.deskWrite a w) := by
  have harrival : s.MessageTurn (s.dispose (.write a w)) := .of_msg (s.dispose_msg _)
  rw [s.deskWrite_eq]
  split
  · exact .refl s
  · split
    · exact (harrival.trans (State.grantUpstream_messages _)).andSame (State.columnDone_msg _)
    · exact harrival

theorem State.overrunRecords_msg (s : State) : s.overrunRecords.1.msg = s.msg := by
  have hall : ∀ (ns : List Nat) (e : Event),
      (ns.foldl (fun e n => Event.andThen e fun s => s.overrunRecord n) e).1.msg = e.1.msg := by
    intro ns
    induction ns with
    | nil => exact fun _ => rfl
    | cons n ns ih =>
      intro e
      have hrecord : (e.1.overrunRecord n).1.msg = e.1.msg := by rw [(e.1.overrunRecord_only n).rest]
      exact (ih _).trans hrecord
  exact hall _ (s, [])

theorem State.refreshTick_messages (s : State) : s.MessageTurn s.refreshTick := by
  have hoverrun : ∀ u : State, u.MessageTurn u.overrun := by
    intro u
    unfold State.overrun
    dsimp only
    split
    · have hlost : ((u.notify .overrun).withMem u.mem.forget).msg = u.msg := rfl
      exact (overrunMessages_messages _).afterSame ((State.overrunRecords_msg _).trans hlost)
    · exact .of_msg
  unfold State.refreshTick
  dsimp only
  split
  · exact (hoverrun (s.withRefresh _)).afterSame
  · exact .of_msg

/-! ### Start-up and the maintenance link -/

theorem State.enterRun_messages (s : State) : s.MessageTurn s.enterRun := by
  unfold State.enterRun
  split <;> exact MessageUnit.Move.turn .atRun

theorem State.fullReset_messages (s u : State) (cause : ResetCause) : s.MessageTurn (u.fullReset cause) :=
  MessageUnit.Move.turn (.reset u.msg.ackLine)

theorem State.startupLoad_messages (s : State) : s.MessageTurn s.startupLoad := by
  unfold State.startupLoad
  split
  · dsimp only
    split
    · exact (State.enterRun_messages (s.withCfg _)).afterSame
    · exact .of_msg
  · exact .of_msg

theorem State.takeEnterConfig_msg (s : State) : s.takeEnterConfig.msg = s.msg := by
  unfold State.takeEnterConfig
  split
  case h_3 | h_4 => split <;> rfl
  all_goals rfl

theorem State.takeResume_messages (s : State) : s.MessageTurn s.takeResume := by
  unfold State.takeResume
  split
  · split
    · exact s.enterRun_messages.andSame
    · exact .of_msg
  · exact .of_msg

theorem State.takeRelease_messages (s : State) (n : Nat) : s.MessageTurn (s.takeRelease n) := by
  unfold State.takeRelease
  split
  · exact (Event.finish_messages (s.releaseRecord_only n)).andSame
  · exact .of_msg

theorem State.performCommand_messages (s : State) (request : List Byte) (code : Nat) (arg : Byte) :
    s.MessageTurn (s.performCommand request code arg) := by
  have plain : ∀ (k : Nat) (f : State → State), s.MessageTurn (f s) → s.MessageTurn (s.withoutArgument k arg f) := by
    intro k f hf
    unfold State.withoutArgument
    split
    · exact hf
    · exact .of_msg
  unfold State.performCommand
  split
  · exact plain _ _ (.of_msg s.takeEnterConfig_msg)
  · exact plain _ _ s.takeResume_messages
  · exact plain _ _ (.of_msg (by unfold State.takeStore; split <;> rfl))
  · exact plain _ _ (.of_msg (by unfold State.takeLoad; split <;> rfl))
  · split
    · exact .of_msg
    · exact s.takeRelease_messages _
  · exact plain _ _ (MessageUnit.Move.turn .recallsCleared)
  · exact plain _ _ (s.fullReset_messages s _)
  · exact .of_msg

theorem State.linkTransfer_messages (s : State) (x : LinkTransfer) : s.MessageTurn (s.linkTransfer x) := by
  have hrequest : ∀ q, s.MessageTurn ((s.answerAddress x.target).performRequest x.bytes q) := by
    intro q
    unfold State.performRequest
    split
    · exact .of_msg
    · split
      · exact .of_msg
      · split
        · exact (State.performCommand_messages (s.answerAddress x.target) _ _ _).afterSame
        · split <;> exact .of_msg
  unfold State.linkTransfer
  dsimp only
  split
  · split
    · exact .of_msg
    · split
      · exact .of_msg
      · exact hrequest _
  · exact .of_msg

/-! ### Every command -/

/-- What `exec` answers is a turn of the message unit. -/
def MessageTurnOf (s : State) (o : Host.Outcome State Fault Refusal) : Prop := ∃ t, o = complete t ∧ s.MessageTurn t

theorem messageTurnOf {s t : State} (h : s.MessageTurn t) : MessageTurnOf s (complete t) := ⟨t, rfl, h⟩

theorem messageTurnOf_same {s t : State} (h : t.msg = s.msg := by rfl) : MessageTurnOf s (complete t) :=
  messageTurnOf (.of_msg h)

/-- A command that takes effect only under its condition. -/
theorem messageTurnOf_guarded {s t : State} {p : Prop} [Decidable p] (h : s.MessageTurn t) :
    MessageTurnOf s (if p then complete t else complete s) := by
  split
  · exact messageTurnOf h
  · exact messageTurnOf_same

theorem messageTurnOf_initialRefreshDone (s : State) : MessageTurnOf s (execInitialRefreshDone s) := by
  unfold execInitialRefreshDone
  split
  · split <;> exact messageTurnOf_same
  · exact messageTurnOf_same

theorem messageTurnOf_scanWord (s : State) : MessageTurnOf s (execScanWord s) := by
  unfold execScanWord
  split
  · split
    · exact messageTurnOf_same
    · exact messageTurnOf_same (s.serveScanWord_msg _)
  all_goals exact messageTurnOf_same

theorem messageTurnOf_storeDone (s : State) (faults : List (Nat × Word)) :
    MessageTurnOf s (execStoreDone faults s) := by
  unfold execStoreDone
  split
  · refine messageTurnOf_same ?_
    unfold State.endStore
    dsimp only
    split <;> rfl
  all_goals exact messageTurnOf_same

theorem messageTurnOf_loadDone (s : State) : MessageTurnOf s (execLoadDone s) := by
  unfold execLoadDone
  split
  · refine messageTurnOf_same ?_
    unfold State.endLoad
    split <;> rfl
  all_goals exact messageTurnOf_same

theorem State.deskInput_msg (s : State) (high : Bool) : (s.deskInput high).msg = s.msg := by
  unfold State.deskInput
  split <;> rfl

theorem State.deskChange_msg (s : State) : s.deskChange.msg = s.msg := by
  unfold State.deskChange State.followDesk
  split <;> rfl

/-- Every command is a turn of the message unit. -/
theorem exec_messages (c : Instr) (s : State) : MessageTurnOf s (exec c s) := by
  cases c with
  | powerOn | supplyDip | resetLine => exact messageTurnOf (s.fullReset_messages _ _)
  | powerUpEnd straps => exact messageTurnOf_guarded (MessageUnit.Move.turn (.beside _ s.msg.ackLine _))
  | memoryInitPauseEnd | refreshDone | axleWindowEnd => exact messageTurnOf_guarded .of_msg
  | initialRefreshDone => exact messageTurnOf_initialRefreshDone s
  | startupLoadDone => exact messageTurnOf_guarded (s.startupLoad_messages.andSame (State.releaseHeld_msg _))
  | deskOnInputChange high => exact messageTurnOf_same (s.deskInput_msg high)
  | deskOnFilterChange => exact messageTurnOf_guarded (.of_msg s.deskChange_msg)
  | millisecondTick =>
    unfold exec execMillisecondTick
    dsimp only
    split <;> exact messageTurnOf_same
  | refreshTick => exact messageTurnOf_guarded s.refreshTick_messages
  | arbiterGrant => exact messageTurnOf s.arbitrate_messages
  | upstreamColumnDone => exact messageTurnOf_same s.columnDone_msg
  | upstreamArrival r => exact messageTurnOf_same (s.arrive_msg r)
  | statusWord0Read a => exact messageTurnOf_same (s.arrive_msg _)
  | scanBurstArrival start count => exact messageTurnOf_same (s.arriveBurst_msg start count)
  | scanWord => exact messageTurnOf_scanWord s
  | freshnessExpiry n => exact messageTurnOf_guarded (Event.finish_messages (s.expire_only n))
  | changeoverTimerExpiry => exact messageTurnOf_guarded (State.takeRequests_messages (s.setSelection _) _).afterSame
  | axlePulse | readTransfer | resetLineReleased | supplyGoodAfterDip => exact messageTurnOf_same
  | ackLineAsserted | ackLineReleased => exact messageTurnOf (MessageUnit.Move.turn (.beside s.msg.stages _ _))
  | ackReleaseSettled =>
    exact messageTurnOf_guarded (MessageUnit.Move.turn (.beside s.msg.stages s.msg.ackLine .released))
  | ackPress => exact messageTurnOf_guarded s.press_messages
  | postMessageWord | postRaise | postClear | postAck | badPost => exact messageTurnOf (s.deskWrite_messages _ _)
  | storeDone faults => exact messageTurnOf_storeDone s faults
  | loadDone => exact messageTurnOf_loadDone s
  | linkAddressProbe | readRequest | sectionWrite | enterConfig | resume | store | load | release | clearRecall
  | restart | badCommand => exact messageTurnOf (s.linkTransfer_messages _)

/-- A step is a turn of the message unit: it idles or runs the front command. -/
theorem step_messages {s t : State} (h : step s = .next t) : s.MessageTurn t := by
  unfold step at h
  split at h
  · cases h
    exact .refl s
  · rename_i c rest _
    obtain ⟨u, hexec, hu⟩ := exec_messages c (s.withPending rest)
    rw [hexec] at h
    cases h
    exact hu.andSame.afterSame

end Sys2Proof.Machine
end

section
/-! PROOFS. The message list stays within its bounds: O6. -/

namespace Sys2Proof.Machine

/-! ### The moves keep the bounds -/

section
variable {m : MessageUnit} (h : m.Sound) (now : Time)
include h

/-- The unit with another list within the bounds, its head marked (R132). -/
theorem MessageUnit.Sound.withList {es : List Entry} (hes : ListSound m.nextOrdinal es) (hcap : es.length ≤ 32) :
    (m.withList now es).Sound where
  list := hes.markHead now m.entries
  capacity := by
    rw [MessageUnit.withList, length_markHead]
    exact hcap
  nextOrdinal := h.nextOrdinal
  recalls := h.recalls

theorem MessageUnit.Sound.replace {e x : Entry} (he : e ∈ m.entries) (hx : x.Sound m.nextOrdinal)
    (hcode : x.code = e.code) (hord : x.ordinal = e.ordinal) : (m.withList now (replaceEntry x m.entries)).Sound :=
  h.withList now (h.list.replace he hx hcode hord) ((length_replaceEntry h.list he hcode).trans_le h.capacity)

theorem MessageUnit.Sound.removeEntry (e : Entry) : (m.removeEntry now e).Sound :=
  { h.withList now (h.list.sublist (dropEntry_sublist e.code _))
      ((dropEntry_sublist e.code _).length_le.trans h.capacity) with
    recalls := List.length_take_le _ _ }

/-- A creation under the next ordinal, in a part of the list that leaves room (R131, R134). -/
theorem MessageUnit.Sound.createIn (hnext : m.nextOrdinal < 4294967295) (r : RaiseRequest) {base : List Entry}
    (hbase : base.Sublist m.entries) (hroom : base.length < 32) (hnew : ∀ e ∈ m.entries, e.code ≠ r.code) :
    (m.createIn now r base).Sound where
  list := ((h.list.sublist hbase).place_new now r fun e he => hnew e (hbase.subset he)).markHead now m.entries
  capacity := by
    rw [MessageUnit.createIn, MessageUnit.withList, length_markHead, length_placeEntry]
    exact hroom
  nextOrdinal := hnext
  recalls := h.recalls

theorem MessageUnit.Sound.raise (r : RaiseRequest) : (m.raise now r).1.Sound := by
  cases hfind : findEntry r.code m.entries with
  | some e =>
    rw [m.raise_present now r hfind]
    have he := (findEntry_mem hfind).1
    exact h.replace now he (raiseAgain_sound r (h.list.entry e he)) rfl rfl
  | none =>
    obtain ⟨hroomy, hnext⟩ := h.roomForOrdinal
    have hlength := m.length_roomForOrdinal
    have hnew : ∀ e ∈ m.roomForOrdinal.entries, e.code ≠ r.code := by
      intro e he hc
      have hbody : e.body ∈ m.bodies := m.bodies_roomForOrdinal ▸ List.mem_map_of_mem he
      obtain ⟨x, hx, hxe⟩ := List.mem_map.1 hbody
      exact (findEntry_none_iff _ _).1 hfind x hx ((congrArg Entry.code hxe).trans hc)
    rcases h.capacity.lt_or_eq with hroom | hfull
    · rw [m.raise_room now r hfind hroom]
      exact hroomy.createIn now hnext r (List.Sublist.refl _) (hlength.trans_lt hroom) hnew
    · by_cases hsorts : m.sortsBeforeLast now r = true
      · rw [MessageUnit.raise_evicts now r hfind hfull hsorts]
        refine hroomy.createIn now hnext r (List.dropLast_sublist _) ?_ hnew
        rw [List.length_dropLast, hlength, hfull]
        decide
      · rw [MessageUnit.raise_drops now r hfind hfull hsorts]
        exact h

theorem MessageUnit.Sound.clear (code : Nat) : (m.clear now code).1.Sound := by
  cases hfind : findEntry code m.entries with
  | none =>
    rw [m.clear_absent now code hfind]
    exact h
  | some e =>
    have he := (findEntry_mem hfind).1
    cases hstate : e.state with
    | unacked =>
      rw [m.clear_unacked now code hfind hstate]
      exact h.replace now he ((h.list.entry e he).withState (by rw [hstate]; nofun) _) rfl rfl
    | acked =>
      rw [m.clear_acked now code hfind hstate]
      exact h.removeEntry now e
    | clearedUnacked =>
      rw [m.clear_clearedUnacked now code hfind hstate]
      exact h

theorem MessageUnit.Sound.ack (code : Nat) : (m.ack now code).1.Sound := by
  cases hfind : findEntry code m.entries with
  | none =>
    rw [MessageUnit.ack_absent now hfind]
    exact h
  | some e =>
    have he := (findEntry_mem hfind).1
    by_cases hacked : e.state = .acked
    · rw [MessageUnit.ack_acked now hfind hacked]
      exact h
    · by_cases hsystem : isSystemCode code = true
      · rw [MessageUnit.ack_system now hfind hsystem hacked]
        exact h.removeEntry now e
      · cases hstate : e.state with
        | acked => exact absurd hstate hacked
        | unacked =>
          rw [MessageUnit.ack_unacked now hfind hsystem hstate]
          exact h.replace now he ((h.list.entry e he).withState hacked _) rfl rfl
        | clearedUnacked =>
          rw [MessageUnit.ack_clearedUnacked now hfind hsystem hstate]
          exact h.removeEntry now e

omit now in
theorem MessageUnit.Sound.move {m' : MessageUnit} (hm : m.Move m') : m'.Sound := by
  cases hm with
  | raise now r => exact h.raise now r
  | clear now code => exact h.clear now code
  | ack now code => exact h.ack now code
  | beside stages line d => exact ⟨h.list, h.capacity, h.nextOrdinal, h.recalls⟩
  | recallsCleared => exact ⟨h.list, h.capacity, h.nextOrdinal, Nat.zero_le _⟩
  | atRun => exact ⟨.nil _, Nat.zero_le _, Nat.zero_le _, h.recalls⟩
  | reset line => exact ⟨.nil _, Nat.zero_le _, Nat.zero_le _, Nat.zero_le _⟩

omit now in
theorem MessageUnit.Sound.moves {m' : MessageUnit} (hm : Relation.ReflTransGen MessageUnit.Move m m') : m'.Sound := by
  induction hm with
  | refl => exact h
  | tail _ hmove ih => exact ih.move hmove

end

/-- Settles O6: a step is a chain of moves of the message unit (`step_messages`), and each keeps the bounds of the list
(`MessageUnit.Sound.move`). -/
theorem everyStepKeepsTheListInOrder : Obligations.EveryStepKeepsTheListInOrder := by
  intro s t hinv h
  exact (listInv_iff t).2 (hinv.sound.moves (step_messages h))

end Sys2Proof.Machine
end

section
/-! PROOFS. Every command ends with the lines driven: O2. Commands of the link that are refused before they are taken: O58. -/

namespace Sys2Proof.Machine

/-! ### The ALERT line (R145) -/

theorem Entry.alerting_iff (e : Entry) :
    e.alerting = true ↔ e.cls = 0 ∧ (e.state = .unacked ∨ e.state = .clearedUnacked) := by
  rw [Entry.alerting, Bool.and_eq_true, beq_iff_eq, bne_iff_ne]
  refine and_congr_right fun _ => ?_
  cases e.state <;> simp

theorem State.speedAlerting_iff (s : State) (n : Nat) :
    s.speedAlerting n = true ↔ (s.cfg.entry n).kind = .speed ∧ (s.record n).status = .valid ∧
      ∃ p, (s.speedKind n).presented = some p ∧ (p.cls = 4 ∨ p.cls = 5) := by
  rw [State.speedAlerting, Bool.and_eq_true, Bool.and_eq_true, beq_iff_eq, beq_iff_eq, and_assoc]
  refine and_congr_right fun _ => and_congr_right fun _ => ?_
  cases (s.speedKind n).presented with
  | none => simp
  | some p => simp

theorem State.alertCondition_iff (s : State) :
    s.alertCondition = true ↔ s.ctl.part = .run ∧
      ((∃ e ∈ s.msg.entries, e.cls = 0 ∧ (e.state = .unacked ∨ e.state = .clearedUnacked)) ∨
        ∃ n, n < 24 ∧ (s.cfg.entry n).kind = .speed ∧ (s.record n).status = .valid ∧
          ∃ p, (s.speedKind n).presented = some p ∧ (p.cls = 4 ∨ p.cls = 5)) := by
  have hindex : ∀ n, n ∈ recordIndices ↔ n < 24 := fun n => List.mem_range
  simp only [State.alertCondition, Bool.and_eq_true, beq_iff_eq, Bool.or_eq_true, List.any_eq_true,
    Entry.alerting_iff, State.speedAlerting_iff, hindex, State.part]

/-- Settles O2: every command answers a state whose lines are driven (`exec_drives`), and the line then stands as
`State.alertCondition_iff` says. -/
theorem everyCommandAnswersAndDrivesAlert : Obligations.EveryCommandAnswersAndDrivesAlert := by
  intro c s
  obtain ⟨u, hexec⟩ := exec_drives c s
  exact ⟨u.driveLines, hexec, u.alertCondition_iff⟩

/-! ### Commands refused before they are taken (R155, R160, R161) -/

/-- A request whose bytes are not framed right is no command (R155). -/
theorem parseRequest_framedWrong {code : Byte} {f : CommandFrame} (h : ¬FramedRight code f) :
    parseRequest f.target (commandBytes code f) = none := by
  rw [parseRequest_command, if_neg]
  unfold FramedRight at h
  rintro ⟨hlength, hcheck⟩
  by_cases hflag : f.checkFlag = true
  · exact h ((hcheck hflag).trans (if_pos hflag).symm)
  · rw [if_neg hflag] at hlength
    exact h ((List.length_eq_zero_iff.1 hlength).trans (if_neg hflag).symm)

/-- Such a request is discarded with CHECK_FAIL (R155, R160). -/
theorem linkTransfer_framedWrong {s : State} {code : Byte} {f : CommandFrame} (ht : LinkTakes s f.target)
    (h : ¬FramedRight code f) :
    s.linkTransfer (commandTransfer code f) = (s.answerAddress f.target).finishRequest .checkFail 0 0 := by
  have hack : s.acknowledges (commandTransfer code f).target = true := (acknowledges_iff s _).2 ht
  have hparse : parseRequest (commandTransfer code f).target (commandTransfer code f).bytes = none :=
    parseRequest_framedWrong h
  unfold State.linkTransfer
  dsimp only
  rw [if_pos hack, hparse]
  rfl

/-- No command has this code (R161). -/
theorem performCommand_badCommand (s : State) (request : List Byte) {code : Nat} (arg : Byte) (h : code = 0 ∨ 8 ≤ code) :
    s.performCommand request code arg = s.commandResult .badCommand code := by
  unfold State.performCommand
  split
  case h_8 => rfl
  all_goals omega

/-- A command other than RELEASE takes no argument (R161). -/
theorem performCommand_argument (s : State) (request : List Byte) {code : Nat} {arg : Byte} (hlow : 1 ≤ code)
    (hhigh : code ≤ 7) (hrelease : code ≠ 5) (harg : arg ≠ 0#8) :
    s.performCommand request code arg = s.commandResult .badValue code := by
  obtain rfl | rfl | rfl | rfl | rfl | rfl : code = 1 ∨ code = 2 ∨ code = 3 ∨ code = 4 ∨ code = 6 ∨ code = 7 := by
    omega
  all_goals exact if_neg harg

/-- There is no record above 23 to RELEASE (R161). -/
theorem performCommand_release (s : State) (request : List Byte) {arg : Byte} (harg : 23 < arg.toNat) :
    s.performCommand request 5 arg = s.commandResult .badValue 5 := if_pos harg

/-- The commands, each with the code it carries. -/
inductive CommandCarries (f : CommandFrame) : Byte → Instr → Prop where
  | enterConfig : CommandCarries f 1#8 (.enterConfig f)
  | resume : CommandCarries f 2#8 (.resume f)
  | store : CommandCarries f 3#8 (.store f)
  | load : CommandCarries f 4#8 (.load f)
  | release : CommandCarries f 5#8 (.release f)
  | clearRecall : CommandCarries f 6#8 (.clearRecall f)
  | restart : CommandCarries f 7#8 (.restart f)
  | badCommand (code : Byte) : CommandCarries f code (.badCommand code f)

/-- Each is carried by one transfer. -/
theorem CommandCarries.exec {f : CommandFrame} {code : Byte} {c : Instr} (h : CommandCarries f code c) (s : State) :
    exec c s = complete (s.linkTransfer (commandTransfer code f)) := by
  cases h <;> rfl

/-- A command that ends with a result: nothing but the link changes. -/
theorem CommandCarries.ends {f : CommandFrame} {code : Byte} {c : Instr} (h : CommandCarries f code c) {s : State}
    (ht : LinkTakes s f.target) {r : LinkResult} {sectionNo detail : Nat}
    (hlink : s.linkTransfer (commandTransfer code f) = (s.answerAddress f.target).finishRequest r sectionNo detail) :
    ∃ t, Machine.exec c s = .next t ∧ LinkDone s t (resultWord r sectionNo detail) ∧
      t = { s with link := t.link, lines := t.lines } := by
  have hack := (acknowledges_iff s _).2 ht
  refine ⟨_, h.exec s, ?_, ?_⟩
  · rw [hlink]
    simp only [LinkDone, State.driveLines_link, State.finishRequest, State.withLink_link, State.answerAddress, hack]
  · rw [hlink]
    rfl

/-- CLEAR_RECALL taken: the recall stack is emptied (R144). -/
theorem linkTransfer_clearRecall {s : State} {f : CommandFrame} (ht : LinkTakes s f.target) (hf : FramedRight 6#8 f)
    (harg : f.arg = 0#8) : s.linkTransfer (commandTransfer 6#8 f) =
      ((s.answerAddress f.target).withMsg { s.msg with recalls := [] }).commandResult .ok 6 := by
  rw [linkTransfer_command ht hf]
  exact if_pos harg

/-- Settles O58: the checks come before the command (`linkTransfer_framedWrong`, `performCommand_badCommand`,
`performCommand_argument`, `performCommand_release`), and each ends the request with its result (`CommandCarries.ends`). -/
theorem commandsAreCheckedBeforeTheyAreTaken : Obligations.CommandsAreCheckedBeforeTheyAreTaken := by
  refine ⟨fun s f code c ht hc => ?_, fun s f ht hf harg => ?_⟩
  · have hcarries : CommandCarries f code c := by
      rcases hc with ⟨rfl, rfl⟩ | ⟨rfl, rfl⟩ | ⟨rfl, rfl⟩ | ⟨rfl, rfl⟩ | ⟨rfl, rfl⟩ | ⟨rfl, rfl⟩ | ⟨rfl, rfl⟩ | ⟨rfl, -⟩
      all_goals constructor
    have hresult : ∀ r : LinkResult,
        resultWord r 14 code.toNat = BitVec.ofNat 16 (4096 * r.code + 0xE00 + code.toNat) := by
      intro r
      rw [resultWord, word, Nat.mul_comm r.code]
      rfl
    refine ⟨fun hf => ?_, fun hf => ⟨fun hcode => ?_, fun hlow hhigh hrelease harg => ?_, fun hcode harg => ?_⟩⟩
    · exact hcarries.ends ht (linkTransfer_framedWrong ht hf)
    · have hnumber : code.toNat = 0 ∨ 8 ≤ code.toNat := hcode.imp_left fun h => by rw [h]; rfl
      obtain ⟨t, hexec, hdone, hframe⟩ := hcarries.ends ht
        ((linkTransfer_command ht hf).trans (performCommand_badCommand _ _ _ hnumber))
      exact ⟨t, hexec, hresult .badCommand ▸ hdone, hframe⟩
    · have hnumber : code.toNat ≠ 5 := fun h => hrelease (BitVec.eq_of_toNat_eq h)
      obtain ⟨t, hexec, hdone, hframe⟩ := hcarries.ends ht
        ((linkTransfer_command ht hf).trans (performCommand_argument _ _ hlow hhigh hnumber harg))
      exact ⟨t, hexec, hresult .badValue ▸ hdone, hframe⟩
    · subst hcode
      exact hcarries.ends ht ((linkTransfer_command ht hf).trans (performCommand_release _ _ harg))
  · have hexec := (CommandCarries.clearRecall (f := f)).exec s
    rw [linkTransfer_clearRecall ht hf harg] at hexec
    exact ⟨_, hexec, rfl, commandResult_linkDone ht rfl .ok 6, rfl⟩

end Sys2Proof.Machine
end

section
/-! PROOFS. The attention and wait lines (O3), the read of STATUS word 0 (O26) and read requests of the link (O55). -/

namespace Sys2Proof.Machine

/-! ### The attention line (R150) -/

theorem Notices.any_iff (x : Notices) :
    x.any = true ↔ x.leftValid = true ∨ x.refusal = true ∨ x.barred = true ∨ x.listOverflow = true ∨
      x.overrun = true ∨ x.copyWrite = true := by
  simp only [Notices.any, Bool.or_eq_true, or_assoc]

/-- Settles O3: the lines are driven last (`exec_drives`), by conditions that no line enters. -/
theorem attnFollowsTheNoticeSet : Obligations.AttnFollowsTheNoticeSet := by
  intro c s t h
  obtain ⟨u, hexec⟩ := exec_drives c s
  rw [hexec] at h
  cases h
  exact ⟨u.status.notices.any_iff, u.waitCondition_iff⟩

/-! ### STATUS word 0 (R149, Table 8.2) -/

/-- The notices in bits 5 to 0, one bit for each. -/
theorem Notices.testBit_toNat (x : Notices) :
    x.toNat.testBit 5 = x.copyWrite ∧ x.toNat.testBit 4 = x.overrun ∧ x.toNat.testBit 3 = x.listOverflow ∧
      x.toNat.testBit 2 = x.barred ∧ x.toNat.testBit 1 = x.refusal ∧ x.toNat.testBit 0 = x.leftValid := by
  obtain ⟨leftValid, refusal, barred, listOverflow, overrun, copyWrite⟩ := x
  revert leftValid refusal barred listOverflow overrun copyWrite
  decide

theorem State.statusWord_zero_toNat (s : State) :
    (s.statusWord 0).toNat = 4096 * s.ctl.part.code + s.status.notices.toNat := by
  have hpart := s.ctl.part.code_le
  have hnotices := s.status.notices.toNat_lt
  rw [State.statusWord, word_toNat, State.part]
  omega

/-- Below the part state, a bit of the word is one of the notices' bits. -/
theorem State.statusWord_zero_bit (s : State) {i : Nat} (hi : i < 12) :
    (s.statusWord 0).getLsbD i = s.status.notices.toNat.testBit i := by
  have hnotices := s.status.notices.toNat_lt
  rw [BitVec.getLsbD, s.statusWord_zero_toNat, show 4096 = 2 ^ 12 from rfl,
    Nat.testBit_two_pow_mul_add _ (by omega), if_pos hi]

/-- The two commands that carry the read are one arrival (log 15). -/
theorem exec_readArrival {c : Instr} {a : Addr} (s : State)
    (h : c = .statusWord0Read a ∨ c = .upstreamArrival (.read a)) : exec c s = complete (s.arrive (.read a)) := by
  rcases h with rfl | rfl <;> rfl

/-- The read of STATUS word 0 completes at its arrival with the word, and the notices are cleared. -/
theorem arrive_statusWordZero {s : State} {a : Addr} (hs : s.inService = true) (hidle : s.path.up = .idle)
    (hclass : s.cfg.classify .upstream a = .status 0) :
    s.arrive (.read a) = (s.withPath { s.path with upData := s.statusWord 0 }).clearNotices := by
  have hread : s.disposition (.read a) = .answeredStatus0 := by
    rw [s.disposition_read a hs, hclass]
    rfl
  rw [s.arrive_idle _ hidle, State.dispose, hread, ← completeRead_idle hidle]

/-- Settles O26: the read is answered as `arrive_statusWordZero` says, and the bits of the word are those of
`State.statusWord_zero_bit`. -/
theorem statusWordZeroReturnsAndClearsNotices : Obligations.StatusWordZeroReturnsAndClearsNotices := by
  intro s a c hs hidle hclass hc
  have hexec := exec_readArrival s hc
  rw [arrive_statusWordZero hs hidle hclass] at hexec
  have hnotices := s.status.notices.toNat_lt
  have hcode : s.ctl.part.code = if s.ctl.part = .run then 3 else 6 := by
    rcases (s.inService_iff).1 hs with h | h <;> rw [h] <;> rfl
  have hbit : ∀ {i b}, i < 12 → s.status.notices.toNat.testBit i = b → (s.statusWord 0).getLsbD i = b :=
    fun hi hb => (s.statusWord_zero_bit hi).trans hb
  obtain ⟨h5, h4, h3, h2, h1, h0⟩ := s.status.notices.testBit_toNat
  refine ⟨_, hexec, rfl, ?_, ?_, hbit (by decide) h5, hbit (by decide) h4, hbit (by decide) h3, hbit (by decide) h2,
    hbit (by decide) h1, hbit (by decide) h0, rfl, rfl, rfl⟩
  · show (s.statusWord 0).toNat / 4096 = _
    rw [s.statusWord_zero_toNat, ← hcode]
    omega
  · show (s.statusWord 0).toNat % 4096 < 64
    rw [s.statusWord_zero_toNat]
    omega

/-! ### Read requests (R155, R159) -/

/-- Table 9.3 has no section but these. -/
theorem sectionSize_none {i : Nat} (h : i ∉ [0, 1, 2, 3, 4, 5, 6, 8, 9, 14]) : sectionSize i = none := by
  unfold sectionSize
  split
  case h_11 => rfl
  all_goals exact absurd (by decide) h

theorem sectionSize_le {i size : Nat} (h : sectionSize i = some size) : i ≤ 14 := by
  by_contra hi
  rw [sectionSize_none fun hmem => ?_] at h
  · cases h
  · simp only [List.mem_cons, List.not_mem_nil, or_false] at hmem
    omega

/-- Outside the command section a request is checked for its range alone, be it a read or a write. -/
theorem rangeCheck_plain {q : LinkRequest} (h14 : q.sectionNo ≠ 14) {size : Nat}
    (h : sectionSize q.sectionNo = some size) :
    rangeCheck q = if size ≤ q.offset + q.count - 1 then some .badRange else none := by
  simp only [rangeCheck, h, h14, and_false, if_false]

/-- A read request to section 14 is refused as one to a section that does not exist is. -/
theorem rangeCheck_read_badSection {q : LinkRequest} (hr : q.isRead = true)
    (h : sectionSize q.sectionNo = none ∨ q.sectionNo = 14) : rangeCheck q = some .badSection := by
  rcases h with h | h
  · exact rangeCheck_badSection h
  · simp only [rangeCheck, h, hr, sectionSize, and_self, if_true]

/-- A read request that fails a check: nothing but the link changes (R160). -/
theorem exec_readRequest_refused {s : State} {x : LinkTransfer} {q : LinkRequest} (ht : LinkTakes s x.target)
    (hq : WellFramed x q) {r : LinkResult} (h : rangeCheck q = some r) :
    ∃ t, exec (.readRequest x) s = .next t ∧
      LinkDone s t (BitVec.ofNat 16 (4096 * r.code + 256 * min q.sectionNo 15)) ∧
      t = { s with link := t.link, lines := t.lines } := by
  obtain ⟨t, hexec, hcfg, hdone, hrest⟩ := exec_sectionWrite_finishes (c := s.cfg) ht hq
    (performRequest_unranged _ x.bytes h)
  exact ⟨t, hexec, hdone, by rw [hcfg] at hrest; exact hrest⟩

/-- One that passes is performed in the state it finds, its address acknowledged (R154, R159). -/
theorem exec_readRequest_passes {s : State} {x : LinkTransfer} {q : LinkRequest} (ht : LinkTakes s x.target)
    (hq : WellFramed x q) (hr : q.isRead = true) (h : rangeCheck q = none) :
    exec (.readRequest x) s = complete ((s.answerAddress x.target).performRead q) := by
  show complete (s.linkTransfer x) = _
  rw [linkTransfer_framed ht hq, State.performRequest, h]
  exact congrArg complete (if_pos hr)

/-- The words of the reply, as the statement names them for each section. -/
theorem State.sectionWord_is (s : State) (sectionNo k : Nat) :
    if sectionNo = 8 then StatusWordIs s k (s.sectionWord sectionNo k)
    else if sectionNo = 9 then s.sectionWord sectionNo k = s.link.result
    else s.sectionWord sectionNo k = at0 (s.cfg.get sectionNo) k := by
  unfold State.sectionWord
  split_ifs
  · exact s.statusWord_is k
  · rfl
  · rfl

/-- Settles O55: checks 1 and 2 by `rangeCheck`, and the words of the reply by `State.sectionWord_is`. -/
theorem readRequestLoadsTheReply : Obligations.ReadRequestLoadsTheReply := by
  refine ⟨⟨rfl, fun i => sectionSize_none⟩, fun c => rfl, fun s x q ht hq hr => ?_⟩
  have hcount := hq.count_pos
  refine ⟨fun size hsize h14 hle => ?_, fun h => exec_readRequest_refused ht hq (rangeCheck_read_badSection hr h),
    fun size hsize h14 hlt => ?_⟩
  · have hpass : rangeCheck q = none := by rw [rangeCheck_plain h14 hsize, if_neg (by omega)]
    have hack := (acknowledges_iff s _).2 ht
    have hmin : min q.sectionNo 15 = q.sectionNo := by
      have := sectionSize_le hsize
      omega
    refine ⟨_, exec_readRequest_passes ht hq hr hpass, ?_, ?_, fun i w hw => ?_, rfl⟩
    · simp only [State.driveLines_link, State.performRead, State.withLink_link, State.answerAddress, hack, resultWord,
        LinkResult.code, hmin, word, Nat.zero_mul, Nat.zero_add, Nat.add_zero, Nat.mul_comm q.sectionNo]
    · simp only [State.driveLines_link, State.performRead, State.withLink_link, List.length_map, List.length_range]
    · simp only [State.driveLines_link, State.performRead, State.withLink_link, List.getElem?_map,
        Option.map_eq_some_iff] at hw
      obtain ⟨j, hj, rfl⟩ := hw
      obtain ⟨-, rfl⟩ := List.getElem?_eq_some_iff.1 hj
      rw [List.getElem_range]
      exact (s.answerAddress x.target).sectionWord_is q.sectionNo (q.offset + i)
  · obtain ⟨t, hexec, hdone, hrest⟩ := exec_readRequest_refused ht hq (r := .badRange)
      (by rw [rangeCheck_plain h14 hsize, if_pos (by omega)])
    rw [Nat.min_eq_left (by have := sectionSize_le hsize; omega)] at hdone
    exact ⟨t, hexec, hdone, hrest⟩

end Sys2Proof.Machine
end

section
/-! PROOF SUPPORT. What the operations keep of the status unit: a notice set stays set and no count falls
(`State.KeepsStatus`). -/

namespace Sys2Proof.Machine

/-! ### Notices and counts that are kept (R148, R151) -/

/-- A count within its range does not fall and stays within it. -/
def CountKept (m n : Nat) : Prop := m ≤ 255 → m ≤ n ∧ n ≤ 255

theorem CountKept.refl (n : Nat) : CountKept n n := fun h => ⟨Nat.le_refl n, h⟩

theorem CountKept.trans {k m n : Nat} (h1 : CountKept k m) (h2 : CountKept m n) : CountKept k n := fun h =>
  have hm := h1 h
  have hn := h2 hm.2
  ⟨hm.1.trans hn.1, hn.2⟩

theorem countKept_countUp (n : Nat) : CountKept n (countUp n) := by
  intro h
  unfold countUp
  split <;> omega

/-- None of the five counts falls. -/
structure Counts.Kept (x y : Counts) : Prop where
  overflow : CountKept x.overflow y.overflow
  lateAck : CountKept x.lateAck y.lateAck
  badPost : CountKept x.badPost y.badPost
  strayClear : CountKept x.strayClear y.strayClear
  copyWrite : CountKept x.copyWrite y.copyWrite

theorem Counts.Kept.refl (x : Counts) : x.Kept x := ⟨.refl _, .refl _, .refl _, .refl _, .refl _⟩

theorem Counts.Kept.trans {x y z : Counts} (h1 : x.Kept y) (h2 : y.Kept z) : x.Kept z :=
  ⟨h1.overflow.trans h2.overflow, h1.lateAck.trans h2.lateAck, h1.badPost.trans h2.badPost,
    h1.strayClear.trans h2.strayClear, h1.copyWrite.trans h2.copyWrite⟩

/-- From `s` to `t` no count falls, and no notice is cleared where `unread` says that the desk computer reads none. -/
structure State.KeepsStatus (unread : Prop) (s t : State) : Prop where
  notices : unread → s.status.notices.within t.status.notices
  counts : s.status.counts.Kept t.status.counts

section
variable {unread : Prop} {s t u : State}

theorem State.KeepsStatus.of_status (h : t.status = s.status := by rfl) : s.KeepsStatus unread t where
  notices _ := by
    rw [h]
    exact Notices.within_refl _
  counts := by
    rw [h]
    exact .refl _

theorem State.KeepsStatus.refl (s : State) : s.KeepsStatus unread s := .of_status

theorem State.KeepsStatus.trans (h1 : s.KeepsStatus unread t) (h2 : t.KeepsStatus unread u) :
    s.KeepsStatus unread u where
  notices hu := Notices.within_trans (h1.notices hu) (h2.notices hu)
  counts := h1.counts.trans h2.counts

/-- Other parts of the state change before the status unit does. -/
theorem State.KeepsStatus.afterSame (h : t.KeepsStatus unread u) (ht : t.status = s.status := by rfl) :
    s.KeepsStatus unread u := (State.KeepsStatus.of_status ht).trans h

/-- Other parts of the state change after the status unit has. -/
theorem State.KeepsStatus.andSame (h : s.KeepsStatus unread t) (hu : u.status = t.status := by rfl) :
    s.KeepsStatus unread u := h.trans (.of_status hu)

end

section
variable {unread : Prop} (s : State)

theorem State.notify_keepsStatus (x : Notice) : s.KeepsStatus unread (s.notify x) where
  notices _ := s.status.notices.within_add x
  counts := .refl _

theorem State.countOverflow_keepsStatus : s.KeepsStatus unread s.countOverflow where
  notices _ := Notices.within_refl _
  counts := { Counts.Kept.refl s.status.counts with overflow := countKept_countUp _ }

theorem State.countLateAck_keepsStatus : s.KeepsStatus unread s.countLateAck where
  notices _ := Notices.within_refl _
  counts := { Counts.Kept.refl s.status.counts with lateAck := countKept_countUp _ }

theorem State.countBadPost_keepsStatus : s.KeepsStatus unread s.countBadPost where
  notices _ := Notices.within_refl _
  counts := { Counts.Kept.refl s.status.counts with badPost := countKept_countUp _ }

theorem State.countStrayClear_keepsStatus : s.KeepsStatus unread s.countStrayClear where
  notices _ := Notices.within_refl _
  counts := { Counts.Kept.refl s.status.counts with strayClear := countKept_countUp _ }

theorem State.countCopyWrite_keepsStatus : s.KeepsStatus unread s.countCopyWrite where
  notices _ := Notices.within_refl _
  counts := { Counts.Kept.refl s.status.counts with copyWrite := countKept_countUp _ }

/-! ### The message unit's requests (R134 to R137) -/

theorem State.raise_keepsStatus (r : RaiseRequest) : s.KeepsStatus unread (s.raise r).1 := by
  have hfull : s.KeepsStatus unread (((s.withMsg (s.msg.raise s.now r).1).countOverflow).notify .listOverflow) :=
    (((s.withMsg _).countOverflow_keepsStatus).trans (State.notify_keepsStatus _ _)).afterSame
  unfold State.raise
  dsimp only
  split
  · exact .of_status
  · exact .of_status
  · exact hfull
  · exact hfull

theorem State.acknowledge_keepsStatus (code : Nat) : s.KeepsStatus unread (s.acknowledge code) := by
  unfold State.acknowledge
  dsimp only
  split
  · exact .of_status
  · exact .of_status
  · exact s.countLateAck_keepsStatus

theorem State.takeOne_keepsStatus (r : PartRequest) : s.KeepsStatus unread (s.takeOne r).1 := by
  cases r with
  | raise r awaits =>
    cases awaits with
    | none => exact s.raise_keepsStatus r
    | some n =>
      refine (s.raise_keepsStatus r).andSame ?_
      simp only [State.takeOne, State.awaitIf]
      split <;> rfl
  | condRaise r =>
    simp only [State.takeOne]
    split
    · exact s.raise_keepsStatus r
    · exact .refl s
  | condClear code => exact .of_status
  | overrun r => exact s.raise_keepsStatus r

theorem takeAll_keepsStatus (f : Nat) :
    ∀ (rs : List PartRequest) (s : State), s.KeepsStatus unread (takeAll f rs s) := by
  induction f with
  | zero => exact fun _ s => .refl s
  | succ f ih =>
    intro rs s
    match rs with
    | [] => exact .refl s
    | [r] => exact (s.takeOne_keepsStatus r).trans (ih _ _)
    | r :: r' :: rest => exact ((State.takeOne_keepsStatus (s.choose _).2 _).trans (ih _ _)).afterSame

theorem State.takeRequests_keepsStatus (rs : List PartRequest) : s.KeepsStatus unread (s.takeRequests rs) :=
  takeAll_keepsStatus _ rs s

theorem divideRequests_status (rs : List PartRequest) : ∀ s : State, (divideRequests rs s).1.status = s.status := by
  induction rs with
  | nil => exact fun _ => rfl
  | cons r rest ih =>
    intro s
    simp only [divideRequests]
    split <;> exact ih (s.choose 2).2

theorem State.press_keepsStatus : s.KeepsStatus unread s.press := by
  have hjudge : ∀ u : State, u.KeepsStatus unread u.judgePress := by
    intro u
    unfold State.judgePress
    split
    · exact u.countLateAck_keepsStatus
    · split
      · exact u.acknowledge_keepsStatus _
      · exact u.countLateAck_keepsStatus
  unfold State.press
  dsimp only
  split
  · exact (hjudge (s.withMsg _)).afterSame
  · exact .of_status

/-- A captured POST write (R126, R127). -/
theorem State.capture_keepsStatus (k : Nat) (w : Word) : s.KeepsStatus unread (s.capture k w) := by
  have hperform : ∀ c st marker act, s.KeepsStatus unread (s.postPerform c st marker act) := by
    intro c st marker act
    cases act with
    | raise => exact s.raise_keepsStatus _
    | clear =>
      simp only [State.postPerform, State.postClear]
      split
      · exact .of_status
      · exact s.countStrayClear_keepsStatus
    | ack => exact s.acknowledge_keepsStatus _
  have hacted : ∀ c, s.KeepsStatus unread (s.acted c w) := by
    intro c
    unfold State.acted
    split
    · split
      · exact s.countBadPost_keepsStatus
      · exact hperform _ _ _ _
    · exact s.countBadPost_keepsStatus
  unfold State.capture
  split
  · exact .refl s
  · split
    · exact .of_status
    · rw [captureAction_eq]
      exact (hacted _).andSame

end

section
variable {unread : Prop}

/-! ### The record engine's events (R13, R40, R61, R67) -/

/-- An event at one record sets notices at most, and counts nothing. -/
theorem State.OnlyRecord.keepsStatus {s t : State} {n : Nat} (h : s.OnlyRecord t n) : s.KeepsStatus unread t where
  notices _ := h.notices
  counts := by
    rw [h.rest]
    exact .refl _

theorem Event.finish_keepsStatus {s : State} {e : Event} {n : Nat} (h : s.OnlyRecord e.1 n) :
    s.KeepsStatus unread e.finish := h.keepsStatus.trans (State.takeRequests_keepsStatus _ _)

theorem State.overrunRecords_keepsStatus (s : State) : s.KeepsStatus unread s.overrunRecords.1 := by
  have hall : ∀ (ns : List Nat) (e : Event),
      e.1.KeepsStatus unread (ns.foldl (fun e n => Event.andThen e fun s => s.overrunRecord n) e).1 := by
    intro ns
    induction ns with
    | nil => exact fun e => .refl e.1
    | cons n ns ih =>
      intro e
      have hrecord : e.1.KeepsStatus unread (e.1.overrunRecord n).1 := (e.1.overrunRecord_only n).keepsStatus
      exact hrecord.trans (ih (Event.andThen e fun s => s.overrunRecord n))
  exact hall _ (s, [])

theorem overrunMessages_keepsStatus (e : Event) : e.1.KeepsStatus unread (overrunMessages e) := by
  have haround : ∀ (s : State) (rs : List PartRequest) (first last : PartRequest),
      s.KeepsStatus unread (s.takeAround rs first State.press last) := fun s rs _ _ =>
    (((State.takeRequests_keepsStatus _ _).afterSame (divideRequests_status rs s)).trans
      (State.press_keepsStatus _)).trans (State.takeRequests_keepsStatus _ _)
  unfold overrunMessages
  split
  · dsimp only
    split
    · exact (haround (e.1.choose 2).2 _ _ _).afterSame
    · exact (State.takeRequests_keepsStatus (e.1.choose 2).2 _).afterSame
  · exact State.takeRequests_keepsStatus _ _

theorem State.refreshTick_keepsStatus (s : State) : s.KeepsStatus unread s.refreshTick := by
  have hoverrun : ∀ u : State, u.KeepsStatus unread u.overrun := by
    intro u
    have hlost : u.KeepsStatus unread ((u.notify .overrun).withMem u.mem.forget) :=
      (u.notify_keepsStatus .overrun).andSame
    unfold State.overrun
    dsimp only
    split
    · exact (hlost.trans (State.overrunRecords_keepsStatus _)).trans (overrunMessages_keepsStatus _)
    · exact hlost
  unfold State.refreshTick
  dsimp only
  split
  · exact (hoverrun (s.withRefresh _)).afterSame
  · exact .of_status

/-! ### The memory path -/

/-- Only a READ is answered with STATUS word 0 (R149). -/
theorem State.disposition_answeredStatus0 {s : State} {r : UpstreamRequest} (h : s.disposition r = .answeredStatus0) :
    ∃ a, r = .read a := by
  cases r with
  | read a => exact ⟨a, rfl⟩
  | write a w =>
    have hwrite : ∀ c, s.decideWrite a c ≠ .answeredStatus0 := by
      intro c
      cases c with
      | record n k =>
        simp only [State.decideWrite, State.decideWindowWrite]
        split_ifs <;> nofun
      | _ => exact nofun
    unfold State.disposition at h
    split at h
    case h_6 | h_7 => exact absurd h (hwrite _)
    all_goals exact absurd h nofun

/-- A disposition counts a write into a copy area, and clears the notices for a READ alone (R24, R149). -/
theorem State.dispose_keepsStatus (s : State) (r : UpstreamRequest) (hr : unread → ∀ a, r ≠ .read a) :
    s.KeepsStatus unread (s.dispose r) := by
  unfold State.dispose
  split
  case h_3 => exact ((s.completeWrite.countCopyWrite_keepsStatus).trans (State.notify_keepsStatus _ _)).afterSame
  case h_6 h =>
    obtain ⟨a, ha⟩ := State.disposition_answeredStatus0 h
    exact ⟨fun hu => absurd ha (hr hu a), .refl _⟩
  all_goals exact .of_status

theorem State.arrive_keepsStatus (s : State) (r : UpstreamRequest) (hr : unread → ∀ a, r ≠ .read a) :
    s.KeepsStatus unread (s.arrive r) := by
  unfold State.arrive
  split
  · exact s.dispose_keepsStatus r hr
  all_goals exact .refl s

/-- A burst's end takes up the transaction that was held for its pins (R56). -/
theorem State.releasePinHeld_keepsStatus (s : State) (h : ∀ a, s.path.up ≠ .heldForPin (.read a)) :
    s.KeepsStatus unread s.releasePinHeld := by
  unfold State.releasePinHeld
  split
  · rename_i r hup
    refine (State.dispose_keepsStatus (s.withUp .idle) r fun _ a hr => h a ?_).afterSame
    rw [hup, hr]
  all_goals exact .refl s

theorem State.endBurst_keepsStatus (s : State) (phase : BurstPhase) (h : ∀ a, s.path.up ≠ .heldForPin (.read a)) :
    s.KeepsStatus unread (s.endBurst phase) := by
  unfold State.endBurst
  dsimp only
  split
  · exact (State.releasePinHeld_keepsStatus (s.withScan .idle).freePort h).afterSame
  · exact (State.releasePinHeld_keepsStatus (s.withScan .idle) h).afterSame

theorem State.deliver_keepsStatus (s : State) (b : Burst) (w : Word) (h : ∀ a, s.path.up ≠ .heldForPin (.read a)) :
    s.KeepsStatus unread (s.deliver b w) := by
  by_cases hlast : b.left ≤ 1
  · rw [s.deliver_last b w hlast]
    refine (State.endBurst_keepsStatus _ b.phase ?_).afterSame
    exact h
  · rw [s.deliver_more b w (by omega)]
    exact .of_status

theorem State.serveScanWord_keepsStatus (s : State) (b : Burst) (h : ∀ a, s.path.up ≠ .heldForPin (.read a)) :
    s.KeepsStatus unread (s.serveScanWord b) := by
  unfold State.serveScanWord
  split
  · split
    · exact (State.deliver_keepsStatus (s.columnRead _).1 b _ h).afterSame
    · exact .of_status
  · exact s.deliver_keepsStatus b _ h
  · refine (State.deliver_keepsStatus _ b _ ?_).afterSame
    exact h

theorem State.columnDone_status (s : State) : s.columnDone.status = s.status := by
  obtain ⟨p, h⟩ := columnDone_path s
  rw [h]
  rfl

theorem State.arriveBurst_status (s : State) (start : Addr) (count : BitVec 8) :
    (s.arriveBurst start count).status = s.status := by
  unfold State.arriveBurst
  split
  · unfold State.disposeBurst
    split <;> rfl
  all_goals rfl

/-! ### Grants and posts -/

theorem State.serveGranted_keepsStatus (s : State) (r : UpstreamRequest) (hr : unread → ∀ a, r ≠ .read a) :
    s.KeepsStatus unread (s.serveGranted r) := by
  have hmemory : ∀ a, (s.serveMemory r a).status = s.status := fun a => by cases r <;> rfl
  have hdispose : s.KeepsStatus unread (s.dispose r).freePort := (s.dispose_keepsStatus r hr).andSame
  unfold State.serveGranted
  split
  · exact .of_status (hmemory _)
  · exact (State.capture_keepsStatus _ _ _).afterSame (hmemory _)
  · exact (Event.finish_keepsStatus (State.writeStep_only _ _ _ _)).afterSame (hmemory _)
  all_goals exact hdispose

theorem State.grantUpstream_keepsStatus (s : State) (h : unread → ∀ a, s.path.up ≠ .claiming (.read a)) :
    s.KeepsStatus unread s.grantUpstream := by
  cases hup : s.path.up with
  | claiming r =>
    rw [s.grantUpstream_claiming r hup]
    refine (s.upstreamGranted.serveGranted_keepsStatus r fun hu a hr => h hu a ?_).afterSame
    rw [hup, hr]
  | _ => simp only [State.grantUpstream, hup]; exact .refl s

theorem State.arbitrate_keepsStatus (s : State) (h : unread → ∀ a, s.path.up ≠ .claiming (.read a)) :
    s.KeepsStatus unread s.arbitrate := by
  have hscan : s.grantScan.status = s.status := by
    unfold State.grantScan
    split <;> rfl
  unfold State.arbitrate
  split
  · split
    · exact .of_status
    · exact s.grantUpstream_keepsStatus h
    · exact .of_status hscan
    · exact .refl s
  all_goals exact .refl s

theorem Upstream.Disposed.not_claimingRead {a : Addr} {w : Word} {u : Upstream}
    (h : Upstream.Disposed (.write a w) u) (b : Addr) : u ≠ .claiming (.read b) := by
  cases h <;> nofun

/-- A post is carried by an arrival, a grant and a completion of a WRITE (log 14). -/
theorem State.deskWrite_keepsStatus (s : State) (a : Addr) (w : Word) : s.KeepsStatus unread (s.deskWrite a w) := by
  have harrival : s.KeepsStatus unread (s.dispose (.write a w)) := s.dispose_keepsStatus _ fun _ _ => nofun
  have hclaims := (s.dispose_only (.write a w)).up.not_claimingRead
  rw [s.deskWrite_eq]
  split
  · exact .refl s
  · split
    · exact (harrival.trans (State.grantUpstream_keepsStatus _ fun _ => hclaims)).andSame (State.columnDone_status _)
    · exact harrival

/-! ### The maintenance link (R161) -/

theorem State.takeEnterConfig_status (s : State) : s.takeEnterConfig.status = s.status := by
  unfold State.takeEnterConfig
  split
  case h_3 | h_4 => split <;> rfl
  all_goals rfl

theorem State.takeRelease_keepsStatus (s : State) (n : Nat) : s.KeepsStatus unread (s.takeRelease n) := by
  unfold State.takeRelease
  split
  · exact (Event.finish_keepsStatus (s.releaseRecord_only n)).andSame
  · exact .of_status

/-- Every command of the link but RESUME and RESTART keeps the status unit (R161, R162, R167). -/
theorem State.performCommand_keepsStatus (s : State) (request : List Byte) {code : Nat} (arg : Byte)
    (hresume : code ≠ 2) (hrestart : code ≠ 7) : s.KeepsStatus unread (s.performCommand request code arg) := by
  have plain : ∀ (k : Nat) (f : State → State), (f s).status = s.status →
      s.KeepsStatus unread (s.withoutArgument k arg f) := by
    intro k f hf
    unfold State.withoutArgument
    split
    · exact .of_status hf
    · exact .of_status
  unfold State.performCommand
  split
  · exact plain _ _ s.takeEnterConfig_status
  · exact absurd rfl hresume
  · exact plain _ _ (by unfold State.takeStore; split <;> rfl)
  · exact plain _ _ (by unfold State.takeLoad; split <;> rfl)
  · split
    · exact .of_status
    · exact s.takeRelease_keepsStatus _
  · exact plain _ _ rfl
  · exact absurd rfl hrestart
  · exact .of_status

/-- The transfer is a request that the link executes as the command with this code (R155, R161). -/
def CarriesCommand (x : LinkTransfer) (code : Nat) : Prop :=
  ∃ q, parseRequest x.target x.bytes = some q ∧ rangeCheck q = none ∧ q.isRead = false ∧ q.sectionNo = 14 ∧
    (highByte (at0 q.data 0)).toNat = code

theorem State.linkTransfer_keepsStatus (s : State) (x : LinkTransfer) (hresume : ¬CarriesCommand x 2)
    (hrestart : ¬CarriesCommand x 7) : s.KeepsStatus unread (s.linkTransfer x) := by
  have hrequest : ∀ q, parseRequest x.target x.bytes = some q →
      s.KeepsStatus unread ((s.answerAddress x.target).performRequest x.bytes q) := by
    intro q hq
    unfold State.performRequest
    split
    · exact .of_status
    · rename_i hrange
      split
      · exact .of_status
      · rename_i hread
        split
        · rename_i h14
          have hcarries : ∀ {code}, (highByte (at0 q.data 0)).toNat = code → CarriesCommand x code := fun hcode =>
            ⟨q, hq, hrange, Bool.eq_false_iff.2 hread, h14, hcode⟩
          exact (State.performCommand_keepsStatus (s.answerAddress x.target) _ _ (fun h => hresume (hcarries h))
            fun h => hrestart (hcarries h)).afterSame
        · split <;> exact .of_status
  unfold State.linkTransfer
  dsimp only
  split
  · split
    · exact .of_status
    · split
      · exact .of_status
      · exact hrequest _ ‹_›
  · exact .of_status

/-- What the framing checks take is the request of the control word, with all its bytes (R155). -/
theorem parseRequest_some {target : BitVec 7} {bs : List Byte} {q : LinkRequest} (h : parseRequest target bs = some q) :
    ∃ b0 b1 b2 b3 rest, bs = b0 :: b1 :: b2 :: b3 :: rest ∧ q = requestOf b0 b1 b2 b3 rest ∧
      bs.length = q.byteCount := by
  unfold parseRequest at h
  split at h
  · rename_i b0 b1 b2 b3 rest
    dsimp only at h
    split_ifs at h with hlength
    all_goals
      cases h
      exact ⟨b0, b1, b2, b3, rest, rfl, rfl, not_not.1 hlength⟩
  · cases h

/-- A read request carries no command. -/
theorem not_carriesCommand_of_isRead {x : LinkTransfer} (h : x.isRead = true) (code : Nat) :
    ¬CarriesCommand x code := by
  rintro ⟨q, hq, -, hread, -⟩
  obtain ⟨b0, b1, b2, b3, rest, hbytes, rfl, -⟩ := parseRequest_some hq
  rw [LinkTransfer.isRead, hbytes] at h
  exact absurd (h.symm.trans hread) nofun

/-- A transfer that carries a command has a command's bytes: section 14 holds one word, at offset 0 (R161). -/
theorem CarriesCommand.isCommand {x : LinkTransfer} {code : Nat} (h : CarriesCommand x code) : x.isCommand = true := by
  obtain ⟨q, hq, hrange, hread, h14, -⟩ := h
  obtain ⟨b0, b1, b2, b3, rest, hbytes, rfl, hlength⟩ := parseRequest_some hq
  have hsize : sectionSize (requestOf b0 b1 b2 b3 rest).sectionNo = some 1 := by rw [h14]; rfl
  rw [rangeCheck_write hread hsize] at hrange
  have hword : ¬1 ≤ b2.toNat * 256 + b3.toNat + (b0.toNat % 8 + 1) - 1 := fun hle => by
    rw [show (requestOf b0 b1 b2 b3 rest).offset + (requestOf b0 b1 b2 b3 rest).count - 1 =
      b2.toNat * 256 + b3.toNat + (b0.toNat % 8 + 1) - 1 from rfl, if_pos hle] at hrange
    cases hrange
  have hmsb : b0.msb = false := hread
  have hsection : b1 = 14#8 := BitVec.eq_of_toNat_eq h14
  have hhigh : b2 = 0#8 := BitVec.eq_of_toNat_eq (by show b2.toNat = 0; omega)
  have hlow : b3 = 0#8 := BitVec.eq_of_toNat_eq (by show b3.toNat = 0; omega)
  have hone : b0.toNat % 8 = 0 := by omega
  subst hsection hhigh hlow
  rw [hbytes] at hlength
  simp only [List.length_cons, LinkRequest.byteCount, requestOf, hmsb, Bool.false_eq_true, if_false, hone] at hlength
  have hrest : 2 ≤ rest.length := by omega
  rw [LinkTransfer.isCommand, hbytes]
  match rest, hrest with
  | _ :: _ :: _, _ => simp [hmsb, hone]

/-- A command's transfer carries its own code alone. -/
theorem carriesCommand_commandTransfer {code : Byte} {f : CommandFrame} {k : Nat}
    (h : CarriesCommand (commandTransfer code f) k) : k = code.toNat := by
  obtain ⟨q, hq, -, -, -, rfl⟩ := h
  have hparse : parseRequest f.target (commandBytes code f) = some q := hq
  rw [parseRequest_command] at hparse
  obtain ⟨-, hrequest⟩ := Option.ite_none_right_eq_some.1 hparse
  cases hrequest
  exact congrArg BitVec.toNat (highByte_wordOf code f.arg)

theorem State.commandTransfer_keepsStatus (s : State) {code : Byte} (f : CommandFrame) (hresume : code.toNat ≠ 2)
    (hrestart : code.toNat ≠ 7) : s.KeepsStatus unread (s.linkTransfer (commandTransfer code f)) :=
  s.linkTransfer_keepsStatus _ (fun h => hresume (carriesCommand_commandTransfer h).symm)
    fun h => hrestart (carriesCommand_commandTransfer h).symm

end

end Sys2Proof.Machine
end

section
/-! PROOFS. Notices and counts under every command: O13. -/

namespace Sys2Proof.Machine

/-- The command may set the notices and the counts afresh: a full reset, or the end of an entry to RUN. -/
inductive StartsAfresh : Instr → Prop where
  | powerOn : StartsAfresh .powerOn
  | supplyDip : StartsAfresh .supplyDip
  | resetLine : StartsAfresh .resetLine
  | startupLoadDone : StartsAfresh .startupLoadDone
  | resume (f : CommandFrame) : StartsAfresh (.resume f)
  | restart (f : CommandFrame) : StartsAfresh (.restart f)

/-- The desk computer's reads: the command is not the arrival of one, nor the grant of one that waits. -/
def ReadsNothing (c : Instr) (s : State) : Prop :=
  (∀ a, c ≠ .upstreamArrival (.read a)) ∧ (∀ a, c ≠ .statusWord0Read a) ∧
    (c = .arbiterGrant → ∀ a, s.path.up ≠ .claiming (.read a))

/-- What `exec` answers keeps the status unit. -/
def StatusKeptBy (unread : Prop) (s : State) (o : Host.Outcome State Fault Refusal) : Prop :=
  ∃ t, o = complete t ∧ s.KeepsStatus unread t

section
variable {unread : Prop} {s t : State}

theorem statusKeptBy (h : s.KeepsStatus unread t) : StatusKeptBy unread s (complete t) := ⟨t, rfl, h⟩

theorem statusKeptBy_same (h : t.status = s.status := by rfl) : StatusKeptBy unread s (complete t) :=
  statusKeptBy (.of_status h)

/-- A command that takes effect only under its condition. -/
theorem statusKeptBy_guarded {p : Prop} [Decidable p] (h : s.KeepsStatus unread t) :
    StatusKeptBy unread s (if p then complete t else complete s) := by
  split
  · exact statusKeptBy h
  · exact statusKeptBy_same

end

section
variable {unread : Prop} (s : State)

theorem statusKeptBy_initialRefreshDone : StatusKeptBy unread s (execInitialRefreshDone s) := by
  unfold execInitialRefreshDone
  split
  · split <;> exact statusKeptBy_same
  · exact statusKeptBy_same

theorem statusKeptBy_millisecondTick : StatusKeptBy unread s (execMillisecondTick s) := by
  unfold execMillisecondTick
  split <;> exact statusKeptBy_same

theorem statusKeptBy_scanWord (h : ∀ a, s.path.up ≠ .heldForPin (.read a)) :
    StatusKeptBy unread s (execScanWord s) := by
  unfold execScanWord
  split
  · split
    · exact statusKeptBy_same
    · exact statusKeptBy (s.serveScanWord_keepsStatus _ h)
  all_goals exact statusKeptBy_same

theorem statusKeptBy_storeDone (faults : List (Nat × Word)) : StatusKeptBy unread s (execStoreDone faults s) := by
  unfold execStoreDone
  split
  · refine statusKeptBy_same ?_
    unfold State.endStore
    dsimp only
    split <;> rfl
  all_goals exact statusKeptBy_same

theorem statusKeptBy_loadDone : StatusKeptBy unread s (execLoadDone s) := by
  unfold execLoadDone
  split
  · refine statusKeptBy_same ?_
    unfold State.endLoad
    split <;> rfl
  all_goals exact statusKeptBy_same

theorem State.deskInput_status (high : Bool) : (s.deskInput high).status = s.status := by
  unfold State.deskInput
  split <;> rfl

theorem State.deskChange_status : s.deskChange.status = s.status := by
  unfold State.deskChange State.followDesk
  split <;> rfl

/-- Every well-formed command that does not start afresh keeps the status unit, where no READ is held for a pin. -/
theorem exec_keepsStatus (c : Instr) (hform : c.wellFormed = true) (hheld : ∀ a, s.path.up ≠ .heldForPin (.read a))
    (hc : ¬StartsAfresh c) : StatusKeptBy (ReadsNothing c s) s (exec c s) := by
  cases c with
  | powerOn => exact absurd .powerOn hc
  | supplyDip => exact absurd .supplyDip hc
  | resetLine => exact absurd .resetLine hc
  | startupLoadDone => exact absurd .startupLoadDone hc
  | resume f => exact absurd (.resume f) hc
  | restart f => exact absurd (.restart f) hc
  | powerUpEnd | memoryInitPauseEnd | refreshDone | axleWindowEnd | ackReleaseSettled =>
    exact statusKeptBy_guarded .of_status
  | initialRefreshDone => exact statusKeptBy_initialRefreshDone s
  | deskOnInputChange high => exact statusKeptBy_same (s.deskInput_status high)
  | deskOnFilterChange => exact statusKeptBy_guarded (.of_status s.deskChange_status)
  | millisecondTick => exact statusKeptBy_millisecondTick s
  | refreshTick => exact statusKeptBy_guarded s.refreshTick_keepsStatus
  | arbiterGrant => exact statusKeptBy (s.arbitrate_keepsStatus fun ⟨_, _, hclaims⟩ => hclaims rfl)
  | upstreamColumnDone => exact statusKeptBy_same s.columnDone_status
  | upstreamArrival r =>
    exact statusKeptBy (s.arrive_keepsStatus r fun ⟨harrival, _, _⟩ a hr => harrival a (hr ▸ rfl))
  | statusWord0Read a => exact statusKeptBy (s.arrive_keepsStatus _ fun ⟨_, hread, _⟩ => absurd rfl (hread a))
  | scanBurstArrival start count => exact statusKeptBy_same (s.arriveBurst_status start count)
  | scanWord => exact statusKeptBy_scanWord s hheld
  | freshnessExpiry n => exact statusKeptBy_guarded (Event.finish_keepsStatus (s.expire_only n))
  | changeoverTimerExpiry =>
    exact statusKeptBy_guarded (State.takeRequests_keepsStatus (s.setSelection _) _).afterSame
  | ackPress => exact statusKeptBy_guarded s.press_keepsStatus
  | axlePulse | ackLineAsserted | ackLineReleased | readTransfer => exact statusKeptBy_same
  | resetLineReleased | supplyGoodAfterDip => exact statusKeptBy_same
  | postMessageWord | postRaise | postClear | postAck | badPost => exact statusKeptBy (s.deskWrite_keepsStatus _ _)
  | storeDone faults => exact statusKeptBy_storeDone s faults
  | loadDone => exact statusKeptBy_loadDone s
  | linkAddressProbe target =>
    have hcarries : ∀ code, ¬CarriesCommand { target := target, bytes := [] } code := fun _ ⟨_, hq, _⟩ => nomatch hq
    exact statusKeptBy (s.linkTransfer_keepsStatus _ (hcarries 2) (hcarries 7))
  | readRequest x =>
    have hcarries := not_carriesCommand_of_isRead (x := x) hform
    exact statusKeptBy (s.linkTransfer_keepsStatus x (hcarries 2) (hcarries 7))
  | sectionWrite x =>
    have hcommand : x.isCommand = false := by
      simp only [Instr.wellFormed, Bool.and_eq_true, Bool.not_eq_true'] at hform
      exact hform.2
    have hcarries : ∀ code, ¬CarriesCommand x code := fun code h => absurd (h.isCommand.symm.trans hcommand) nofun
    exact statusKeptBy (s.linkTransfer_keepsStatus x (hcarries 2) (hcarries 7))
  | enterConfig f | store f | load f | release f | clearRecall f =>
    exact statusKeptBy (s.commandTransfer_keepsStatus f (by decide) (by decide))
  | badCommand code f =>
    have hcode : code.toNat = 0 ∨ 8 ≤ code.toNat := by
      simp only [Instr.wellFormed, Bool.or_eq_true, beq_iff_eq, decide_eq_true_eq] at hform
      exact hform.imp_left fun h => by rw [h]; rfl
    exact statusKeptBy (s.commandTransfer_keepsStatus f (by omega) (by omega))

end

/-- Settles O13: every command but those that start afresh keeps the status unit, the notices where the desk computer
reads none (`exec_keepsStatus`). -/
theorem noticesAndCountsAreKept : Obligations.NoticesAndCountsAreKept := by
  intro c s t hform hheld hexec hpower hsupply hreset hstart hresume hrestart
  have hc : ¬StartsAfresh c := by
    intro h
    cases h with
    | powerOn => exact hpower rfl
    | supplyDip => exact hsupply rfl
    | resetLine => exact hreset rfl
    | startupLoadDone => exact hstart rfl
    | resume f => exact hresume f rfl
    | restart f => exact hrestart f rfl
  obtain ⟨u, hu, hkept⟩ := exec_keepsStatus s c hform hheld hc
  rw [hu] at hexec
  cases hexec
  obtain ⟨hoverflow, hlate, hbad, hstray, hcopy⟩ := hkept.counts
  exact ⟨fun harrival hread hgrant => hkept.notices ⟨harrival, hread, hgrant⟩, hoverflow, hlate, hbad, hstray, hcopy⟩

end Sys2Proof.Machine
end

section
/-! PROOFS. Transfers of the maintenance link, taken or not: O54. -/

namespace Sys2Proof.Machine

/-! ### Address bytes and control words (R154, R155, Table 9.1) -/

/-- The number of two bit vectors one after the other. -/
theorem append_toNat {m n : Nat} (x : BitVec m) (y : BitVec n) : (x ++ y).toNat = 2 ^ n * x.toNat + y.toNat := by
  rw [BitVec.toNat_append, ← Nat.shiftLeft_add_eq_or_of_lt y.isLt, Nat.shiftLeft_eq, Nat.mul_comm]

theorem msb_iff_le (b : Byte) : b.msb = true ↔ 128 ≤ b.toNat := by
  rw [BitVec.msb_eq_decide, decide_eq_true_iff]

theorem getLsbD_six_iff (b : Byte) : b.getLsbD 6 = true ↔ 64 ≤ b.toNat % 128 := by
  rw [BitVec.getLsbD, Nat.testBit_eq_decide_div_mod_eq, decide_eq_true_iff]
  omega

theorem LinkRequest.byteCount_eq (q : LinkRequest) :
    q.byteCount = (if q.isRead = true then 4 else 4 + 2 * q.count) + (if q.checkFlag = true then 1 else 0) := by
  unfold LinkRequest.byteCount
  cases q.isRead <;> rfl

/-! ### Transfers that are no request (R154) -/

theorem answerAddress_link (s : State) (target : BitVec 7) :
    (s.answerAddress target).link = { s.link with acked := s.acknowledges target } := rfl

/-- A transfer to an address that is not acknowledged ends at its address byte. -/
theorem linkTransfer_unacknowledged {s : State} {x : LinkTransfer} (h : ¬LinkTakes s x.target) :
    s.linkTransfer x = s.answerAddress x.target := if_neg (mt (acknowledges_iff s _).1 h)

theorem exec_probe (s : State) (target : BitVec 7) :
    exec (.linkAddressProbe target) s = complete (s.answerAddress target) := by
  show complete (s.linkTransfer { target := target, bytes := [] }) = _
  by_cases h : s.acknowledges target = true
  · exact congrArg complete (if_pos h)
  · exact congrArg complete (if_neg h)

/-- The rows of the link's requests, with the address each is sent to. -/
inductive CarriesRequest (target : BitVec 7) : Instr → Prop where
  | readRequest (x : LinkTransfer) (h : x.target = target) : CarriesRequest target (.readRequest x)
  | sectionWrite (x : LinkTransfer) (h : x.target = target) : CarriesRequest target (.sectionWrite x)
  | command (f : CommandFrame) (code : Byte) (c : Instr) (h : f.target = target) (hc : CommandCarries f code c) :
      CarriesRequest target c

theorem CarriesRequest.exec {target : BitVec 7} {c : Instr} (h : CarriesRequest target c) (s : State) :
    ∃ x : LinkTransfer, x.target = target ∧ exec c s = complete (s.linkTransfer x) := by
  cases h with
  | readRequest x h => exact ⟨x, h, rfl⟩
  | sectionWrite x h => exact ⟨x, h, rfl⟩
  | command f code c h hc => exact ⟨commandTransfer code f, h, hc.exec s⟩

/-- A request to an address that is not acknowledged changes nothing but the acknowledgement shown. -/
theorem CarriesRequest.unacknowledged {target : BitVec 7} {c : Instr} (hc : CarriesRequest target c) {s : State}
    (h : ¬LinkTakes s target) :
    ∃ t, Machine.exec c s = .next t ∧ t.link = { s.link with acked := false } ∧
      t = { s with link := t.link, lines := t.lines } := by
  obtain ⟨x, rfl, hexec⟩ := hc.exec s
  have hack : s.acknowledges x.target = false := Bool.eq_false_iff.2 (mt (acknowledges_iff s _).1 h)
  rw [linkTransfer_unacknowledged h] at hexec
  exact ⟨_, hexec, by rw [State.driveLines_link, answerAddress_link, hack], rfl⟩

/-! ### Requests that are discarded (R155, R160) -/

/-- The framing checks take a request exactly where it is framed right. -/
theorem parseRequest_eq_some_iff (x : LinkTransfer) (q : LinkRequest) :
    parseRequest x.target x.bytes = some q ↔ WellFramed x q := by
  refine ⟨fun h => ?_, parseRequest_framed⟩
  obtain ⟨b0, b1, b2, b3, rest, hbytes, rfl, hlength⟩ := parseRequest_some h
  refine ⟨b0, b1, b2, b3, rest, hbytes, rfl, hlength, fun hflag => ?_⟩
  rw [hbytes] at h hlength ⊢
  simp only [parseRequest, hlength, hflag, ne_eq, not_true, if_false, if_true] at h
  obtain ⟨hcheck, -⟩ := Option.ite_none_right_eq_some.1 h
  rw [hcheck, List.getLastD_cons, List.getLastD_eq_getLast?, List.getLast?_cons]

/-- A request that is not framed right is discarded, whatever it asks. -/
theorem linkTransfer_misframed {s : State} {x : LinkTransfer} (ht : LinkTakes s x.target) (hbytes : x.bytes ≠ [])
    (h : ∀ q, ¬WellFramed x q) : s.linkTransfer x = (s.answerAddress x.target).discardRequest := by
  have hparse : parseRequest x.target x.bytes = none :=
    Option.eq_none_iff_forall_ne_some.2 fun q hq => h q ((parseRequest_eq_some_iff x q).1 hq)
  obtain ⟨b, rest, hcons⟩ := List.exists_cons_of_ne_nil hbytes
  unfold State.linkTransfer
  dsimp only
  rw [if_pos ((acknowledges_iff s _).2 ht), hparse, hcons]

theorem discardRequest_linkDone {s : State} {target : BitVec 7} (ht : LinkTakes s target) :
    LinkDone s (s.answerAddress target).discardRequest.driveLines 0x1000#16 := by
  have hack := (acknowledges_iff s _).2 ht
  simp only [LinkDone, State.driveLines_link, State.discardRequest, State.finishRequest, State.withLink_link,
    answerAddress_link, hack]
  rfl

/-- Settles O54: a probe is its address byte (`exec_probe`), a request not acknowledged ends there
(`CarriesRequest.unacknowledged`), and one framed wrong is discarded (`linkTransfer_misframed`). -/
theorem linkTakesFramedTransfersAlone : Obligations.LinkTakesFramedTransfersAlone := by
  refine ⟨fun b0 b1 b2 b3 rest => ?_, crc8_eq_byRule 0xC3#8, fun target => ?_, fun s target => ⟨?_, ?_⟩, ?_⟩
  · exact ⟨msb_iff_le b0, getLsbD_six_iff b0, rfl, rfl, by rw [Nat.mul_comm 256]; rfl, LinkRequest.byteCount_eq _⟩
  · exact ⟨append_toNat target 0#1, append_toNat target 1#1⟩
  · exact ⟨_, exec_probe s target, acknowledges_iff s target, rfl⟩
  · intro h c x f code hx hf hc
    refine CarriesRequest.unacknowledged ?_ h
    rcases hc with rfl | rfl | rfl | rfl | rfl | rfl | rfl | rfl | rfl | rfl
    · exact .readRequest x hx
    · exact .sectionWrite x hx
    all_goals exact .command f _ _ hf (by constructor)
  · intro s x ht hbytes h
    have hexec : complete (s.linkTransfer x) = .next (s.answerAddress x.target).discardRequest.driveLines :=
      congrArg complete (linkTransfer_misframed ht hbytes h)
    exact ⟨⟨_, hexec, discardRequest_linkDone ht, rfl⟩, _, hexec, discardRequest_linkDone ht, rfl⟩

end Sys2Proof.Machine
end

section
/-! PROOFS. Read transfers of the maintenance link: O56. -/

namespace Sys2Proof.Machine

/-! ### The bytes of words -/

theorem bytesOf_cons (w : Word) (ws : List Word) : bytesOf (w :: ws) = highByte w :: lowByte w :: bytesOf ws := rfl

theorem bytesOf_length (ws : List Word) : (bytesOf ws).length = 2 * ws.length := by
  induction ws with
  | nil => rfl
  | cons w rest ih =>
    rw [bytesOf_cons, List.length_cons, List.length_cons, ih, List.length_cons]
    omega

/-- Byte `i` of words is the high byte of a word where `i` is even and its low byte where it is odd (R156). -/
theorem bytesOf_getD (ws : List Word) (d : Byte) : ∀ i, i < 2 * ws.length →
    (bytesOf ws).getD i d = if i % 2 = 0 then highByte (at0 ws (i / 2)) else lowByte (at0 ws (i / 2)) := by
  induction ws with
  | nil => exact fun i hi => absurd hi (Nat.not_lt_zero i)
  | cons w rest ih =>
    intro i hi
    match i with
    | 0 => rfl
    | 1 => rfl
    | i + 2 =>
      have hword : at0 (w :: rest) ((i + 2) / 2) = at0 rest (i / 2) := by
        rw [Nat.add_div_right i (by decide)]
        rfl
      rw [bytesOf_cons, List.getD_cons_succ, List.getD_cons_succ, ih i (by rw [List.length_cons] at hi; omega), hword,
        Nat.add_mod_right]

/-! ### The bytes sent (R159) -/

/-- The reply's words, and the check byte where there is a reply that asks for one. -/
theorem replyBytes_eq (s : State) (target : BitVec 7) :
    s.replyBytes target = bytesOf s.link.reply ++
      (if s.link.reply ≠ [] ∧ s.link.replyCheck = true then
        [linkCrc (readAddressByte target :: bytesOf s.link.reply)] else []) := by
  unfold State.replyBytes
  cases s.link.reply with
  | nil => rfl
  | cons w rest => simp only [ne_eq, reduceCtorEq, not_false_iff, true_and]

/-- Byte `i` of the reply, and 0xFF after its end. -/
theorem replyBytes_getD (s : State) (target : BitVec 7) (i : Nat) :
    (s.replyBytes target).getD i 0xFF#8 =
      if i < 2 * s.link.reply.length then
        (if i % 2 = 0 then highByte (at0 s.link.reply (i / 2)) else lowByte (at0 s.link.reply (i / 2)))
      else if i = 2 * s.link.reply.length ∧ s.link.reply ≠ [] ∧ s.link.replyCheck = true then
        linkCrc (readAddressByte target :: bytesOf s.link.reply)
      else 0xFF#8 := by
  have hlength := bytesOf_length s.link.reply
  rw [replyBytes_eq]
  by_cases hi : i < 2 * s.link.reply.length
  · rw [if_pos hi, List.getD_append _ _ _ _ (by omega), bytesOf_getD _ _ i hi]
  · rw [if_neg hi, List.getD_append_right _ _ _ _ (by omega), hlength]
    by_cases hcheck : s.link.reply ≠ [] ∧ s.link.replyCheck = true
    · rw [if_pos hcheck]
      by_cases hend : i = 2 * s.link.reply.length
      · rw [if_pos ⟨hend, hcheck⟩, hend, Nat.sub_self]
        rfl
      · rw [if_neg (mt And.left hend), List.getD_eq_default _ _ (by rw [List.length_singleton]; omega)]
    · rw [if_neg hcheck, if_neg (mt And.right hcheck)]
      rfl

section
variable (bs : List Byte) (count : Nat) (x : Byte)

/-- Bytes cut off or filled up with `x` to a number of bytes. -/
theorem filled_length : ((bs ++ List.replicate (count - bs.length) x).take count).length = count := by
  rw [List.length_take, List.length_append, List.length_replicate]
  omega

theorem filled_getElem? {i : Nat} (hi : i < count) :
    ((bs ++ List.replicate (count - bs.length) x).take count)[i]? = some (bs.getD i x) := by
  rw [List.getElem?_take_of_lt hi]
  by_cases hin : i < bs.length
  · rw [List.getElem?_append_left hin, List.getD_eq_getElem _ _ hin, List.getElem?_eq_getElem hin]
  · rw [List.getElem?_append_right (by omega), List.getElem?_replicate, if_pos (by omega),
      List.getD_eq_default _ _ (by omega)]

end

theorem exec_readTransfer (s : State) (target : BitVec 7) (count : Nat) :
    exec (.readTransfer target count) s = complete (s.readTransferBytes target count) := rfl

theorem readTransferBytes_link (s : State) (target : BitVec 7) (count : Nat) :
    (s.readTransferBytes target count).link = { s.link with
      acked := s.acknowledges target
      out := if s.acknowledges target then
          (s.replyBytes target ++ List.replicate (count - (s.replyBytes target).length) 0xFF#8).take count
        else [] } := rfl

/-- Settles O56: the bytes sent are the reply's (`replyBytes_getD`), filled up with 0xFF. -/
theorem readTransferSendsTheReply : Obligations.ReadTransferSendsTheReply := by
  intro s target count
  refine ⟨fun h => ?_, fun h => ?_⟩
  · have hack := (acknowledges_iff s target).2 h
    have hout : (s.readTransferBytes target count).driveLines.link.out =
        (s.replyBytes target ++ List.replicate (count - (s.replyBytes target).length) 0xFF#8).take count := by
      rw [State.driveLines_link, readTransferBytes_link, hack]
      rfl
    refine ⟨_, exec_readTransfer s target count, ?_, fun i hi => ?_, ?_⟩
    · rw [hout, filled_length]
    · rw [hout, filled_getElem? _ _ _ hi, replyBytes_getD]
    · rw [← hack]
      rfl
  · have hack : s.acknowledges target = false := Bool.eq_false_iff.2 (mt (acknowledges_iff s target).1 h)
    have hlink : (s.readTransferBytes target count).link = { s.link with acked := false, out := [] } := by
      rw [readTransferBytes_link, hack]
      rfl
    exact ⟨_, exec_readTransfer s target count, by rw [← hlink]; rfl⟩

end Sys2Proof.Machine
end

section
/-! PROOFS. STORE and LOAD, from their beginning to their end: O59. -/

namespace Sys2Proof.Machine

/-! ### The CRC-16 by its rule (R169) -/

/-- One shift of a CRC register is that of the rule. -/
theorem crcShift_eq {n : Nat} (poly x : BitVec n) :
    (if x.msb then (x <<< 1) ^^^ poly else x <<< 1) =
      if 2 ^ n ≤ 2 * x.toNat then (x + x) ^^^ poly else x + x := by
  have hdouble : x <<< 1 = x + x := by
    apply BitVec.eq_of_toNat_eq
    rw [BitVec.toNat_shiftLeft, BitVec.toNat_add, Nat.shiftLeft_eq, pow_one, Nat.mul_two]
  have htop : x.msb = true ↔ 2 ^ n ≤ 2 * x.toNat := by
    rw [BitVec.msb_eq_decide, decide_eq_true_iff]
    cases n with
    | zero => simp [BitVec.of_length_zero]
    | succ n => rw [Nat.add_sub_cancel, Nat.pow_succ, Nat.mul_comm, Nat.mul_le_mul_left_iff Nat.two_pos]
  simp only [hdouble, htop]

/-- A byte is taken into the high byte of the register. -/
theorem wordOf_zero (b : Byte) : wordOf b 0#8 = BitVec.ofNat 16 (256 * b.toNat) := by
  apply BitVec.eq_of_toNat_eq
  have hb := b.isLt
  rw [wordOf, append_toNat, BitVec.toNat_ofNat, BitVec.toNat_ofNat]
  omega

theorem crc16Byte_eq (r : Word) (b : Byte) :
    crc16Byte r b = crcShifts 0x1021#16 (r ^^^ BitVec.ofNat 16 (256 * b.toNat)) := by
  rw [crc16Byte, crcShifts, wordOf_zero, show crc16Shift = _ from funext (crcShift_eq 0x1021#16)]
  exact (List.foldl_const _ _ (List.range 8)).symm

/-- The bytes of words as numbers, each high byte first. -/
theorem bytesOf_map_toNat (ws : List Word) :
    (bytesOf ws).map BitVec.toNat = ws.flatMap fun w => [w.toNat / 256, w.toNat % 256] := by
  have hbytes : ∀ w : Word, [highByte w, lowByte w].map BitVec.toNat = [w.toNat / 256, w.toNat % 256] := by
    intro w
    have hw := w.isLt
    simp only [List.map_cons, List.map_nil, highByte, lowByte, BitVec.extractLsb'_toNat, Nat.shiftRight_eq_div_pow]
    congr 1
    · omega
    · simp
  rw [bytesOf, List.map_flatMap]
  exact congrArg (fun f => ws.flatMap f) (funext hbytes)

theorem imageCrc_eq_byRule (ws : List Word) : imageCrc ws = crc16ByRule ws := by
  rw [imageCrc, crc16ByRule, ← bytesOf_map_toNat, List.foldl_map,
    show crc16Byte = _ from funext fun r => funext (crc16Byte_eq r)]

/-! ### The image (R165, R169, R170) -/

theorem not_imageValid_of_format {ws : List Word} (h : at0 ws 0 = 0#16) : imageValid ws = false := by
  rw [imageValid, h]
  rfl

theorem at0_set_zero (ws : List Word) : at0 (ws.set 0 0#16) 0 = 0#16 := by
  cases ws <;> rfl

/-- A word written over by itself. -/
theorem set_at0 {ws : List Word} {i : Nat} {w : Word} (h : at0 ws i = w) : ws.set i w = ws := by
  subst h
  refine List.ext_getElem? fun j => ?_
  rw [List.getElem?_set]
  split_ifs with hij hlt
  · rw [← hij, at0, List.getD_eq_getElem _ _ hlt, List.getElem?_eq_getElem hlt]
  · rw [← hij, List.getElem?_eq_none (Nat.not_lt.1 hlt)]
  · rfl

/-- Where every word reads back as written the store holds what was written. -/
theorem storedImage_taken {written : List Word} {faults : List (Nat × Word)}
    (h : ∀ x ∈ faults, at0 written x.1 = x.2) : storedImage written faults = written := by
  induction faults with
  | nil => rfl
  | cons x rest ih =>
    obtain ⟨hx, hrest⟩ := List.forall_mem_cons.1 h
    show storedImage (written.set x.1 x.2) rest = written
    rw [set_at0 hx, ih hrest]

/-- A word that does not read back as written is seen. -/
theorem storedImage_faulty {written : List Word} {i : Nat} {w : Word} (hi : i < written.length)
    (h : at0 written i ≠ w) : storedImage written [(i, w)] ≠ written := by
  intro heq
  refine h ?_
  have hset := at0_set written i i w
  rwa [if_pos ⟨rfl, hi⟩, show written.set i w = written from heq] at hset

/-- The sections of an image of 816 words. -/
theorem imageSections_of_words {ws : List Word} {c : Sections} (hc : c.shaped)
    (h : c.toWords = (ws.drop 1).take 814) : imageSections ws = c := by
  rw [imageSections, ← List.take_append_drop 814 (ws.drop 1), ← h]
  exact sectionsOfWords_toWords c hc _

/-! ### The beginning of a STORE and of a LOAD (R157, R161) -/

section
variable {s : State} {f : CommandFrame} (ht : LinkTakes s f.target)
include ht

/-- A command that the link takes and that is framed right is performed. -/
theorem CommandCarries.exec_taken {code : Byte} {c : Instr} (h : CommandCarries f code c) (hf : FramedRight code f) :
    Machine.exec c s =
      complete ((s.answerAddress f.target).performCommand (commandBytes code f) code.toNat f.arg) := by
  rw [h.exec s, linkTransfer_command ht hf]

theorem exec_store (hf : FramedRight 3#8 f) (harg : f.arg = 0#8) :
    exec (.store f) s = complete ((s.answerAddress f.target).takeStore (commandBytes 3#8 f)) :=
  (CommandCarries.store.exec_taken ht hf).trans (congrArg complete (if_pos harg))

theorem exec_load (hf : FramedRight 4#8 f) (harg : f.arg = 0#8) :
    exec (.load f) s = complete ((s.answerAddress f.target).takeLoad (commandBytes 4#8 f)) :=
  (CommandCarries.load.exec_taken ht hf).trans (congrArg complete (if_pos harg))

end

theorem outOfService_iff (s : State) : s.outOfService = true ↔ s.ctl.part = .config ∨ s.ctl.part = .safe := by
  rw [State.outOfService, Bool.or_eq_true, beq_iff_eq, beq_iff_eq, State.part]

theorem not_outOfService {s : State} (h : s.ctl.part = .run ∨ s.ctl.part = .retain) : ¬s.outOfService = true := by
  rw [outOfService_iff]
  rcases h with h | h <;> rw [h] <;> decide

/-- The link acknowledges no address while a request executes (R154). -/
theorem not_linkTakes_of_job {s : State} {j : LinkJob} (h : s.link.job = some j) (target : BitVec 7) :
    ¬LinkTakes s target := fun ht => by
  obtain ⟨-, hjob, -⟩ := ht
  exact absurd (h.symm.trans hjob) nofun

/-- The state in which a STORE of the configuration executes: the image is invalid and the link busy. -/
def State.storing (s : State) (f : CommandFrame) : State :=
  (s.withImage (s.image.set 0 0#16)).withLink
    { (s.answerAddress f.target).link with job := some (.store s.cfg), request := commandBytes 3#8 f }

/-- The state in which a LOAD executes: the link is busy. -/
def State.loading (s : State) (f : CommandFrame) : State :=
  s.withLink { (s.answerAddress f.target).link with job := some .load, request := commandBytes 4#8 f }

theorem takeStore_taken {s : State} (f : CommandFrame) (h : s.ctl.part = .config ∨ s.ctl.part = .safe) :
    (s.answerAddress f.target).takeStore (commandBytes 3#8 f) = s.storing f :=
  if_pos ((outOfService_iff (s.answerAddress f.target)).2 h)

theorem takeLoad_taken {s : State} (f : CommandFrame) (h : s.ctl.part = .config ∨ s.ctl.part = .safe) :
    (s.answerAddress f.target).takeLoad (commandBytes 4#8 f) = s.loading f :=
  if_pos ((outOfService_iff (s.answerAddress f.target)).2 h)

/-! ### Their ends (R170, R171) -/

section
variable {s : State} {c : Sections} {faults : List (Nat × Word)}

theorem exec_storeDone (h : s.link.job = some (.store c)) :
    exec (.storeDone faults) s = complete (s.endStore c faults) := by
  show execStoreDone faults s = _
  rw [execStoreDone, h]

theorem exec_loadDone (h : s.link.job = some .load) : exec .loadDone s = complete s.endLoad := by
  show execLoadDone s = _
  rw [execLoadDone, h]

theorem endStore_taken (h : storedImage (imageOf c) faults = imageOf c) :
    s.endStore c faults = (s.withImage (imageOf c)).commandResult .ok 3 := by
  rw [State.endStore, if_pos h, h]

theorem endStore_failed (h : storedImage (imageOf c) faults ≠ imageOf c) :
    s.endStore c faults =
      (s.withImage ((storedImage (imageOf c) faults).set 0 0#16)).commandResult .storeFailed 3 := if_neg h

theorem endLoad_valid (h : imageValid s.image = true) :
    s.endLoad = (s.withCfg (imageSections s.image)).commandResult .ok 4 := if_pos h

theorem endLoad_invalid (h : imageValid s.image = false) : s.endLoad = s.commandResult .imageInvalid 4 :=
  if_neg (by rw [h]; decide)

end

/-- Settles O59: a STORE and a LOAD begin as `State.storing` and `State.loading`, and end by what the store took
(`endStore_taken`, `endStore_failed`) and by the image found (`endLoad_valid`, `endLoad_invalid`). -/
theorem storeAndLoadMoveTheConfiguration : Obligations.StoreAndLoadMoveTheConfiguration := by
  refine ⟨fun c => rfl, imageCrc_eq_byRule, fun s f ht hf harg hshape => ⟨fun hpart => ?_, fun hpart => ?_⟩,
    fun s f ht hf harg => ⟨fun hpart => ?_, fun hpart => ?_⟩⟩
  · have hexec := exec_store ht hf harg
    rw [State.takeStore, if_neg (not_outOfService (s := s.answerAddress f.target) hpart)] at hexec
    exact ⟨_, hexec, commandResult_linkDone ht rfl .notInConfig 3, rfl⟩
  · obtain ⟨hc, -⟩ := hshape
    have hexec := exec_store ht hf harg
    rw [takeStore_taken f hpart] at hexec
    have hjob : (s.storing f).driveLines.link.job = some (.store s.cfg) := rfl
    refine ⟨_, hexec, not_linkTakes_of_job hjob, not_imageValid_of_format (at0_set_zero s.image), rfl, rfl, rfl,
      fun faults htaken => ?_, fun i w hi hfault => ?_⟩
    · have hdone := exec_storeDone (faults := faults) hjob
      rw [endStore_taken (storedImage_taken htaken)] at hdone
      exact ⟨_, hdone, rfl, rfl, imageOf_length s.cfg hc, rfl, imageOf_words s.cfg hc, imageOf_crc s.cfg hc,
        imageSections_imageOf s.cfg hc, rfl⟩
    · have hdone := exec_storeDone (faults := [(i, w)]) hjob
      have hlength := imageOf_length s.cfg hc
      rw [endStore_failed (storedImage_faulty (by omega) hfault)] at hdone
      exact ⟨_, hdone, rfl, rfl, not_imageValid_of_format (at0_set_zero _), rfl⟩
  · have hexec := exec_load ht hf harg
    rw [State.takeLoad, if_neg (not_outOfService (s := s.answerAddress f.target) hpart)] at hexec
    exact ⟨_, hexec, commandResult_linkDone ht rfl .notInConfig 4, rfl⟩
  · have hexec := exec_load ht hf harg
    rw [takeLoad_taken f hpart] at hexec
    have hjob : (s.loading f).driveLines.link.job = some .load := rfl
    have hdone := exec_loadDone hjob
    cases hvalid : imageValid s.image with
    | false =>
      rw [endLoad_invalid (s := (s.loading f).driveLines) hvalid] at hdone
      exact ⟨_, _, hexec, not_linkTakes_of_job hjob, rfl, hdone, rfl, rfl, fun _ => ⟨rfl, rfl⟩, nofun⟩
    | true =>
      rw [endLoad_valid (s := (s.loading f).driveLines) hvalid] at hdone
      refine ⟨_, _, hexec, not_linkTakes_of_job hjob, rfl, hdone, rfl, rfl, nofun, fun _ _ c hc hwords => ⟨rfl, ?_⟩⟩
      rw [← imageSections_of_words hc hwords]
      rfl

end Sys2Proof.Machine
end

section
/-! PROOF SUPPORT. The consistency check (R168): each test of the model is the test of Table 10.2 with its number. -/

namespace Sys2Proof.Machine

/-! ### Properties of the numbers below a bound -/

section
variable {n : Nat} (p : Nat → Bool)

theorem pairwise_range_iff {R : Nat → Nat → Prop} :
    (List.range n).Pairwise R ↔ ∀ i j, i < j → j < n → R i j := by
  rw [List.pairwise_iff_getElem]
  simp only [List.length_range, List.getElem_range]
  exact ⟨fun h i j hij hj => h i j (hij.trans hj) hj hij, fun h i j _ hj hij => h i j hij hj⟩

/-- Among the numbers with `p` two have one value of `f`. -/
theorem not_nodup_map_filter_range {α : Type} (f : Nat → α) :
    ¬(((List.range n).filter p).map f).Nodup ↔
      ∃ i j, i < j ∧ j < n ∧ p i = true ∧ p j = true ∧ f i = f j := by
  rw [List.Nodup, List.pairwise_map, List.pairwise_filter, pairwise_range_iff]
  push Not
  rfl

theorem not_nodup_map_range {α : Type} (f : Nat → α) :
    ¬((List.range n).map f).Nodup ↔ ∃ i j, i < j ∧ j < n ∧ f i = f j := by
  simpa using not_nodup_map_filter_range (n := n) (fun _ => true) f

/-- Exactly one number has `p`. -/
theorem countP_range_eq_one :
    (List.range n).countP p = 1 ↔ ∃ i, i < n ∧ p i = true ∧ ∀ j, j < n → p j = true → j = i := by
  rw [List.countP_eq_length_filter, List.length_eq_one_iff]
  refine exists_congr fun i => ?_
  rw [← List.perm_singleton, List.perm_ext_iff_of_nodup (List.nodup_range.filter p) (List.nodup_singleton i)]
  simp only [List.mem_filter, List.mem_range, List.mem_singleton]
  constructor
  · intro h
    obtain ⟨hi, hp⟩ := (h i).2 rfl
    exact ⟨hi, hp, fun j hj hpj => (h j).1 ⟨hj, hpj⟩⟩
  · rintro ⟨hi, hp, hone⟩ j
    exact ⟨fun ⟨hj, hpj⟩ => hone j hj hpj, fun hji => hji ▸ ⟨hi, hp⟩⟩

/-- None has `p`, or two have it. -/
theorem countP_range_ne_one :
    (List.range n).countP p ≠ 1 ↔
      (∀ i, i < n → ¬p i = true) ∨ ∃ i j, i < j ∧ j < n ∧ p i = true ∧ p j = true := by
  rw [Ne, countP_range_eq_one]
  constructor
  · intro h
    by_cases hnone : ∀ i, i < n → ¬p i = true
    · exact .inl hnone
    · push Not at hnone
      obtain ⟨i, hi, hp⟩ := hnone
      push Not at h
      obtain ⟨j, hj, hpj, hne⟩ := h i hi hp
      rcases Nat.lt_or_gt_of_ne hne with hlt | hlt
      · exact .inr ⟨j, i, hlt, hi, hpj, hp⟩
      · exact .inr ⟨i, j, hlt, hj, hp, hpj⟩
  · rintro (hnone | ⟨i, j, hij, hj, hpi, hpj⟩) ⟨k, hk, hpk, hone⟩
    · exact hnone k hk hpk
    · have hi := hone i (hij.trans hj) hpi
      have hjk := hone j hj hpj
      omega

end

/-! ### Elements and entries in use (R19, R35) -/

theorem RecordEntry.held_iff (e : RecordEntry) : e.held = true ↔ e.kind ≠ .none := bne_iff_ne

theorem RecordEntry.not_held_iff (e : RecordEntry) : (!e.held) = true ↔ e.kind = .none := by
  rw [Bool.not_eq_true', ← Bool.not_eq_true, RecordEntry.held_iff, not_not]

theorem bit_eq_getLsbD (w : Word) (i : Nat) : bit w i = w.getLsbD i := by
  rw [Bool.eq_iff_iff, bit_iff, BitVec.getLsbD, Nat.testBit_eq_decide_div_mod_eq, decide_eq_true_iff]

theorem Sections.isRecord_region (c : Sections) (i : Nat) : (c.region i).isRecord = true ↔ IsRecordElement c i := by
  rw [Region.isRecord, Bool.and_eq_true, bne_iff_ne, beq_iff_eq, IsRecordElement]

theorem Sections.isService_region (c : Sections) (i : Nat) :
    (c.region i).isService = true ↔ IsServiceElement c i := by
  simp only [Region.isService, Bool.and_eq_true, Bool.or_eq_true, bne_iff_ne, beq_iff_eq, IsServiceElement, or_assoc]

theorem Sections.length_region (c : Sections) (i : Nat) : (c.region i).length = rangeLength c i := by
  rw [Region.length, rangeLength]
  split <;> omega

/-- Some element of the region table has `p`. -/
theorem Sections.any_regionTable (c : Sections) (p : Region → Bool) :
    c.regionTable.any p = true ↔ ∃ i, i < 40 ∧ p (c.region i) = true := by
  simp only [Sections.regionTable, List.any_map, List.any_eq_true, List.mem_range, Function.comp_apply]

/-- The elements of the region table with `p`, by their indices. -/
theorem Sections.filter_regionTable (c : Sections) (p : Region → Bool) :
    c.regionTable.filter p = ((List.range 40).filter fun i => p (c.region i)).map c.region := List.filter_map

theorem any_recordIndices (p : Nat → Bool) : recordIndices.any p = true ↔ ∃ n, n < 24 ∧ p n = true := by
  simp only [recordIndices, List.any_eq_true, List.mem_range]

theorem any_systems (p : Nat → Bool) : systems.any p = true ↔ ∃ y, y < 4 ∧ p y = true := by
  simp only [systems, List.any_eq_true, List.mem_range]

section
variable (c : Sections)

/-! ### Tests 1 and 2: the RECORD elements -/

theorem Sections.fails1_iff : c.fails1 = true ↔ CheckFails c 1 := by
  simp only [Sections.fails1, Sections.recordElements, List.any_filter, Sections.any_regionTable, Bool.and_eq_true,
    Bool.or_eq_true, Sections.isRecord_region, bne_iff_ne, RecordEntry.not_held_iff, Sections.length_region, or_assoc,
    CheckFails]

/-- The number of RECORD elements that name record `n`. -/
theorem Sections.countP_recordElements (n : Nat) :
    c.recordElements.countP (fun e => e.record == n) =
      (List.range 40).countP fun i => (c.region i).isRecord && (c.region i).record == n := by
  rw [Sections.recordElements, List.countP_filter, Sections.regionTable, List.countP_map]
  exact List.countP_congr fun i _ => by rw [Function.comp_apply, Bool.and_comm]

theorem Sections.fails2_iff : c.fails2 = true ↔ CheckFails c 2 := by
  simp only [Sections.fails2, List.any_eq_true, Sections.mem_heldRecords, RecordEntry.held_iff, bne_iff_ne,
    Sections.countP_recordElements, countP_range_ne_one, Bool.and_eq_true, beq_iff_eq, Sections.isRecord_region,
    not_and, and_assoc, CheckFails]
  refine exists_congr fun n => and_congr_right fun _ => and_congr_right fun _ => or_congr_right ?_
  refine exists_congr fun i => exists_congr fun j => and_congr_right fun _ => and_congr_right fun _ => ?_
  tauto

/-! ### Test 3: the copy areas -/

/-- The copies of the held records, by record and copy. -/
def Sections.copies : List (Nat × Copy) := c.heldRecords.product [Copy.a, Copy.b]

theorem Sections.mem_copies (n : Nat) (x : Copy) : (n, x) ∈ c.copies ↔ n < 24 ∧ (c.entry n).kind ≠ .none := by
  rw [Sections.copies, List.pair_mem_product, Sections.mem_heldRecords,
    RecordEntry.held_iff]
  cases x <;> simp

theorem Sections.copies_nodup : c.copies.Nodup :=
  (List.nodup_range.filter _).product (by decide)

theorem Sections.copyAreas_eq_map : c.copyAreas = c.copies.map fun p => c.copyArea p.1 p.2 := by
  show _ = (c.heldRecords.flatMap fun n => [Copy.a, Copy.b].map (Prod.mk n)).map _
  rw [List.map_flatMap]
  rfl

/-- Some copy area has `p`. -/
theorem Sections.any_copyAreas (p : Nat × Nat → Bool) :
    c.copyAreas.any p = true ↔ ∃ n x, n < 24 ∧ (c.entry n).kind ≠ .none ∧ p (c.copyArea n x) = true := by
  simp only [Sections.copyAreas_eq_map, List.any_map, List.any_eq_true, Prod.exists, Sections.mem_copies,
    Function.comp_apply, and_assoc]

theorem RecordEntry.length_pos {e : RecordEntry} (h : e.kind ≠ .none) : 0 < e.length :=
  Nat.zero_lt_of_lt (RecordEntry.inputs_lt_length (e.held_iff.2 h))

/-- Two areas that are not empty meet where they share an address. -/
theorem areasMeet_iff {x y : Nat × Nat} (hx : 0 < x.2) (hy : 0 < y.2) :
    areasMeet x y = true ↔ ∃ a, x.1 ≤ a ∧ a < x.1 + x.2 ∧ y.1 ≤ a ∧ a < y.1 + y.2 := by
  rw [areasMeet, Bool.and_eq_true, decide_eq_true_eq, decide_eq_true_eq]
  exact ⟨fun h => ⟨max x.1 y.1, by omega⟩, fun ⟨a, h⟩ => by omega⟩

/-- Some areas overlap where two that are named differently meet. -/
theorem someOverlap_map_iff {α : Type} {xs : List α} (hxs : xs.Nodup) (area : α → Nat × Nat) :
    someOverlap (xs.map area) = true ↔
      ∃ p ∈ xs, ∃ q ∈ xs, p ≠ q ∧ areasMeet (area p) (area q) = true := by
  rw [← Bool.not_eq_false, someOverlap_iff, List.pairwise_map]
  have hsymm : Std.Symm fun p q => areasMeet (area p) (area q) = false :=
    ⟨fun p q h => (areasMeet_comm _ _).trans h⟩
  have hall : xs.Pairwise (fun p q => areasMeet (area p) (area q) = false) ↔
      ∀ p ∈ xs, ∀ q ∈ xs, p ≠ q → areasMeet (area p) (area q) = false :=
    ⟨fun h p hp q hq => h.forall hp hq, hxs.pairwise_of_forall_ne⟩
  rw [hall]
  push Not
  simp only [Bool.not_eq_false]

theorem Sections.someOverlap_copyAreas :
    someOverlap c.copyAreas = true ↔
      ∃ n m x y a, n < 24 ∧ m < 24 ∧ (c.entry n).kind ≠ .none ∧ (c.entry m).kind ≠ .none ∧ (n ≠ m ∨ x ≠ y) ∧
        ((c.entry n).base x).toNat ≤ a ∧ a < ((c.entry n).base x).toNat + (c.entry n).length ∧
        ((c.entry m).base y).toNat ≤ a ∧ a < ((c.entry m).base y).toNat + (c.entry m).length := by
  have hne : ∀ (n m : Nat) (x y : Copy), (n, x) ≠ (m, y) ↔ n ≠ m ∨ x ≠ y := fun n m x y => by
    rw [Ne, Prod.mk.injEq, not_and_or]
  rw [Sections.copyAreas_eq_map, someOverlap_map_iff c.copies_nodup]
  constructor
  · rintro ⟨⟨n, x⟩, hp, ⟨m, y⟩, hq, hpq, hmeet⟩
    obtain ⟨hn, hkn⟩ := (c.mem_copies n x).1 hp
    obtain ⟨hm, hkm⟩ := (c.mem_copies m y).1 hq
    obtain ⟨a, ha⟩ := (areasMeet_iff (RecordEntry.length_pos hkn) (RecordEntry.length_pos hkm)).1 hmeet
    exact ⟨n, m, x, y, a, hn, hm, hkn, hkm, (hne n m x y).1 hpq, ha⟩
  · rintro ⟨n, m, x, y, a, hn, hm, hkn, hkm, hpq, ha⟩
    exact ⟨(n, x), (c.mem_copies n x).2 ⟨hn, hkn⟩, (m, y), (c.mem_copies m y).2 ⟨hm, hkm⟩, (hne n m x y).2 hpq,
      (areasMeet_iff (RecordEntry.length_pos hkn) (RecordEntry.length_pos hkm)).2 ⟨a, ha⟩⟩

/-- An element matches an address of a copy (R21, R38). -/
theorem Sections.hitsArea_copyArea (e : Region) (n : Nat) (x : Copy) :
    e.hitsArea (c.copyArea n x) = true ↔
      ∃ k, k < (c.entry n).length ∧ e.hits ((c.entry n).base x + BitVec.ofNat 17 k) = true := by
  simp only [Region.hitsArea, Sections.copyArea, List.any_eq_true, List.mem_range, BitVec.ofNat_add,
    BitVec.ofNat_toNat, BitVec.setWidth_eq]

theorem Sections.fails3_iff : c.fails3 = true ↔ CheckFails c 3 := by
  have hfit : c.copyAreas.any (fun x => Decidable.decide (Config.lastAddress < x.1 + x.2 - 1)) = true ↔
      ∃ n x, n < 24 ∧ (c.entry n).kind ≠ .none ∧
        131071 < ((c.entry n).base x).toNat + (c.entry n).length - 1 := by
    simp only [Sections.any_copyAreas, decide_eq_true_eq]
    rfl
  have hhit : (c.copyAreas.any fun x => c.regionTable.any fun e => (e.isRecord || e.isService) && e.hitsArea x) = true ↔
      ∃ n x k i, n < 24 ∧ (c.entry n).kind ≠ .none ∧ k < (c.entry n).length ∧ i < 40 ∧
        (IsRecordElement c i ∨ IsServiceElement c i) ∧
        (c.region i).hits ((c.entry n).base x + BitVec.ofNat 17 k) = true := by
    simp only [Sections.any_copyAreas, Sections.any_regionTable, Bool.and_eq_true, Bool.or_eq_true,
      Sections.isRecord_region, Sections.isService_region, Sections.hitsArea_copyArea]
    refine exists_congr fun n => exists_congr fun x => ⟨?_, ?_⟩
    · rintro ⟨hn, hk, i, hi, huse, k, hlt, hhits⟩
      exact ⟨k, i, hn, hk, hlt, hi, huse, hhits⟩
    · rintro ⟨k, i, hn, hk, hlt, hi, huse, hhits⟩
      exact ⟨hn, hk, i, hi, huse, k, hlt, hhits⟩
  rw [Sections.fails3, Bool.or_eq_true, Bool.or_eq_true, hfit, hhit, Sections.someOverlap_copyAreas, or_assoc]
  rfl

/-! ### Tests 4 and 5: the ASPECT and SELECT records -/

theorem Sections.mem_aspectSystems (y : Nat) :
    y ∈ c.aspectSystems ↔ ∃ n, n < 24 ∧ (c.entry n).kind = .aspect ∧ (c.entry n).system = y := by
  simp only [Sections.aspectSystems, recordIndices, List.mem_map, List.mem_filter, List.mem_range, beq_iff_eq,
    and_assoc]

theorem Sections.systemEnabled_eq (y : Nat) : c.systemEnabled y = (c.aspectHeader y).getLsbD 15 := bit_eq_getLsbD _ _

theorem Sections.fails4_iff : c.fails4 = true ↔ CheckFails c 4 := by
  have hdisabled : c.aspectSystems.any (fun y => !c.systemEnabled y) = true ↔
      ∃ n, n < 24 ∧ (c.entry n).kind = .aspect ∧ (c.aspectHeader (c.entry n).system).getLsbD 15 = false := by
    simp only [List.any_eq_true, Sections.mem_aspectSystems, Sections.systemEnabled_eq, Bool.not_eq_true']
    constructor
    · rintro ⟨_, ⟨n, hn, hk, rfl⟩, hoff⟩
      exact ⟨n, hn, hk, hoff⟩
    · rintro ⟨n, hn, hk, hoff⟩
      exact ⟨_, ⟨n, hn, hk, rfl⟩, hoff⟩
  have htwice : (!Decidable.decide c.aspectSystems.Nodup) = true ↔
      ∃ n m, n < m ∧ m < 24 ∧ (c.entry n).kind = .aspect ∧ (c.entry m).kind = .aspect ∧
        (c.entry n).system = (c.entry m).system := by
    rw [Bool.not_eq_true', decide_eq_false_iff_not, Sections.aspectSystems, recordIndices, not_nodup_map_filter_range]
    simp only [beq_iff_eq]
  have hmissing : (systems.any fun y => c.systemEnabled y && !c.aspectSystems.contains y) = true ↔
      ∃ y, y < 4 ∧ (c.aspectHeader y).getLsbD 15 = true ∧
        ∀ n, n < 24 → (c.entry n).kind = .aspect → (c.entry n).system ≠ y := by
    simp only [any_systems, Bool.and_eq_true, Sections.systemEnabled_eq, Bool.not_eq_true', List.contains_eq_mem,
      decide_eq_false_iff_not, Sections.mem_aspectSystems, not_exists, not_and]
  rw [Sections.fails4, Bool.or_eq_true, Bool.or_eq_true, hdisabled, htwice, hmissing, or_assoc]
  rfl

theorem Sections.aspectSystems_isEmpty :
    c.aspectSystems.isEmpty = true ↔ ∀ n, n < 24 → (c.entry n).kind ≠ .aspect := by
  rw [List.isEmpty_iff, List.eq_nil_iff_forall_not_mem]
  simp only [Sections.mem_aspectSystems, not_exists, not_and]
  exact ⟨fun h n hn hk => h _ n hn hk rfl, fun h _ n hn hk _ => h n hn hk⟩

theorem Sections.selectCount_eq_zero :
    c.selectCount = 0 ↔ ∀ n, n < 24 → (c.entry n).kind ≠ .select := by
  simp only [Sections.selectCount, List.countP_eq_zero, recordIndices, List.mem_range, beq_iff_eq]

theorem Sections.selectCount_eq_one :
    c.selectCount = 1 ↔
      ∃ n, n < 24 ∧ (c.entry n).kind = .select ∧ ∀ m, m < 24 → (c.entry m).kind = .select → m = n := by
  rw [Sections.selectCount, recordIndices, countP_range_eq_one]
  simp only [beq_iff_eq]

theorem Sections.fails5_iff : c.fails5 = true ↔ CheckFails c 5 := by
  have hnone := c.aspectSystems_isEmpty
  have hsome : (∃ n, n < 24 ∧ (c.entry n).kind = .select) ↔ c.selectCount ≠ 0 := by
    rw [Ne, Sections.selectCount_eq_zero]
    push Not
    rfl
  have hany : (∃ n, n < 24 ∧ (c.entry n).kind = .aspect) ↔ ¬c.aspectSystems.isEmpty = true := by
    rw [hnone]
    push Not
    rfl
  simp only [CheckFails, ← hnone, hsome, hany, ← Sections.selectCount_eq_one, Sections.fails5]
  by_cases h : c.aspectSystems.isEmpty = true <;> simp [h]

/-! ### Tests 6 and 7: the aspect tables and the speed settings -/

theorem Sections.aspectCount_eq (y : Nat) : c.aspectCount y = (c.aspectHeader y).toNat / 256 % 32 := rfl

theorem Sections.aspectEntry_code (y j : Nat) :
    (c.aspectEntry y j).code = (at0 c.aspects (33 * y + 1 + 2 * j)).toNat / 256 := bits_high _

theorem Sections.fails6_iff : c.fails6 = true ↔ CheckFails c 6 := by
  simp only [Sections.fails6, any_systems, Bool.or_eq_true, Bool.and_eq_true, Bool.not_eq_true',
    decide_eq_false_iff_not, beq_iff_eq, Sections.aspectsInUse, List.map_map, not_nodup_map_range,
    Function.comp_apply, Sections.aspectEntry_code, Sections.systemEnabled_eq, Sections.aspectCount_eq, CheckFails]

theorem Sections.fails7_iff : c.fails7 = true ↔ CheckFails c 7 := by
  simp only [Sections.fails7, any_recordIndices, Bool.and_eq_true, Bool.or_eq_true, beq_iff_eq, decide_eq_true_eq,
    CheckFails]

/-! ### Test 8: the POST, SLOT, RECALL and STATUS elements -/

/-- The length and the port set of a service element, by its action. -/
theorem Sections.serviceElement_fails {i : Nat} (h : IsServiceElement c i) :
    ((c.region i).matchType ≠ .range ∨ rangeLength c i ≠ c.serviceLength (c.region i).action ∨
        ((c.region i).action = .status ∧ (c.region i).ports = .scan)) ↔
      ((c.region i).matchType ≠ .range ∨
        ((c.region i).action = .post ∧ rangeLength c i ≠ 8) ∨
        ((c.region i).action = .slot ∧ rangeLength c i ≠ 4 * (at0 c.part 4).toNat) ∨
        ((c.region i).action = .recalled ∧ rangeLength c i ≠ 40) ∨
        ((c.region i).action = .status ∧ (rangeLength c i ≠ 32 ∨ (c.region i).ports = .scan))) := by
  obtain ⟨-, hpost | hslot | hrecall | hstatus⟩ := h
  · simp [hpost, Sections.serviceLength]
  · simp [hslot, Sections.serviceLength, Sections.slotLines]
  · simp [hrecall, Sections.serviceLength]
  · simp [hstatus, Sections.serviceLength]

theorem Sections.fails8_iff : c.fails8 = true ↔ CheckFails c 8 := by
  have hwindow : ((c.regionTable.filter Region.isService).any fun e => e.matchType != .range ||
      e.length != c.serviceLength e.action || (e.action == .status && e.ports == .scan)) = true ↔
      ∃ i, i < 40 ∧ IsServiceElement c i ∧ ((c.region i).matchType ≠ .range ∨
        rangeLength c i ≠ c.serviceLength (c.region i).action ∨
          ((c.region i).action = .status ∧ (c.region i).ports = .scan)) := by
    simp only [List.any_filter, Sections.any_regionTable, Bool.and_eq_true, Bool.or_eq_true, bne_iff_ne, beq_iff_eq,
      Sections.isService_region, Sections.length_region, or_assoc]
  have htwice : (!Decidable.decide ((c.regionTable.filter Region.isService).map Region.action).Nodup) = true ↔
      ∃ i j, i < j ∧ j < 40 ∧ IsServiceElement c i ∧ IsServiceElement c j ∧
        (c.region i).action = (c.region j).action := by
    rw [Bool.not_eq_true', decide_eq_false_iff_not, Sections.filter_regionTable, List.map_map,
      not_nodup_map_filter_range]
    simp only [Sections.isService_region, Function.comp_apply]
  rw [Sections.fails8, Bool.or_eq_true, hwindow, htwice]
  refine or_congr_left (exists_congr fun i => and_congr_right fun _ => and_congr_right fun h => ?_)
  exact c.serviceElement_fails h

/-! ### The first test that fails -/

/-- The model's test with a number. -/
def Sections.failsTest : Nat → Bool
  | 1 => c.fails1
  | 2 => c.fails2
  | 3 => c.fails3
  | 4 => c.fails4
  | 5 => c.fails5
  | 6 => c.fails6
  | 7 => c.fails7
  | 8 => c.fails8
  | _ => false

theorem Sections.failsTest_iff (code : Nat) : c.failsTest code = true ↔ CheckFails c code := by
  match code with
  | 1 => exact c.fails1_iff
  | 2 => exact c.fails2_iff
  | 3 => exact c.fails3_iff
  | 4 => exact c.fails4_iff
  | 5 => exact c.fails5_iff
  | 6 => exact c.fails6_iff
  | 7 => exact c.fails7_iff
  | 8 => exact c.fails8_iff
  | 0 | _ + 9 => exact iff_of_false nofun id

theorem Sections.check_eq_find? : c.check = (List.range' 1 8).find? c.failsTest := by
  unfold Sections.check
  split_ifs <;> simp [List.range', Sections.failsTest, *]

theorem Sections.check_eq_some_iff (code : Nat) :
    c.check = some code ↔
      1 ≤ code ∧ code ≤ 8 ∧ CheckFails c code ∧ ∀ j, 1 ≤ j → j < code → ¬CheckFails c j := by
  rw [Sections.check_eq_find?, List.find?_range'_eq_some]
  simp only [Sections.failsTest_iff, Bool.not_eq_true', ← Bool.not_eq_true, List.mem_range'_1]
  constructor
  · rintro ⟨hfails, ⟨hlow, hhigh⟩, hfirst⟩
    exact ⟨hlow, by omega, hfails, hfirst⟩
  · rintro ⟨hlow, hhigh, hfails, hfirst⟩
    exact ⟨hfails, ⟨hlow, by omega⟩, hfirst⟩

theorem Sections.check_eq_none_iff : c.check = none ↔ ∀ j, 1 ≤ j → j ≤ 8 → ¬CheckFails c j := by
  rw [Sections.check_eq_find?, List.find?_range'_eq_none]
  simp only [Sections.failsTest_iff, Bool.not_eq_true', ← Bool.not_eq_true]
  exact forall_congr' fun j => forall_congr' fun _ => by rw [show j < 1 + 8 ↔ j ≤ 8 by omega]

end

end Sys2Proof.Machine
end

section
/-! PROOFS. RESUME (R161, R167) and the consistency check (R168): O18. -/

namespace Sys2Proof.Machine

/-! ### The entry to RUN (R166, R167) -/

theorem enterRun_eq (s : State) :
    s.enterRun =
      { s.runEvent with ctl := { s.ctl with part := if s.ctl.deskLevel then .run else .retain } } := by
  unfold State.enterRun
  cases s.ctl.deskLevel <;> rfl

/-- The timer of a record at an entry to RUN. -/
theorem recordAtRun_eq (s : State) (n : Nat) :
    s.recordAtRun n = { RecordState.reset with
      timer := if (s.cfg.entry n).kind = .none then none
               else some (s.ctl.ms + BitVec.ofNat 32 (100 * (s.cfg.entry n).freshness)) } := by
  unfold State.recordAtRun
  by_cases h : (s.cfg.entry n).kind = .none
  · rw [if_pos h, if_neg (by rw [RecordEntry.held_iff]; exact not_not.2 h)]
  · rw [if_neg h, if_pos ((RecordEntry.held_iff _).2 h)]
    rfl

theorem runEvent_record (s : State) {n : Nat} (hn : n < 24) : s.runEvent.record n = s.recordAtRun n := by
  show (recordIndices.map s.recordAtRun).getD n RecordState.reset = _
  rw [List.getD_eq_getElem _ _ (by simpa [recordIndices] using hn), List.getElem_map]
  simp [recordIndices]

/-- The values of an entry to RUN, with whatever happens to the link and the lines after it. -/
theorem enterRun_values (s : State) (x : Link) (y : Lines) :
    RunEntryValues s ((s.enterRun.withLink x).withLines y) := by
  rw [enterRun_eq]
  refine ⟨fun n hn => ⟨?_, ?_, ?_⟩, rfl, rfl, rfl, rfl, rfl, rfl, rfl, rfl, rfl, rfl, rfl, rfl⟩
  · exact (runEvent_record s hn).trans (recordAtRun_eq s n)
  · exact List.getD_replicate _ hn
  · exact List.getD_replicate _ hn

theorem enterRun_loadFailure (s : State) : s.enterRun.ctl.loadFailure = s.ctl.loadFailure := by
  rw [enterRun_eq]

/-! ### RESUME (R161) -/

theorem exec_resume {s : State} {f : CommandFrame} (ht : LinkTakes s f.target) (hf : FramedRight 2#8 f)
    (harg : f.arg = 0#8) : exec (.resume f) s = complete (s.answerAddress f.target).takeResume :=
  (CommandCarries.resume.exec_taken ht hf).trans (congrArg complete (if_pos harg))

theorem takeResume_consistent {s : State} (hpart : s.ctl.part = .config) (hcheck : s.cfg.check = none) :
    s.takeResume = s.enterRun.commandResult .ok 2 := by
  rw [State.takeResume, State.part, if_pos hpart, hcheck]

theorem takeResume_inconsistent {s : State} {code : Nat} (hpart : s.ctl.part = .config)
    (hcheck : s.cfg.check = some code) : s.takeResume = s.commandResult .inconsistent code := by
  rw [State.takeResume, State.part, if_pos hpart, hcheck]
  rfl

theorem takeResume_elsewhere {s : State} (hpart : s.ctl.part ≠ .config) :
    s.takeResume = s.commandResult .notInConfig 2 := if_neg hpart

/-- Settles O18: RESUME ends by the part state and by the check, which is Table 10.2 (`Sections.check_eq_some_iff`,
`Sections.check_eq_none_iff`). -/
theorem resumeChecksAndEntersRun : Obligations.ResumeChecksAndEntersRun := by
  refine ⟨fun s f ht hf harg => ?_, fun c => ⟨c.check_eq_some_iff, c.check_eq_none_iff⟩⟩
  have hexec := exec_resume ht hf harg
  refine ⟨fun hpart hcheck => ?_, fun code hpart hcheck => ?_, fun hpart => ?_⟩
  · rw [takeResume_consistent (s := s.answerAddress f.target) hpart hcheck] at hexec
    exact ⟨_, hexec, enterRun_values (s.answerAddress f.target) _ _, enterRun_loadFailure (s.answerAddress f.target),
      commandResult_linkDone ht (State.enterRun_link _) .ok 2⟩
  · rw [takeResume_inconsistent (s := s.answerAddress f.target) hpart hcheck] at hexec
    exact ⟨_, hexec, commandResult_linkDone ht rfl .inconsistent code, rfl⟩
  · rw [takeResume_elsewhere (s := s.answerAddress f.target) hpart] at hexec
    exact ⟨_, hexec, commandResult_linkDone ht rfl .notInConfig 2, rfl⟩

end Sys2Proof.Machine
end

section
/-! PROOFS. The full resets, the end of LOAD, the millisecond counter and the desk key: O14, O16, O19. -/

namespace Sys2Proof.Machine

/-! ### The image after a full reset (R169, R170) -/

/-- Word `i` of what a STORE wrote, past its format word. -/
theorem at0_abandonedWords (n : Nat) (c : Sections) {i : Nat} (h1 : 1 ≤ i) (hi : i < 816) :
    at0 (Config.imageFormat :: (List.range 815).map fun i => storeHolds n c (i + 1)) i = storeHolds n c i := by
  obtain ⟨j, rfl⟩ : ∃ j, i = j + 1 := ⟨i - 1, by omega⟩
  have hj : j < 815 := by omega
  simp [at0, hj]

/-- A word the store took is the one written. -/
theorem storeHolds_written (n : Nat) (c : Sections) (i : Nat) :
    storeHolds n c i = at0 (imageOf c) i ∨ Config.storeTook n i = false := by
  unfold storeHolds
  cases Config.storeTook n i
  · exact .inr rfl
  · exact .inl rfl

theorem abandonedImage_cases (choice n : Nat) (c : Sections) (image : List Word) :
    abandonedImage choice n c image = image ∨
      ((abandonedImage choice n c image).length = 816 ∧ at0 (abandonedImage choice n c image) 0 = 0x3720#16 ∧
        ∀ i, 1 ≤ i → i < 816 →
          at0 (abandonedImage choice n c image) i = at0 (imageOf c) i ∨ Config.storeTook n i = false) := by
  unfold abandonedImage
  split
  · exact .inl rfl
  · refine .inr ⟨by simp, rfl, fun i h1 hi => ?_⟩
    rw [at0_abandonedWords n c h1 hi]
    exact storeHolds_written n c i

theorem imageAfterReset_store {s : State} {c : Sections} (h : s.link.job = some (.store c)) :
    s.imageAfterReset = abandonedImage (s.choose 2).1 s.freeCount c s.image := by
  rw [State.imageAfterReset, h]

theorem imageAfterReset_same {s : State} (h : ∀ c, s.link.job ≠ some (.store c)) : s.imageAfterReset = s.image := by
  unfold State.imageAfterReset
  split
  next c hc => exact absurd hc (h c)
  all_goals rfl

/-! ### The four causes of a full reset (R18, R162) -/

/-- The wait line stays asserted after a full reset exactly where it was. -/
theorem fullReset_waitCondition (s : State) (cause : ResetCause) :
    (s.fullReset cause).waitCondition = s.waitCondition := Bool.and_true _

theorem State.fullReset_inputs (s : State) (cause : ResetCause) :
    FullResetKeeps s (s.fullReset cause).driveLines := by
  refine ⟨rfl, rfl, rfl, ?_, s.waitCondition_iff, imageAfterReset_same, fun c hc => ?_⟩
  · show (s.fullReset cause).waitCondition = true ↔ WaitHeld s
    rw [fullReset_waitCondition]
    exact s.waitCondition_iff
  · show s.imageAfterReset = s.image ∨ _
    have hcases := abandonedImage_cases (s.choose 2).1 s.freeCount c s.image
    rw [← imageAfterReset_store hc] at hcases
    exact hcases

theorem exec_restart {s : State} {f : CommandFrame} (ht : LinkTakes s f.target) (hf : FramedRight 7#8 f)
    (harg : f.arg = 0#8) : exec (.restart f) s = complete ((s.answerAddress f.target).fullReset .linkRestart) :=
  (CommandCarries.restart.exec_taken ht hf).trans (congrArg complete (if_pos harg))

/-- Settles O14: each cause ends in the one full reset (`State.fullReset_values`, `State.fullReset_inputs`), from a state
in which the reset input, the supply or the link's answer alone has moved. -/
theorem fullResetFromEveryCause : Obligations.FullResetFromEveryCause := by
  refine fun s => ⟨?_, ?_, ?_, fun f ht hf harg => ?_⟩
  · exact ⟨_, rfl, State.fullReset_values _ _, State.fullReset_inputs (s.withCtl _) _, rfl, rfl, rfl⟩
  · exact ⟨_, rfl, State.fullReset_values _ _, State.fullReset_inputs (s.withCtl _) _, rfl, rfl, rfl⟩
  · exact ⟨_, rfl, State.fullReset_values _ _, State.fullReset_inputs (s.withCtl _) _, rfl, rfl, rfl⟩
  · exact ⟨_, exec_restart ht hf harg, State.fullReset_values _ _, (s.answerAddress f.target).fullReset_inputs _,
      rfl, rfl, rfl⟩

/-! ### The end of LOAD with no traffic held (R165, R167) -/

theorem imageValid_iff (ws : List Word) :
    imageValid ws = true ↔ at0 ws 0 = 0x3720#16 ∧ at0 ws 815 = imageCrc (ws.take 815) := by
  rw [imageValid, Bool.and_eq_true, beq_iff_eq, beq_iff_eq]

/-- A state that holds no traffic is the same without it. -/
theorem unheld_same {s : State} (hup : ∀ r, s.path.up ≠ .heldAtStart r)
    (hscan : ∀ a n, s.path.scan ≠ .heldAtStart a n) : s.unheld = s := by
  have eup : s.path.up.unheld = s.path.up := by
    cases h : s.path.up with
    | heldAtStart r => exact absurd h (hup r)
    | idle | claiming | heldForPin | serving => rfl
  have escan : s.path.scan.unheld = s.path.scan := by
    cases h : s.path.scan with
    | heldAtStart a n => exact absurd h (hscan a n)
    | idle | active => rfl
  rw [State.unheld, eup, escan]
  rfl

theorem exec_startupLoadDone_nothingHeld {s : State} (hload : s.ctl.part = .load)
    (hup : ∀ r, s.path.up ≠ .heldAtStart r) (hscan : ∀ a n, s.path.scan ≠ .heldAtStart a n) :
    exec .startupLoadDone s = complete s.startupLoad := by
  have hend : s.startupLoad.unheld = s.startupLoad :=
    unheld_same (by rwa [startupLoad_path]) (by rwa [startupLoad_path])
  have hexec := exec_startupLoadDone_unheld s hload
  rwa [unheld_same hup hscan, hend] at hexec

theorem startupLoad_invalid {s : State} (h : ¬imageValid s.image = true) :
    s.startupLoad = s.withCtl { s.ctl with part := .safe, loadFailure := 9#8 } := if_neg h

section
variable {s : State} {c : Sections} (hvalid : imageValid s.image = true) (hc : imageSections s.image = c)
include hvalid hc

theorem startupLoad_inconsistent {code : Nat} (hcheck : c.check = some code) :
    s.startupLoad =
      (s.withCfg c).withCtl { s.ctl with part := .safe, loadFailure := BitVec.ofNat 8 code } := by
  rw [State.startupLoad, if_pos hvalid, hc]
  simp only [State.withCfg_cfg, hcheck]
  rfl

theorem startupLoad_consistent (hcheck : c.check = none) : s.startupLoad = (s.withCfg c).enterRun := by
  rw [State.startupLoad, if_pos hvalid, hc]
  simp only [State.withCfg_cfg, hcheck]

end

/-- Settles O16: with nothing held, STARTUP_LOAD_DONE drives the lines of what the image leaves
(`startupLoad_invalid`, `startupLoad_inconsistent`, `startupLoad_consistent`). -/
theorem startupLoadEndsInRunOrSafe : Obligations.StartupLoadEndsInRunOrSafe := by
  intro s hload _ hup hscan
  have hexec := exec_startupLoadDone_nothingHeld hload hup hscan
  refine ⟨fun hinvalid => ?_, fun hformat hcrc c hshape hwords => ?_⟩
  · rw [startupLoad_invalid (mt (imageValid_iff s.image).1 hinvalid)] at hexec
    exact ⟨_, hexec, rfl, rfl⟩
  · have hvalid := (imageValid_iff s.image).2 ⟨hformat, hcrc⟩
    have hc := imageSections_of_words hshape hwords
    refine ⟨fun code hcheck => ?_, fun hcheck => ?_⟩
    · rw [startupLoad_inconsistent hvalid hc hcheck] at hexec
      exact ⟨_, hexec, rfl, rfl, rfl⟩
    · rw [startupLoad_consistent hvalid hc hcheck] at hexec
      exact ⟨_, hexec, enterRun_values (s.withCfg c) _ _, enterRun_loadFailure (s.withCfg c),
        (s.withCfg c).enterRun_link⟩

/-! ### The millisecond counter (R164) -/

theorem exec_millisecondTick (s : State) :
    exec .millisecondTick s =
      complete (s.withCtl { s.ctl with ms := if s.ctl.part = .powerUp then s.ctl.ms else s.ctl.ms + 1#32 }) := by
  show (if s.ctl.part = .powerUp then complete s else _) = _
  split <;> rfl

/-! ### The filter of DESK_ON (R166) -/

/-- The control state after the DESK_ON input takes a level. -/
def Control.deskInput (x : Control) (high : Bool) : Control :=
  { x with
    deskOnInput := high
    deskDiffersSince :=
      if x.part = .powerUp then x.deskDiffersSince
      else if high = x.deskLevel then none
      else match x.deskDiffersSince with
           | some m => some m
           | none => some x.ms }

theorem deskInput_eq (s : State) (high : Bool) : s.deskInput high = s.withCtl (s.ctl.deskInput high) := by
  unfold State.deskInput Control.deskInput
  by_cases hpart : s.ctl.part = .powerUp
  · rw [if_pos (show s.part = .powerUp from hpart), if_pos hpart]
  · rw [if_neg (show ¬s.part = .powerUp from hpart), if_neg hpart]
    cases s.ctl.deskDiffersSince <;> rfl

/-- The part state that follows a change of the filtered level, which was `level` before. -/
def PartState.afterDesk (p : PartState) (level : Bool) : PartState :=
  if p = .run ∧ level = true then .retain else if p = .retain ∧ level = false then .run else p

theorem setPart_same {s : State} {p : PartState} (h : s.ctl.part = p) : s.setPart p = s := by
  subst h
  rfl

theorem followDesk_not (s : State) (level : Bool) :
    s.followDesk (!level) = s.setPart (s.ctl.part.afterDesk level) := by
  unfold State.followDesk State.part
  cases h : s.ctl.part with
  | run =>
    cases level
    · exact (setPart_same h).symm
    · rfl
  | retain =>
    cases level
    · rfl
    · exact (setPart_same h).symm
  | powerUp | memoryInit | load | config | safe => exact (setPart_same h).symm

theorem deskDue_iff (s : State) :
    s.deskDue = true ↔ ∃ m, s.ctl.deskDiffersSince = some m ∧ 100 ≤ (s.ctl.ms - m).toNat := by
  unfold State.deskDue
  cases s.ctl.deskDiffersSince with
  | none => simp
  | some m =>
    refine ⟨fun h => ⟨m, rfl, of_decide_eq_true h⟩, ?_⟩
    rintro ⟨_, ⟨⟩, h⟩
    exact decide_eq_true h

theorem deskChange_eq (s : State) :
    s.deskChange = s.withCtl { s.ctl with
      deskLevel := !s.ctl.deskLevel, deskDiffersSince := none, part := s.ctl.part.afterDesk s.ctl.deskLevel } :=
  followDesk_not _ _

/-- Settles O19: the tick moves the counter alone, a change of the input moves what the filter watches, and the filter's
change moves the level with the part state that follows it. -/
theorem counterRisesAndDeskKeyIsFiltered : Obligations.CounterRisesAndDeskKeyIsFiltered := by
  refine ⟨fun s => ⟨_, exec_millisecondTick s, ?_, rfl⟩, fun s => ⟨fun high => ?_, fun m hm hdue => ?_, fun hno => ?_⟩⟩
  · show (if s.ctl.part = .powerUp then s.ctl.ms else s.ctl.ms + 1#32).toNat = _
    rw [apply_ite BitVec.toNat, BitVec.toNat_add]
    rfl
  · exact ⟨_, congrArg complete (deskInput_eq s high), rfl, rfl⟩
  · have hexec : exec .deskOnFilterChange s = complete s.deskChange := if_pos ((deskDue_iff s).2 ⟨m, hm, hdue⟩)
    rw [deskChange_eq] at hexec
    exact ⟨_, hexec, rfl, rfl⟩
  · refine answers_same (if_neg fun hdue => ?_)
    obtain ⟨m, hm, hlong⟩ := (deskDue_iff s).1 hdue
    exact absurd (hno m hm) (Nat.not_lt.2 hlong)

end Sys2Proof.Machine
end

section
/-! PROOFS. The step and the queue of commands: O1. No operation touches the queue (log 1). -/

namespace Sys2Proof.Machine

/-! ### What the frames say of the queue -/

section
variable {s t : State}

theorem State.OnlyMessagesAndPress.pending (h : s.OnlyMessagesAndPress t) : t.pending = s.pending := by
  obtain ⟨hrest, -⟩ := h
  rw [hrest]

theorem State.OnlyMessages.pending (h : s.OnlyMessages t) : t.pending = s.pending := h.andPress.pending

theorem State.OnlyRecord.pending {n : Nat} (h : s.OnlyRecord t n) : t.pending = s.pending := by rw [h.rest]

theorem State.OnlyDisposed.pending {r : UpstreamRequest} (h : s.OnlyDisposed t r) : t.pending = s.pending := by
  rw [h.rest]

theorem State.Acts.pending (h : s.Acts t) : t.pending = s.pending := by rw [h.rest]

/-- An event at one record, its requests taken. -/
theorem Event.finish_pending {e : Event} {n : Nat} (h : s.OnlyRecord e.1 n) : e.finish.pending = s.pending :=
  (State.takeRequests_only _ _).pending.trans h.pending

end

section
variable (s : State)

/-! ### The memory path -/

theorem State.dispose_pending (r : UpstreamRequest) : (s.dispose r).pending = s.pending :=
  (s.dispose_only r).pending

theorem State.arrive_pending (r : UpstreamRequest) : (s.arrive r).pending = s.pending := by
  unfold State.arrive
  split
  · exact s.dispose_pending r
  all_goals rfl

theorem State.releasePinHeld_pending : s.releasePinHeld.pending = s.pending := by
  unfold State.releasePinHeld
  split
  · exact State.dispose_pending _ _
  all_goals rfl

theorem State.releaseUpstream_pending : s.releaseUpstream.pending = s.pending := by
  unfold State.releaseUpstream
  split
  · exact State.dispose_pending _ _
  all_goals rfl

theorem State.columnDone_pending : s.columnDone.pending = s.pending := by
  obtain ⟨p, h⟩ := columnDone_path s
  rw [h]
  rfl

theorem State.disposeBurst_pending (start : Addr) (count : BitVec 8) :
    (s.disposeBurst start count).pending = s.pending := by
  unfold State.disposeBurst
  split <;> rfl

theorem State.arriveBurst_pending (start : Addr) (count : BitVec 8) :
    (s.arriveBurst start count).pending = s.pending := by
  unfold State.arriveBurst
  split
  · exact s.disposeBurst_pending start count
  all_goals rfl

theorem State.releaseBurst_pending : s.releaseBurst.pending = s.pending := by
  unfold State.releaseBurst
  split
  · exact State.disposeBurst_pending _ _ _
  all_goals rfl

/-- A word goes out, and the last one ends the burst (R7, R56). -/
theorem State.deliver_pending (b : Burst) (w : Word) : (s.deliver b w).pending = s.pending := by
  by_cases h : b.left ≤ 1
  · rw [s.deliver_last b w h, State.endBurst, State.releasePinHeld_pending]
    split <;> rfl
  · rw [s.deliver_more b w (by omega)]
    rfl

theorem State.serveScanWord_pending (b : Burst) : (s.serveScanWord b).pending = s.pending := by
  unfold State.serveScanWord
  split
  · split
    · exact State.deliver_pending _ _ _
    · rfl
  · exact s.deliver_pending _ _
  · exact State.deliver_pending _ _ _

/-- The held traffic is taken up in RUN or in RETAIN (R16). -/
theorem State.takeUp_pending (inRun : Bool) {f : State → State} (hf : ∀ u : State, (f u).pending = u.pending) :
    (s.takeUp inRun f).pending = s.pending := by
  unfold State.takeUp
  split <;> exact hf _

theorem State.releaseHeld_pending : s.releaseHeld.pending = s.pending := by
  unfold State.releaseHeld
  split
  · exact (State.takeUp_pending _ _ State.releaseBurst_pending).trans
      (State.takeUp_pending _ _ State.releaseUpstream_pending)
  · exact (State.releaseBurst_pending _).trans s.releaseUpstream_pending

/-! ### Grants and posts -/

/-- A captured POST write (R126, R127). -/
theorem State.capture_pending (k : Nat) (w : Word) : (s.capture k w).pending = s.pending := by
  unfold State.capture
  split
  · rfl
  · split
    · rfl
    · rw [captureAction_eq]
      exact (s.acted_acts _ w).pending

theorem State.serveGranted_pending (r : UpstreamRequest) : (s.serveGranted r).pending = s.pending := by
  have hmemory : ∀ a, (s.serveMemory r a).pending = s.pending := fun a => by cases r <;> rfl
  unfold State.serveGranted
  split
  · exact hmemory _
  · exact (State.capture_pending _ _ _).trans (hmemory _)
  · exact (Event.finish_pending (State.writeStep_only _ _ _ _)).trans (hmemory _)
  all_goals exact s.dispose_pending r

theorem State.grantUpstream_pending : s.grantUpstream.pending = s.pending := by
  cases h : s.path.up with
  | claiming r =>
    rw [s.grantUpstream_claiming r h]
    exact s.upstreamGranted.serveGranted_pending r
  | _ => simp only [State.grantUpstream, h]

theorem State.arbitrate_pending : s.arbitrate.pending = s.pending := by
  have hscan : s.grantScan.pending = s.pending := by
    unfold State.grantScan
    split <;> rfl
  unfold State.arbitrate
  split
  · split
    · rfl
    · exact s.grantUpstream_pending
    · exact hscan
    · rfl
  all_goals rfl

/-- A post is carried by an arrival, a grant and a completion (log 14). -/
theorem State.deskWrite_pending (a : Addr) (w : Word) : (s.deskWrite a w).pending = s.pending := by
  have hdispose := s.dispose_pending (.write a w)
  rw [s.deskWrite_eq]
  split
  · rfl
  · split
    · exact ((State.columnDone_pending _).trans (State.grantUpstream_pending _)).trans hdispose
    · exact hdispose

/-! ### The refresh unit -/

theorem State.overrunRecords_pending : s.overrunRecords.1.pending = s.pending := by
  have hall : ∀ (ns : List Nat) (e : Event),
      (ns.foldl (fun e n => Event.andThen e fun s => s.overrunRecord n) e).1.pending = e.1.pending := by
    intro ns
    induction ns with
    | nil => exact fun _ => rfl
    | cons n ns ih => exact fun e => (ih _).trans (e.1.overrunRecord_only n).pending
  exact hall _ (s, [])

theorem overrunMessages_pending (e : Event) : (overrunMessages e).pending = e.1.pending := by
  unfold overrunMessages
  split
  · dsimp only
    split
    · exact (State.takeAround_press_only _ _ _ _).pending
    · exact (State.takeRequests_only _ _).pending
  · exact (State.takeRequests_only _ _).pending

theorem State.overrun_pending : s.overrun.pending = s.pending := by
  unfold State.overrun
  dsimp only
  split
  · exact (overrunMessages_pending _).trans (State.overrunRecords_pending _)
  · rfl

theorem State.refreshTick_pending : s.refreshTick.pending = s.pending := by
  unfold State.refreshTick
  dsimp only
  split
  · exact State.overrun_pending _
  · rfl

/-! ### Start-up and the desk key -/

theorem State.enterRun_pending : s.enterRun.pending = s.pending := by
  unfold State.enterRun
  split <;> rfl

theorem State.startupLoad_pending : s.startupLoad.pending = s.pending := by
  unfold State.startupLoad
  split
  · dsimp only
    split
    · exact State.enterRun_pending _
    · rfl
  · rfl

theorem State.deskInput_pending (high : Bool) : (s.deskInput high).pending = s.pending := by
  unfold State.deskInput
  split <;> rfl

theorem State.deskChange_pending : s.deskChange.pending = s.pending := by
  rw [deskChange_eq]
  rfl

/-! ### The maintenance link -/

theorem State.takeEnterConfig_pending : s.takeEnterConfig.pending = s.pending := by
  unfold State.takeEnterConfig
  split
  case h_3 | h_4 => split <;> rfl
  all_goals rfl

theorem State.takeResume_pending : s.takeResume.pending = s.pending := by
  unfold State.takeResume
  split
  · split
    · exact s.enterRun_pending
    · rfl
  · rfl

theorem State.takeStore_pending (request : List Byte) : (s.takeStore request).pending = s.pending := by
  unfold State.takeStore
  split <;> rfl

theorem State.takeLoad_pending (request : List Byte) : (s.takeLoad request).pending = s.pending := by
  unfold State.takeLoad
  split <;> rfl

theorem State.takeRelease_pending (n : Nat) : (s.takeRelease n).pending = s.pending := by
  unfold State.takeRelease
  split
  · exact Event.finish_pending (s.releaseRecord_only n)
  · rfl

theorem State.withoutArgument_pending (code : Nat) (arg : Byte) {f : State → State}
    (hf : (f s).pending = s.pending) : (s.withoutArgument code arg f).pending = s.pending := by
  unfold State.withoutArgument
  split
  · exact hf
  · rfl

/-- Every command of the link, RESTART's full reset with them (R161, R162). -/
theorem State.performCommand_pending (request : List Byte) (code : Nat) (arg : Byte) :
    (s.performCommand request code arg).pending = s.pending := by
  unfold State.performCommand
  split
  · exact s.withoutArgument_pending _ _ s.takeEnterConfig_pending
  · exact s.withoutArgument_pending _ _ s.takeResume_pending
  · exact s.withoutArgument_pending _ _ (s.takeStore_pending request)
  · exact s.withoutArgument_pending _ _ (s.takeLoad_pending request)
  · split
    · rfl
    · exact s.takeRelease_pending _
  · exact s.withoutArgument_pending _ _ rfl
  · exact s.withoutArgument_pending _ _ rfl
  · rfl

theorem State.performRequest_pending (request : List Byte) (q : LinkRequest) :
    (s.performRequest request q).pending = s.pending := by
  unfold State.performRequest
  split
  · rfl
  · split
    · rfl
    · split
      · exact s.performCommand_pending _ _ _
      · split <;> rfl

theorem State.linkTransfer_pending (x : LinkTransfer) : (s.linkTransfer x).pending = s.pending := by
  unfold State.linkTransfer
  dsimp only
  split
  · split
    · rfl
    · split
      · rfl
      · exact State.performRequest_pending _ _ _
  · rfl

theorem State.endStore_pending (sections : Sections) (faults : List (Nat × Word)) :
    (s.endStore sections faults).pending = s.pending := by
  unfold State.endStore
  dsimp only
  split <;> rfl

theorem State.endLoad_pending : s.endLoad.pending = s.pending := by
  unfold State.endLoad
  split <;> rfl

end

/-! ### Every command -/

/-- What `exec` answers holds the queue of `s`. -/
def QueueKeptBy (s : State) (o : Host.Outcome State Fault Refusal) : Prop := ∃ t, o = complete t ∧ t.pending = s.pending

section
variable {s t : State}

theorem queueKeptBy (h : t.pending = s.pending := by rfl) : QueueKeptBy s (complete t) := ⟨t, rfl, h⟩

/-- A command that takes effect only under its condition. -/
theorem queueKeptBy_guarded {p : Prop} [Decidable p] (h : t.pending = s.pending := by rfl) :
    QueueKeptBy s (if p then complete t else complete s) := by
  split
  · exact queueKeptBy h
  · exact queueKeptBy

end

section
variable (s : State)

theorem queueKeptBy_initialRefreshDone : QueueKeptBy s (execInitialRefreshDone s) := by
  unfold execInitialRefreshDone
  split
  · split <;> exact queueKeptBy
  · exact queueKeptBy

theorem queueKeptBy_millisecondTick : QueueKeptBy s (execMillisecondTick s) := by
  unfold execMillisecondTick
  split <;> exact queueKeptBy

theorem queueKeptBy_scanWord : QueueKeptBy s (execScanWord s) := by
  unfold execScanWord
  split
  · split
    · exact queueKeptBy
    · exact queueKeptBy (s.serveScanWord_pending _)
  all_goals exact queueKeptBy

theorem queueKeptBy_storeDone (faults : List (Nat × Word)) : QueueKeptBy s (execStoreDone faults s) := by
  unfold execStoreDone
  split
  · exact queueKeptBy (s.endStore_pending _ faults)
  all_goals exact queueKeptBy

theorem queueKeptBy_loadDone : QueueKeptBy s (execLoadDone s) := by
  unfold execLoadDone
  split
  · exact queueKeptBy s.endLoad_pending
  all_goals exact queueKeptBy

/-- Every command keeps the queue. -/
theorem exec_keepsQueue (c : Instr) : QueueKeptBy s (exec c s) := by
  cases c with
  | powerOn | supplyDip | resetLine => exact queueKeptBy
  | powerUpEnd | memoryInitPauseEnd | refreshDone | axleWindowEnd | ackReleaseSettled => exact queueKeptBy_guarded
  | initialRefreshDone => exact queueKeptBy_initialRefreshDone s
  | startupLoadDone => exact queueKeptBy_guarded ((State.releaseHeld_pending _).trans s.startupLoad_pending)
  | deskOnInputChange high => exact queueKeptBy (s.deskInput_pending high)
  | deskOnFilterChange => exact queueKeptBy_guarded s.deskChange_pending
  | millisecondTick => exact queueKeptBy_millisecondTick s
  | refreshTick => exact queueKeptBy_guarded s.refreshTick_pending
  | arbiterGrant => exact queueKeptBy s.arbitrate_pending
  | upstreamColumnDone => exact queueKeptBy s.columnDone_pending
  | upstreamArrival | statusWord0Read => exact queueKeptBy (s.arrive_pending _)
  | scanBurstArrival start count => exact queueKeptBy (s.arriveBurst_pending start count)
  | scanWord => exact queueKeptBy_scanWord s
  | freshnessExpiry n => exact queueKeptBy_guarded (Event.finish_pending (s.expire_only n))
  | changeoverTimerExpiry => exact queueKeptBy_guarded (State.takeRequests_only (s.setSelection _) _).pending
  | ackPress => exact queueKeptBy_guarded s.press_only.pending
  | axlePulse | ackLineAsserted | ackLineReleased | readTransfer => exact queueKeptBy
  | resetLineReleased | supplyGoodAfterDip => exact queueKeptBy
  | postMessageWord | postRaise | postClear | postAck | badPost => exact queueKeptBy (s.deskWrite_pending _ _)
  | storeDone faults => exact queueKeptBy_storeDone s faults
  | loadDone => exact queueKeptBy_loadDone s
  | linkAddressProbe | readRequest | sectionWrite | enterConfig | resume | store | load | release | clearRecall
  | restart | badCommand => exact queueKeptBy (s.linkTransfer_pending _)

end

theorem exec_pending {c : Instr} {s t : State} (h : exec c s = .next t) : t.pending = s.pending := by
  obtain ⟨u, hexec, hu⟩ := exec_keepsQueue s c
  rw [hexec] at h
  cases h
  exact hu

/-! ### The step (log 1) -/

theorem step_cons {c : Instr} {cs : List Instr} {s : State} (h : s.pending = c :: cs) :
    step s = exec c (s.withPending cs) := by
  simp only [step, h]

theorem step_nil {s : State} (h : s.pending = []) : step s = .next s := by
  simp only [step, h]

/-- Settles O1: the step goes by the queue (`step_cons`, `step_nil`), which no command changes (`exec_pending`). -/
theorem stepRunsFrontCommand : Obligations.StepRunsFrontCommand :=
  ⟨⟨fun _ _ _ => step_cons, fun _ => step_nil⟩, fun _ _ _ => exec_pending⟩

end Sys2Proof.Machine
end
